-- ==== Sys2Proof/Word.lean ====
section
/-! DEFINITION. The plainest words of the model: bytes, sets of numbered items as bitmaps, saturating and
clamping arithmetic, and the numbers of districts, feeds, joints, channels and slots (00_scope.md, "Numbers
used throughout"). -/

namespace Sys2Proof

/-- One byte on the District Control Line (R178). -/
abbrev Byte := BitVec 8

/-- D0 to D15. -/
abbrev DistrictId := Fin 16
/-- Feeds A to D, numbered A 0 to D 3 (R185). -/
abbrev FeedId := Fin 4
/-- J0 to J7. -/
abbrev JointId := Fin 8
/-- Probe channels P0 to P3. -/
abbrev ChannelId := Fin 4
/-- Master slots S0 to S5. -/
abbrev SlotId := Fin 6

def allDistricts : List DistrictId := [0, 1, 2, 3, 4, 5, 6, 7, 8, 9, 10, 11, 12, 13, 14, 15]
def allFeeds : List FeedId := [0, 1, 2, 3]
def allJoints : List JointId := [0, 1, 2, 3, 4, 5, 6, 7]
def allChannels : List ChannelId := [0, 1, 2, 3]
def allSlots : List SlotId := [0, 1, 2, 3, 4, 5]

/-- The nearest value within `lo` to `hi` (00_scope.md, Conventions). -/
def clamp (lo hi n : Nat) : Nat := max lo (min hi n)

/-- One more, holding at the maximum (00_scope.md, "Counters said to saturate"). -/
def satSucc (top n : Nat) : Nat := min top (n + 1)

/-- A set of numbered items with item `i` added (bit `i` is the item with number `i`, R182). -/
def addItem {n : Nat} (b : BitVec n) (i : Nat) : BitVec n := b ||| BitVec.twoPow n i

/-- A set of numbered items with item `i` removed. -/
def removeItem {n : Nat} (b : BitVec n) (i : Nat) : BitVec n := b &&& ~~~(BitVec.twoPow n i)

/-- The set of the items that satisfy `p`. -/
def bitmap (n : Nat) (p : Nat → Bool) : BitVec n :=
  (List.range n).foldl (fun b i => if p i then addItem b i else b) 0#n

end Sys2Proof
end

