-- ==== Sys2Proof/Config.lean ====
section
/-! DEFINITION. The configuration records of the part and their default values: districts (R2), feeds (R46),
joints (R145), the global timing record (R91), and the profile that carries all four (R176). The spec leaves no
value of this part open, so no opaque constant stands here. -/

namespace Sys2Proof

/-- Recovery policy of a district (R10). -/
inductive Policy | dark | auto | supervised | manual
  deriving DecidableEq, Repr

/-- Merge window of a feed, with its code order (R46, R187). -/
inductive MergeWindow | ms2 | ms5 | ms10 | ms20
  deriving DecidableEq, Repr

/-- Stall filter length of a feed (R46). -/
inductive StallFilter | n1 | n2 | n4 | n8
  deriving DecidableEq, Repr

/-- Debounce of a joint (R145). -/
inductive Debounce | ms1 | ms4 | ms16 | ms64
  deriving DecidableEq, Repr

/-- Settle time of a joint (R145). -/
inductive SettleTime | quarter | half | s1 | s2 | s4
  deriving DecidableEq, Repr

/-- Docking timeout of a joint (R145). -/
inductive DockingTimeout | s1 | s2 | s5 | s10 | s30
  deriving DecidableEq, Repr

/-- Samples of 250 µs of each merge window (R46, R62). -/
def MergeWindow.samples : MergeWindow → Nat
  | .ms2 => 8 | .ms5 => 20 | .ms10 => 40 | .ms20 => 80

def StallFilter.samples : StallFilter → Nat
  | .n1 => 1 | .n2 => 2 | .n4 => 4 | .n8 => 8

def Debounce.samples : Debounce → Nat
  | .ms1 => 4 | .ms4 => 16 | .ms16 => 64 | .ms64 => 256

def SettleTime.samples : SettleTime → Nat
  | .quarter => 1000 | .half => 2000 | .s1 => 4000 | .s2 => 8000 | .s4 => 16000

def DockingTimeout.samples : DockingTimeout → Nat
  | .s1 => 4000 | .s2 => 8000 | .s5 => 20000 | .s10 => 40000 | .s30 => 120000

/-- Configuration part of a district record, in the order of R2 (field ids 1 to 18 of R187). -/
structure DistrictConfig where
  feed : FeedId
  policy : Policy
  reversing : Bool
  patrol : Bool
  priority : Fin 4
  weight : Nat
  /-- T, trip threshold -/
  trip : Nat
  /-- H, hard limit -/
  hard : Nat
  /-- Q, overload allowance -/
  allowance : Nat
  /-- L, leak per sample -/
  leak : Nat
  /-- Qp, probe allowance -/
  probeAllowance : Nat
  /-- P, precharge limit -/
  preLimit : Nat
  /-- Tp, precharge time in ms -/
  preTime : Nat
  /-- N, ramp steps -/
  rampSteps : Nat
  /-- Ts, ramp step time in ms -/
  stepTime : Nat
  /-- Tc, confirm time in ms -/
  confirmTime : Nat
  lockoutLimit : Nat
  /-- W, swap window in samples -/
  swapWindow : Nat
  deriving DecidableEq, Repr

/-- Default configuration of district `d` (R2): feed `d div 4`. -/
def DistrictConfig.default (d : DistrictId) : DistrictConfig where
  feed := ⟨d.val / 4, by omega⟩
  policy := .auto
  reversing := false
  patrol := false
  priority := 2
  weight := 4
  trip := 300
  hard := 800
  allowance := 2000
  leak := 4
  probeAllowance := 8000
  preLimit := 40
  preTime := 50
  rampSteps := 4
  stepTime := 20
  confirmTime := 200
  lockoutLimit := 5
  swapWindow := 16

/-- Configuration part of a feed record, in the order of R46 (field ids 1 to 8). -/
structure FeedConfig where
  budget : Nat
  /-- K, mass threshold -/
  massThreshold : Nat
  mergeWindow : MergeWindow
  /-- M, mass cool-off in ticks -/
  massCool : Nat
  /-- S, stagger in ticks -/
  stagger : Nat
  /-- shed delay in ms -/
  shedDelay : Nat
  /-- stall polarity: a high level shows stalled -/
  stallHigh : Bool
  stallFilter : StallFilter
  deriving DecidableEq, Repr

/-- Default configuration of a feed (R46). -/
def FeedConfig.default : FeedConfig where
  budget := 8
  massThreshold := 3
  mergeWindow := .ms5
  massCool := 50
  stagger := 30
  shedDelay := 100
  stallHigh := false
  stallFilter := .n4

/-- Configuration part of a joint record, in the order of R145 (field ids 1 to 6). -/
structure JointConfig where
  enabled : Bool
  cover : BitVec 16
  /-- sense polarity: a high level shows coupled -/
  coupledHigh : Bool
  debounce : Debounce
  settle : SettleTime
  docking : DockingTimeout
  deriving DecidableEq, Repr

/-- Default configuration of a joint (R145). -/
def JointConfig.default : JointConfig where
  enabled := false
  cover := 0#16
  coupledHigh := false
  debounce := .ms16
  settle := .s1
  docking := .s10

/-- The global timing record (R91), field ids 1 to 6. -/
structure Globals where
  k : Nat
  /-- B, backoff base -/
  base : Nat
  /-- C, backoff ceiling -/
  ceiling : Nat
  probation : Nat
  /-- G, grant window -/
  grantWindow : Nat
  patrol : Nat
  deriving DecidableEq, Repr

/-- Default global timing record (R91). -/
def Globals.default : Globals where
  k := 3
  base := 25
  ceiling := 1000
  probation := 250
  grantWindow := 3750
  patrol := 1250

/-- All stored configuration: what the profile image carries (R176). -/
structure Profile where
  districts : Vector DistrictConfig 16
  feeds : Vector FeedConfig 4
  joints : Vector JointConfig 8
  globals : Globals
  deriving DecidableEq, Repr

/-- Every configuration field at its default (R176, invalid image). -/
def Profile.default : Profile where
  districts := Vector.ofFn DistrictConfig.default
  feeds := Vector.replicate 4 FeedConfig.default
  joints := Vector.replicate 8 JointConfig.default
  globals := Globals.default

/-- A valid image as it is loaded: a stored C below the stored B is taken as B (R91, R176). -/
def Profile.loaded (p : Profile) : Profile :=
  { p with globals := { p.globals with ceiling := max p.globals.ceiling p.globals.base } }

end Sys2Proof
end

