-- ==== Sys2Proof/Syntax.lean ====
section
/-! DEFINITION. The commands of the part: one constructor per row of spec/opcode_table.json, in the table's
order. A request of the line carries the SOURCE byte of its frame and its payload bytes (R178, R182); a sample
carries what the pin shows; an event of a numbered record carries the record's number. -/

namespace Sys2Proof

/-- One command or event of the part. -/
inductive Instr where
  /-- Reset, with the levels of the straps ADS0 to ADS3 (R175). -/
  | powerOnReset (straps : BitVec 4)
  /-- A sample of district `d`: shunt current in 10 mA units before saturation, and the level of its
  voltage-present comparator (R27). -/
  | currentSample (d : DistrictId) (units : Nat) (voltage : Bool)
  | swapWindowSuccess (d : DistrictId)
  | episodeWindowExpiry (f : FeedId)
  | episodeCapExpiry (f : FeedId)
  | stallAssertion (f : FeedId)
  | stallClear (f : FeedId)
  | feedFirstDecision (f : FeedId)
  | shed (f : FeedId)
  | coolExpiry (d : DistrictId)
  | grantExpiry (d : DistrictId)
  | probationExpiry (d : DistrictId)
  | patrolExpiry (d : DistrictId)
  | senseEnd (c : ChannelId)
  | prechargeEnd (c : ChannelId)
  | rampStepEnd (c : ChannelId)
  | confirmEnd (c : ChannelId)
  | probeLifetimeExpiry (c : ChannelId)
  | jointFirstDecision (j : JointId)
  | debouncedInputChange (j : JointId)
  | settleExpiry (j : JointId)
  | dockingExpiry (j : JointId)
  | partStatus (src : Byte) (payload : List Byte)
  | summary (src : Byte) (payload : List Byte)
  | districtStatus (src : Byte) (payload : List Byte)
  | feedStatus (src : Byte) (payload : List Byte)
  | jointStatus (src : Byte) (payload : List Byte)
  | readDistrictConfig (src : Byte) (payload : List Byte)
  | readFeedConfig (src : Byte) (payload : List Byte)
  | readJointConfig (src : Byte) (payload : List Byte)
  | readGlobals (src : Byte) (payload : List Byte)
  | join (src : Byte) (payload : List Byte)
  | leave (src : Byte) (payload : List Byte)
  | subscribe (src : Byte) (payload : List Byte)
  | hold (src : Byte) (payload : List Byte)
  | release (src : Byte) (payload : List Byte)
  | breakHold (src : Byte) (payload : List Byte)
  | acceptJoint (src : Byte) (payload : List Byte)
  | grant (src : Byte) (payload : List Byte)
  | retryNow (src : Byte) (payload : List Byte)
  | clear (src : Byte) (payload : List Byte)
  | setDistrict (src : Byte) (payload : List Byte)
  | setFeed (src : Byte) (payload : List Byte)
  | setJoint (src : Byte) (payload : List Byte)
  | setGlobals (src : Byte) (payload : List Byte)
  | storeProfile (src : Byte) (payload : List Byte)
  /-- The end of the profile write; `agrees` is what the read-back check finds (R177). -/
  | profileWriteEnd (agrees : Bool)
  | setMode (src : Byte) (payload : List Byte)
  | unknownKindRequest (src : Byte) (kind : Byte) (payload : List Byte)
  /-- A valid frame with this DEST, which is not the part's address (R179). -/
  | foreignFrame (dest : Byte)
  /-- A valid frame for this part with this SOURCE, 0 or above 63 (R179). -/
  | badSourceFrame (src : Byte)
  | checkError
  | frameError
  | interByteTimeout
  | replyStart
  | replyEnd
  | replyCollision
  | tickBoundary
  /-- A sample of the stall line of feed `f`: whether the level is high (R47). -/
  | stallLineSample (f : FeedId) (high : Bool)
  /-- A sample of the sense line of joint `j`: whether the level is high (R147). -/
  | jointSenseSample (j : JointId) (high : Bool)
  | frameStart
  deriving DecidableEq, Repr

end Sys2Proof
end

