-- ==== Sys2Proof/Machine/State.lean ====
section
/-! DEFINITION. The state of the part: every block's records (00_scope.md, Blocks), the queue of waiting
commands, and the state after reset (R175). State is plain data. The named updates stand here with it; their
lemmas are in Sys2Proof/Laws/State.lean. -/

namespace Sys2Proof.Machine

/-- Operating mode (R170). -/
inductive Mode | standby | run
  deriving DecidableEq, Repr

/-! ### District Table (chapter 1) -/

inductive Polarity | normal | swapped
  deriving DecidableEq, Repr

/-- The other polarity (R35). -/
def Polarity.toggle : Polarity → Polarity
  | .normal => .swapped
  | .swapped => .normal

inductive CoolPhase | merging | counting
  deriving DecidableEq, Repr

/-- Where an ISOLATED district returns (R19); a retained count stands in the district's timer (R78). -/
inductive ResumeTo | coolRetained | coolPending | queued | awaitingGrant
  deriving DecidableEq, Repr

inductive LockCause | limit | manualPolicy | grantLapsed
  deriving DecidableEq, Repr

inductive LookStatus | noLook | queued | inFlight
  deriving DecidableEq, Repr

/-- District state with the optional fields that are present in it (R3, R11). -/
inductive DistrictState where
  | off
  | live
  | cooling (phase : CoolPhase)
  | awaitingGrant
  | queued
  | probing
  | isolated (resume : ResumeTo)
  | locked (cause : LockCause) (look : LookStatus)
  deriving DecidableEq, Repr

inductive TripCause | hard | overload | reversalFailed
  deriving DecidableEq, Repr

inductive FailCause | backfeed | shortPersists | rampTrip | noVoltage | confirmTrip | lifetime
  deriving DecidableEq, Repr

/-- Dynamic part of a district record (R3 to R8, R14). The joint part of the isolation set, the episode
membership flag, the timer view and the probe view are read from the blocks that hold them. -/
structure District where
  st : DistrictState
  /-- F -/
  failures : Nat
  probation : Bool
  lastTrip : Option TripCause
  lastFail : Option FailCause
  trips : Nat
  swaps : Nat
  polarity : Polarity
  holders : BitVec 6
  deriving DecidableEq, Repr

/-- Reset values of R3 to R8 and R14. -/
def District.reset : District :=
  { st := .off, failures := 0, probation := false, lastTrip := none, lastFail := none, trips := 0,
    swaps := 0, polarity := .normal, holders := 0#6 }

/-! ### Current Monitor (chapter 2) -/

inductive WindowSetting | live | confirm
  deriving DecidableEq, Repr

/-- Swap window (R26, R35). `ended` is the model's own: the sample that brings samples remaining to 0 has been
taken, and the window's success is due (log entry 5). -/
structure SwapWindow where
  remaining : Nat
  before : Polarity
  setting : WindowSetting
  ended : Bool
  deriving DecidableEq, Repr

/-- Monitor record (R26). The history is oldest first. -/
structure Monitor where
  history : Vector Nat 8
  voltage : Bool
  integrator : Nat
  window : Option SwapWindow
  confirmSwapUsed : Bool
  deriving DecidableEq, Repr

/-- Reset values of R26. -/
def Monitor.reset : Monitor :=
  { history := Vector.replicate 8 0, voltage := false, integrator := 0, window := none,
    confirmSwapUsed := false }

/-! ### Feed Monitor (chapter 3) -/

/-- Shed phase (R46); the remaining time is in quarters of a ms. -/
inductive ShedPhase where
  | idle
  | pending (quarters : Nat)
  | shed
  deriving DecidableEq, Repr

/-- Dynamic part of a feed record (R46), with the last sample shown (R48). -/
structure Feed where
  stalled : Bool
  decided : Bool
  filterRun : Nat
  lastShown : Bool
  phase : ShedPhase
  deriving DecidableEq, Repr

/-- Reset values of R46 and R48. -/
def Feed.reset : Feed :=
  { stalled := true, decided := false, filterRun := 0, lastShown := false, phase := .idle }

/-! ### Episode Merger (chapter 4) -/

/-- The window of an ordinary episode (R60, R62). `out` is the model's own: the window remaining has reached 0
at a boundary, and the close is due (log entry 5). -/
structure EpisodeWindow where
  remaining : Nat
  opening : Nat
  total : Nat
  out : Bool
  deriving DecidableEq, Repr

/-- How the episode was opened; a shed episode has no window (R60, R67). -/
inductive EpisodeKind where
  | ordinary (w : EpisodeWindow)
  | shed
  deriving DecidableEq, Repr

/-- Open episode (R60). Members in arrival order; the waiting probes are a set of channels. -/
structure Episode where
  members : List DistrictId
  kind : EpisodeKind
  stallFlag : Bool
  waiting : BitVec 4
  deriving DecidableEq, Repr

inductive EpisodeClass | localClass | massClass
  deriving DecidableEq, Repr

inductive CloseCause | window | cap | stallClear
  deriving DecidableEq, Repr

/-- Last closed episode summary (R76). -/
structure Summary where
  cls : Option EpisodeClass
  count : Nat
  cause : Option CloseCause
  deriving DecidableEq, Repr

/-- Reset values of R76. -/
def Summary.reset : Summary := { cls := none, count := 0, cause := none }

/-! ### Recovery Timer Bank (chapter 5) -/

inductive Purpose | cool | grant | probation | patrol
  deriving DecidableEq, Repr

inductive TimerMode | oneShot | repeating
  deriving DecidableEq, Repr

/-- District timer (R78). `boundary` is the model's own: the tick boundary that brings the count from 1 to 0
has come and the expiry is due (log entry 5). -/
structure Timer where
  count : Nat
  purpose : Option Purpose
  mode : TimerMode
  running : Bool
  boundary : Bool
  deriving DecidableEq, Repr

/-- The empty timer (R78). -/
def Timer.empty : Timer :=
  { count := 0, purpose := none, mode := .oneShot, running := false, boundary := false }

/-! ### Ready Queues and Admission Arbiter (chapter 6) -/

inductive EntryKind | full | look
  deriving DecidableEq, Repr

/-- Queue entry (R96). -/
structure Entry where
  district : DistrictId
  kind : EntryKind
  priority : Fin 4
  deriving DecidableEq, Repr

/-! ### Probe Engine (chapters 7 and 8) -/

/-- The probe profile as copied at the grant (R111). -/
structure ProbeProfile where
  preLimit : Nat
  preTime : Nat
  rampSteps : Nat
  stepTime : Nat
  confirmTime : Nat
  allowance : Nat
  deriving DecidableEq, Repr

/-- Stage of a probe, with the step in RAMP and the start check in CONFIRM (R111). -/
inductive Stage where
  | sense
  | precharge
  | ramp (step : Nat)
  | confirm (startPending : Bool)
  deriving DecidableEq, Repr

inductive PauseCause | sibling | stall
  deriving DecidableEq, Repr

/-- Where a paused probe continues (R133, R138). `precharge j` is PRECHARGE in full, then RAMP from step j. -/
inductive ResumePoint where
  | sense
  | precharge (rampStep : Nat)
  | ramp (step : Nat)
  | confirm
  | lookPass
  deriving DecidableEq, Repr

structure Pause where
  cause : PauseCause
  resume : ResumePoint
  deriving DecidableEq, Repr

/-- Probe context, with the Arbiter's record of the channel (R103, R111). The lifetime is in quarters of a
ms. -/
structure Probe where
  district : DistrictId
  feed : FeedId
  kind : EntryKind
  weight : Nat
  profile : ProbeProfile
  stage : Stage
  entryStep : Nat
  elapsed : Nat
  pause : Option Pause
  lifetime : Nat
  deriving DecidableEq, Repr

/-! ### Joint Monitor (chapter 9) -/

inductive JointState | coupled | opened | docking | fault
  deriving DecidableEq, Repr

/-- A joint timer in samples. `ended` is the model's own: the boundary of its expiry has come (log entry 5). -/
structure JointTimer where
  remaining : Nat
  ended : Bool
  deriving DecidableEq, Repr

/-- Dynamic part of a joint record (R146), with the last sample shown (R148). -/
structure Joint where
  st : JointState
  decided : Bool
  input : Bool
  filterRun : Nat
  lastShown : Bool
  settle : Option JointTimer
  docking : Option JointTimer
  deriving DecidableEq, Repr

/-- Reset values of R146. -/
def Joint.reset : Joint :=
  { st := .opened, decided := false, input := false, filterRun := 0, lastShown := false, settle := none,
    docking := none }

/-! ### Master Table (chapter 10) -/

/-- Occupied slot (R158); the sets are bitmaps as R182 lays them out. -/
structure Slot where
  node : Byte
  subscription : BitVec 8
  feedEnable : Bool
  jointEnable : Bool
  changedDistricts : BitVec 16
  changedFeeds : BitVec 4
  changedJoints : BitVec 8
  deriving DecidableEq, Repr

/-! ### Line Interface (chapter 12) -/

/-- Reply status (R182). -/
inductive Status where
  | ok | busy | refusedState | notJoined | noSlot | badArg | notDue | notHolder | holding | isolated | mode
  | unknownKind
  deriving DecidableEq, Repr

/-- The content of a reply, fixed when the request takes effect (R180). -/
structure Reply where
  dest : Byte
  kind : Byte
  status : Status
  payload : List Byte
  deriving DecidableEq, Repr

/-- Condition of the Line Interface (R178 to R180). In the last two the receive side is closed. -/
inductive LineCond where
  | hunting
  | inFrame
  | replyDue (r : Reply)
  | replying (r : Reply)
  deriving DecidableEq, Repr

structure Line where
  cond : LineCond
  buffer : List Byte
  checkErrors : Nat
  frameErrors : Nat
  replyCollisions : Nat
  deriving DecidableEq, Repr

/-- Reset values of R175 and R181. -/
def Line.reset : Line :=
  { cond := .hunting, buffer := [], checkErrors := 0, frameErrors := 0, replyCollisions := 0 }

/-! ### The whole part -/

/-- The state of the part. -/
structure State where
  /-- commands waiting, first in first out (the model's own) -/
  pending : List Instr
  mode : Mode
  lineAddress : BitVec 4
  /-- configuration in force -/
  cfg : Profile
  districts : Vector District 16
  monitors : Vector Monitor 16
  /-- the districts sampled in the running sample period (the model's own, log entry 6) -/
  sampled : BitVec 16
  timers : Vector Timer 16
  /-- tick prescaler in ms, and the quarter of the running ms -/
  prescaler : Nat
  quarter : Nat
  feeds : Vector Feed 4
  episodes : Vector (Option Episode) 4
  summaries : Vector Summary 4
  queues : Vector (List Entry) 4
  channels : Vector (Option Probe) 4
  lastGranted : FeedId
  joints : Vector Joint 8
  slots : Vector (Option Slot) 6
  line : Line
  /-- the profile image; none is an invalid image (R176) -/
  image : Option Profile
  profileLost : Bool
  /-- the configuration being written while a profile write is in flight (R177) -/
  writing : Option Profile
  deriving DecidableEq, Repr

/-- Why the part stops: never. The spec names no fault that stops the part, and no meaning of this model
answers with one, so the type has no constructor (safe). -/
inductive Fault
  deriving DecidableEq, Repr

/-- Why a command has no meaning. -/
inductive Refusal where
  /-- Raised by exec alone, for a command that has no meaning in the model yet; no arm of exec raises it now
  (safe). -/
  | notModelled (mnemonic : String)
  deriving DecidableEq, Repr

namespace State

/-! Reads of the numbered records. -/

def dcfg (s : State) (d : DistrictId) : DistrictConfig := s.cfg.districts[d]
def fcfg (s : State) (f : FeedId) : FeedConfig := s.cfg.feeds[f]
def jcfg (s : State) (j : JointId) : JointConfig := s.cfg.joints[j]
def district (s : State) (d : DistrictId) : District := s.districts[d]
def monitor (s : State) (d : DistrictId) : Monitor := s.monitors[d]
def timer (s : State) (d : DistrictId) : Timer := s.timers[d]
def feed (s : State) (f : FeedId) : Feed := s.feeds[f]
def episode (s : State) (f : FeedId) : Option Episode := s.episodes[f]
def summary (s : State) (f : FeedId) : Summary := s.summaries[f]
def queue (s : State) (f : FeedId) : List Entry := s.queues[f]
def channel (s : State) (c : ChannelId) : Option Probe := s.channels[c]
def joint (s : State) (j : JointId) : Joint := s.joints[j]
def slot (s : State) (n : SlotId) : Option Slot := s.slots[n]

/-! Updates of the numbered records. -/

def setDcfg (s : State) (d : DistrictId) (x : DistrictConfig) : State :=
  { s with cfg := { s.cfg with districts := s.cfg.districts.set d x } }
def setFcfg (s : State) (f : FeedId) (x : FeedConfig) : State :=
  { s with cfg := { s.cfg with feeds := s.cfg.feeds.set f x } }
def setJcfg (s : State) (j : JointId) (x : JointConfig) : State :=
  { s with cfg := { s.cfg with joints := s.cfg.joints.set j x } }
def setGlobals (s : State) (g : Globals) : State := { s with cfg := { s.cfg with globals := g } }
def setDistrict (s : State) (d : DistrictId) (x : District) : State :=
  { s with districts := s.districts.set d x }
def setMonitor (s : State) (d : DistrictId) (x : Monitor) : State :=
  { s with monitors := s.monitors.set d x }
def setTimer (s : State) (d : DistrictId) (x : Timer) : State := { s with timers := s.timers.set d x }
def setFeed (s : State) (f : FeedId) (x : Feed) : State := { s with feeds := s.feeds.set f x }
def setEpisode (s : State) (f : FeedId) (x : Option Episode) : State :=
  { s with episodes := s.episodes.set f x }
def setSummary (s : State) (f : FeedId) (x : Summary) : State :=
  { s with summaries := s.summaries.set f x }
def setQueue (s : State) (f : FeedId) (x : List Entry) : State := { s with queues := s.queues.set f x }
def setChannel (s : State) (c : ChannelId) (x : Option Probe) : State :=
  { s with channels := s.channels.set c x }
def setJoint (s : State) (j : JointId) (x : Joint) : State := { s with joints := s.joints.set j x }
def setSlot (s : State) (n : SlotId) (x : Option Slot) : State := { s with slots := s.slots.set n x }

/-! Updates of the single fields. -/

def setMode (s : State) (m : Mode) : State := { s with mode := m }
def setLine (s : State) (l : Line) : State := { s with line := l }
def setClock (s : State) (prescaler quarter : Nat) : State :=
  { s with prescaler := prescaler, quarter := quarter }
def setSampled (s : State) (ds : BitVec 16) : State := { s with sampled := ds }
def setLastGranted (s : State) (f : FeedId) : State := { s with lastGranted := f }
def setProfileStore (s : State) (image : Option Profile) (lost : Bool) (writing : Option Profile) : State :=
  { s with image := image, profileLost := lost, writing := writing }
def setPending (s : State) (q : List Instr) : State := { s with pending := q }

/-- The state after power-on or a RSTN reset, from the strap levels, the profile image as it stands, and the
commands waiting outside (R175, R176). -/
def afterReset (straps : BitVec 4) (image : Option Profile) (pending : List Instr) : State where
  pending := pending
  mode := .standby
  lineAddress := straps
  cfg := match image with
    | some p => p.loaded
    | none => Profile.default
  districts := Vector.replicate 16 District.reset
  monitors := Vector.replicate 16 Monitor.reset
  sampled := 0#16
  timers := Vector.replicate 16 Timer.empty
  prescaler := 0
  quarter := 0
  feeds := Vector.replicate 4 Feed.reset
  episodes := Vector.replicate 4 none
  summaries := Vector.replicate 4 Summary.reset
  queues := Vector.replicate 4 []
  channels := Vector.replicate 4 none
  lastGranted := 3
  joints := Vector.replicate 8 Joint.reset
  slots := Vector.replicate 6 none
  line := Line.reset
  image := image
  profileLost := image.isNone
  writing := none

/-- The part right after its first power-on: an image that was never written is invalid (R176), the straps read
0 (DESIGN CHOICE, log entry 7), and no command waits. -/
def reset : State := afterReset 0#4 none []

end State

end Sys2Proof.Machine
end

