-- ==== Sys2Proof/Machine/Flags.lean ====
section
/-! DEFINITION. What is read off the state: the isolation set, the membership flag, the budget in use, the
detection condition, the drive outputs, and the conditions in which an event of the table is due. Nothing here
changes the state. -/

namespace Sys2Proof.Machine

/-! ### Isolation (R14, R153) -/

/-- Joint `j` isolates district `d`: it is enabled, not COUPLED, and its cover set contains `d` (R153). -/
def jointIsolates (s : State) (j : JointId) (d : DistrictId) : Bool :=
  (s.jcfg j).enabled && (s.joint j).st != .coupled && (s.jcfg j).cover.getLsbD d.val

/-- The joint part of a district's isolation set (R14, R153). -/
def jointPart (s : State) (d : DistrictId) : BitVec 8 :=
  bitmap 8 (fun j => if h : j < 8 then jointIsolates s ⟨j, h⟩ d else false)

/-- The isolation set is not empty: a holder or an isolating joint stands in it (R14). -/
def isolationSet (s : State) (d : DistrictId) : Bool :=
  (s.district d).holders != 0#6 || jointPart s d != 0#8

/-- The isolation set of `d` differs between two states (R14). -/
def isolationDiffers (before after : State) (d : DistrictId) : Bool :=
  (before.district d).holders != (after.district d).holders || jointPart before d != jointPart after d

/-- The districts that joint `j` isolates at this moment (R157). -/
def isolatedByJoint (s : State) (j : JointId) : BitVec 16 :=
  if (s.jcfg j).enabled && (s.joint j).st != .coupled then (s.jcfg j).cover else 0#16

/-- The districts that slot `n` holds (R160). -/
def heldBy (s : State) (n : SlotId) : BitVec 16 :=
  bitmap 16 (fun d => if h : d < 16 then (s.district ⟨d, h⟩).holders.getLsbD n.val else false)

/-! ### Episodes, channels, budgets -/

/-- District `d` stands in the open episode of feed `f`. -/
def memberOf (s : State) (f : FeedId) (d : DistrictId) : Bool :=
  match s.episode f with
  | some e => e.members.contains d
  | none => false

/-- The episode membership flag (R5): the Merger holds `d` as a member of an open episode. -/
def episodeMember (s : State) (d : DistrictId) : Bool := allFeeds.any (fun f => memberOf s f d)

/-- The channel that district `d` occupies, if any (R112). -/
def channelOf (s : State) (d : DistrictId) : Option ChannelId :=
  allChannels.find? (fun c => match s.channel c with
    | some p => p.district == d
    | none => false)

/-- The probe context of district `d`, if it occupies a channel. -/
def probeOf (s : State) (d : DistrictId) : Option Probe := (channelOf s d).bind (fun c => s.channel c)

/-- The weight that channel `c` counts against feed `f` (R103). -/
def channelWeight (s : State) (f : FeedId) (c : ChannelId) : Nat :=
  match s.channel c with
  | some p => if p.feed == f then p.weight else 0
  | none => 0

/-- Budget in use of feed `f`: the sum of e over the channels that hold its districts (R103). -/
def budgetInUse (s : State) (f : FeedId) : Nat :=
  (allChannels.map (channelWeight s f)).sum

/-- Number of channels that feed `f` holds (R110). -/
def channelsHeld (s : State) (f : FeedId) : Nat :=
  (allChannels.filter (fun c => match s.channel c with
    | some p => p.feed == f
    | none => false)).length

/-- Whether channel `c` stands among the waiting probes of feed `f`'s open episode (R60). -/
def waits (s : State) (f : FeedId) (c : ChannelId) : Bool :=
  match s.episode f with
  | some e => e.waiting.getLsbD c.val
  | none => false

/-- A district that receives a count at the close of its episode (R72). -/
def receivesCount (s : State) (d : DistrictId) : Bool :=
  match (s.district d).st with
  | .cooling .merging => true
  | .isolated .coolPending => true
  | _ => false

/-! ### Detection (R28) -/

/-- The allowance of the detection check for district `d`, or none where detection is inactive (R28). -/
def detection (s : State) (d : DistrictId) : Option Nat :=
  if (s.monitor d).window.isSome then some (s.dcfg d).allowance
  else if (s.district d).st == .live then
    if (s.feed (s.dcfg d).feed).stalled then none else some (s.dcfg d).allowance
  else match probeOf s d with
    | none => none
    | some p =>
      match p.pause with
      | some ⟨.sibling, _⟩ => some p.profile.allowance
      | some ⟨.stall, _⟩ => none
      | none =>
        match p.stage with
        | .ramp _ => some p.profile.allowance
        | .confirm _ => some (s.dcfg d).allowance
        | .sense => none
        | .precharge => none

/-! ### Drive outputs (R8, R12, R180) -/

/-- State of a district's switch output: open, driven at duty k/N, or closed full on (R12). -/
inductive SwitchDrive where
  | opened
  | duty (k n : Nat)
  | closed
  deriving DecidableEq, Repr

/-- Switch of a probe in its channel (R12). -/
def probeSwitch (p : Probe) : SwitchDrive :=
  match p.pause with
  | some ⟨.stall, _⟩ => .opened
  | _ =>
    match p.stage with
    | .ramp k => .duty k p.profile.rampSteps
    | .confirm _ => .closed
    | .sense => .opened
    | .precharge => .opened

/-- DSW output of district `d` (R12). -/
def switchDrive (s : State) (d : DistrictId) : SwitchDrive :=
  match (s.district d).st with
  | .live => .closed
  | .probing | .locked _ .inFlight =>
    match probeOf s d with
    | some p => probeSwitch p
    | none => .opened
  | _ => .opened

/-- DPC output of district `d`: whether the precharge path is closed (R12). -/
def prechargeDrive (s : State) (d : DistrictId) : Bool :=
  match (s.district d).st with
  | .probing | .locked _ .inFlight =>
    match probeOf s d with
    | some p =>
      p.stage == .precharge && (match p.pause with
        | some ⟨.stall, _⟩ => false
        | _ => true)
    | none => false
  | _ => false

/-- DPL output of district `d`: whether the relay is energised (R8). -/
def relayDrive (s : State) (d : DistrictId) : Bool :=
  (s.dcfg d).reversing && (s.district d).polarity == .swapped

/-- LDEN (R180). -/
def driverEnabled (s : State) : Bool :=
  match s.line.cond with
  | .replying _ => true
  | _ => false

/-! ### When an event of the table is due (log entry 2)

An event comes about when the counter of its rule has run out; these are the rules' own conditions. -/

/-- A timer of purpose `p` has reached its expiry boundary (R80). -/
def timerDue (t : Timer) (p : Purpose) : Bool :=
  t.purpose == some p && t.running && t.boundary

/-- R82: COOLING in phase counting. -/
def coolDue (s : State) (d : DistrictId) : Bool :=
  (s.district d).st == .cooling .counting && timerDue (s.timer d) .cool

/-- R84: AWAITING_GRANT. -/
def grantDue (s : State) (d : DistrictId) : Bool :=
  (s.district d).st == .awaitingGrant && timerDue (s.timer d) .grant

/-- R86: LIVE with the probation flag set. -/
def probationDue (s : State) (d : DistrictId) : Bool :=
  (s.district d).st == .live && (s.district d).probation && timerDue (s.timer d) .probation

/-- R89: LOCKED with its PATROL timer running. -/
def patrolDue (s : State) (d : DistrictId) : Bool :=
  (match (s.district d).st with
    | .locked _ _ => true
    | _ => false) && timerDue (s.timer d) .patrol

/-- LOCKED with no look pending (R89). -/
def DistrictState.lookFree : DistrictState → Bool
  | .locked _ .noLook => true
  | _ => false

/-- The swap window of `d` has taken its last sample without a trip (R38). -/
def swapSuccessDue (s : State) (d : DistrictId) : Bool :=
  match (s.monitor d).window with
  | some w => w.ended
  | none => false

/-- Samples of the stage or step in which a probe stands (R114). -/
def stageSamples (p : Probe) : Nat :=
  match p.stage with
  | .sense => 8
  | .precharge => 4 * p.profile.preTime
  | .ramp _ => 4 * p.profile.stepTime
  | .confirm _ => 4 * p.profile.confirmTime

/-- A running probe has taken the last sample of its stage or step; the end of CONFIRM is held while a swap
window is present (R114, R118). -/
def stageDue (s : State) (p : Probe) : Bool :=
  p.pause == none && decide (stageSamples p ≤ p.elapsed) &&
    (match p.stage with
      | .confirm _ => (s.monitor p.district).window.isNone
      | _ => true)

/-- The probe in channel `c` is at the end of its stage, and the stage satisfies `q`. -/
def channelDue (s : State) (c : ChannelId) (q : Stage → Bool) : Bool :=
  match s.channel c with
  | some p => q p.stage && stageDue s p
  | none => false

def Stage.isSense : Stage → Bool
  | .sense => true
  | _ => false
def Stage.isPrecharge : Stage → Bool
  | .precharge => true
  | _ => false
def Stage.isRamp : Stage → Bool
  | .ramp _ => true
  | _ => false
def Stage.isConfirm : Stage → Bool
  | .confirm _ => true
  | _ => false

/-- The ordinary episode's total length has reached its cap (R62). -/
def capReached (w : EpisodeWindow) : Bool := decide (8 * w.opening ≤ w.total)

/-- The close of feed `f`'s open ordinary episode is due, with its cause; CAP where both hold (R62). -/
def closeDue (s : State) (f : FeedId) : Option CloseCause :=
  match s.episode f with
  | some e =>
    match e.kind with
    | .ordinary w => if capReached w then some .cap else if w.out then some .window else none
    | .shed => none
  | none => none

/-- The filter run of feed `f` has reached its filter setting (R47, R48). -/
def filterFull (s : State) (f : FeedId) : Bool :=
  decide ((s.fcfg f).stallFilter.samples ≤ (s.feed f).filterRun)

def assertionDue (s : State) (f : FeedId) : Bool :=
  (s.feed f).decided && !(s.feed f).stalled && filterFull s f
def clearDue (s : State) (f : FeedId) : Bool :=
  (s.feed f).decided && (s.feed f).stalled && filterFull s f
def feedDecisionDue (s : State) (f : FeedId) : Bool := !(s.feed f).decided && filterFull s f

/-- The shed timer of feed `f` runs (R53); when it expires is wall time (log entry 4). -/
def shedPending (s : State) (f : FeedId) : Bool :=
  s.mode == .run && (match (s.feed f).phase with
    | .pending _ => true
    | _ => false)

/-- The filter run of joint `j` has reached its debounce (R147, R148). -/
def debounceFull (s : State) (j : JointId) : Bool :=
  decide ((s.jcfg j).debounce.samples ≤ (s.joint j).filterRun)

def inputChangeDue (s : State) (j : JointId) : Bool := (s.joint j).decided && debounceFull s j
def jointDecisionDue (s : State) (j : JointId) : Bool := !(s.joint j).decided && debounceFull s j

/-- A joint timer is present and has run out (R152). -/
def jointTimerOver (t : Option JointTimer) : Bool :=
  match t with
  | some t => t.ended
  | none => false

def settleDue (s : State) (j : JointId) : Bool :=
  (s.joint j).st == .docking && jointTimerOver (s.joint j).settle
def dockingDue (s : State) (j : JointId) : Bool :=
  ((s.joint j).st == .opened || (s.joint j).st == .docking) && jointTimerOver (s.joint j).docking

/-! ### Masters -/

/-- The slot that holds node `src` (R158). -/
def slotOf (s : State) (src : Byte) : Option SlotId :=
  allSlots.find? (fun n => match s.slot n with
    | some x => x.node == src
    | none => false)

/-- A node is joined while a slot holds its node id (R158). -/
def joined (s : State) (src : Byte) : Bool := (slotOf s src).isSome

/-- The receive side is closed from the acceptance of a request until its reply ends (R179). -/
def lineClosed (s : State) : Bool :=
  match s.line.cond with
  | .replyDue _ => true
  | .replying _ => true
  | _ => false

end Sys2Proof.Machine
end

