-- ==== Sys2Proof/Machine/Ops.lean ====
section
/-! DEFINITION. The shared operations of the blocks: marks (R162), the timer operations (R79), queue placement
and removal (R98, R99), the ends of swap windows and probes (R39, R107), entry to LOCKED (R42, R84, R123), and
the walks over districts, channels and the other numbered records. -/

namespace Sys2Proof.Machine

/-! ### Walks in ascending number -/

def forDistricts (f : DistrictId → State → State) (s : State) : State :=
  allDistricts.foldl (fun s d => f d s) s
def forChannels (f : ChannelId → State → State) (s : State) : State :=
  allChannels.foldl (fun s c => f c s) s
def forFeeds (g : FeedId → State → State) (s : State) : State :=
  allFeeds.foldl (fun s f => g f s) s
def forJoints (f : JointId → State → State) (s : State) : State :=
  allJoints.foldl (fun s j => f j s) s
def forSlots (f : SlotId → State → State) (s : State) : State :=
  allSlots.foldl (fun s n => f n s) s

/-! ### Updates of one record by a function -/

def State.modDistrict (s : State) (d : DistrictId) (f : District → District) : State :=
  s.setDistrict d (f (s.district d))
def State.modMonitor (s : State) (d : DistrictId) (f : Monitor → Monitor) : State :=
  s.setMonitor d (f (s.monitor d))
def State.modFeed (s : State) (f : FeedId) (g : Feed → Feed) : State := s.setFeed f (g (s.feed f))
def State.modEpisode (s : State) (f : FeedId) (g : Episode → Episode) : State :=
  s.setEpisode f ((s.episode f).map g)
def State.modChannel (s : State) (c : ChannelId) (g : Probe → Probe) : State :=
  s.setChannel c ((s.channel c).map g)
def State.modJoint (s : State) (j : JointId) (g : Joint → Joint) : State := s.setJoint j (g (s.joint j))
def State.modSlot (s : State) (n : SlotId) (g : Slot → Slot) : State := s.setSlot n ((s.slot n).map g)

/-- The district takes state `x`. -/
def setSt (d : DistrictId) (x : DistrictState) (s : State) : State :=
  s.modDistrict d (fun r => { r with st := x })

/-- The integrator of `d` is set to 0 (R29). -/
def clearIntegrator (d : DistrictId) (s : State) : State :=
  s.modMonitor d (fun m => { m with integrator := 0 })

/-! ### Marks (R162) -/

/-- The kinds of district mark, by the bits of R186. -/
inductive Mark | trip | recovered | failed | locked | grant | isolation | reversal | config
  deriving DecidableEq, Repr

def Mark.bit : Mark → Nat
  | .trip => 0 | .recovered => 1 | .failed => 2 | .locked => 3 | .grant => 4 | .isolation => 5
  | .reversal => 6 | .config => 7

/-- The slot's subscription holds at least one of the kinds (R162). -/
def subscribes (x : Slot) (kinds : List Mark) : Bool :=
  kinds.any (fun k => x.subscription.getLsbD k.bit)

/-- A mark of a district with the kinds it carries (R162). -/
def markDistrict (kinds : List Mark) (d : DistrictId) (s : State) : State :=
  forSlots (fun n s => s.modSlot n (fun x =>
    if subscribes x kinds then { x with changedDistricts := addItem x.changedDistricts d.val } else x)) s

/-- A mark of a feed (R162). -/
def markFeed (f : FeedId) (s : State) : State :=
  forSlots (fun n s => s.modSlot n (fun x =>
    if x.feedEnable then { x with changedFeeds := addItem x.changedFeeds f.val } else x)) s

/-- A mark of a joint (R162). -/
def markJoint (j : JointId) (s : State) : State :=
  forSlots (fun n s => s.modSlot n (fun x =>
    if x.jointEnable then { x with changedJoints := addItem x.changedJoints j.val } else x)) s

/-! ### Timers (R79) -/

def timerMode (p : Purpose) : TimerMode :=
  match p with
  | .patrol => .repeating
  | _ => .oneShot

/-- load: a load of 0 is taken as a load of 1 (R79). -/
def loadTimer (d : DistrictId) (p : Purpose) (count : Nat) (s : State) : State :=
  s.setTimer d
    { count := max 1 count, purpose := some p, mode := timerMode p, running := true, boundary := false }

/-- stop and retain: a running COOL timer stops with its count kept (R79). -/
def retainTimer (d : DistrictId) (s : State) : State :=
  s.setTimer d { s.timer d with running := false, boundary := false }

/-- run on: a load of the retained count (R79). -/
def runOnTimer (d : DistrictId) (s : State) : State := loadTimer d .cool (s.timer d).count s

/-- stop and clear (R79). -/
def clearTimer (d : DistrictId) (s : State) : State := s.setTimer d Timer.empty

/-- The retained count of an ISOLATED member at the close (R75): the timer holds it and does not run. -/
def retainCount (d : DistrictId) (count : Nat) (s : State) : State :=
  s.setTimer d
    { count := max 1 count, purpose := some .cool, mode := .oneShot, running := false, boundary := false }

/-- The backoff count min(C, B × 2^F) with the B and C in force (R73, R122). -/
def backoff (s : State) (d : DistrictId) : Nat :=
  min s.cfg.globals.ceiling (s.cfg.globals.base * 2 ^ (s.district d).failures)

/-! ### Ready queues (R96 to R99) -/

/-- The queue without district `d`'s entry; the others close up in order (R99). -/
def withoutEntry (q : List Entry) (d : DistrictId) : List Entry := q.filter (fun e => e.district != d)

/-- The queue with `e` at the tail of its band (R98). -/
def placed (q : List Entry) (e : Entry) : List Entry :=
  q.filter (fun x => decide (x.priority ≤ e.priority)) ++
    e :: q.filter (fun x => decide (e.priority < x.priority))

/-- Removal of the district's entry from its feed's queue (R99). -/
def removeEntry (d : DistrictId) (s : State) : State :=
  s.setQueue (s.dcfg d).feed (withoutEntry (s.queue (s.dcfg d).feed) d)

/-- Placement of an entry at the tail of the district's band in its feed's queue; an entry that the district
still holds is removed first (R98). -/
def placeEntry (d : DistrictId) (kind : EntryKind) (s : State) : State :=
  s.setQueue (s.dcfg d).feed
    (placed (withoutEntry (s.queue (s.dcfg d).feed) d)
      { district := d, kind := kind, priority := (s.dcfg d).priority })

/-- The district becomes QUEUED with a FULL entry (R97, R98). -/
def becomeQueued (d : DistrictId) (s : State) : State := placeEntry d .full (setSt d .queued s)

/-- The district becomes AWAITING_GRANT with the full grant window in force (R84). -/
def becomeAwaitingGrant (d : DistrictId) (s : State) : State :=
  loadTimer d .grant s.cfg.globals.grantWindow (setSt d .awaitingGrant s)

/-! ### LOCKED (R42, R84, R88, R123) -/

/-- The conditions under which a LOCKED district's PATROL timer runs (R88). -/
def patrolRuns (s : State) (d : DistrictId) : Bool :=
  (s.dcfg d).patrol && !isolationSet s d && s.mode == .run

/-- PATROL is loaded with the full patrol period in force (R88). -/
def loadPatrol (d : DistrictId) (s : State) : State := loadTimer d .patrol s.cfg.globals.patrol s

/-- Entry to LOCKED with look status none: PATROL runs if R88 lets it, otherwise no timer runs. -/
def enterLocked (d : DistrictId) (cause : LockCause) (s : State) : State :=
  let s := setSt d (.locked cause .noLook) s
  if patrolRuns s d then loadPatrol d s else clearTimer d s

/-- The look status of a LOCKED district; other districts have none (R3). -/
def setLook (d : DistrictId) (x : LookStatus) (s : State) : State :=
  match (s.district d).st with
  | .locked cause _ => setSt d (.locked cause x) s
  | _ => s

/-- F rises by one, to the lockout limit at most (R4). -/
def raiseFailures (d : DistrictId) (s : State) : State :=
  s.modDistrict d (fun r => { r with failures := min (s.dcfg d).lockoutLimit (r.failures + 1) })

def setFailures (d : DistrictId) (n : Nat) (s : State) : State :=
  s.modDistrict d (fun r => { r with failures := n })

/-! ### Probation (R5) -/

/-- The probation flag clears, and its PROBATION timer stops (R5, R81). -/
def endProbation (d : DistrictId) (s : State) : State :=
  if (s.district d).probation then
    clearTimer d (s.modDistrict d (fun r => { r with probation := false }))
  else s

/-! ### Swap windows (R37, R39) -/

/-- The swap window, if present, is removed and polarity returns to its value before the swap. -/
def restorePolarity (d : DistrictId) (s : State) : State :=
  match (s.monitor d).window with
  | some w =>
    (s.modMonitor d (fun m => { m with window := none })).modDistrict d
      (fun r => { r with polarity := w.before })
  | none => s

/-- A swap window is abandoned (R39): as above, and the integrator is set to 0. -/
def abandonWindow (d : DistrictId) (s : State) : State := clearIntegrator d (restorePolarity d s)

/-! ### Ends of probes (R107) -/

/-- Channel `c` leaves the waiting probes of feed `f`'s episode. -/
def stopWaiting (f : FeedId) (c : ChannelId) (s : State) : State :=
  s.modEpisode f (fun e => { e with waiting := removeItem e.waiting c.val })

/-- The common part of every end of a probe (R107): a swap window still present is abandoned, detection becomes
inactive with the integrator at 0, the channel leaves the waiting probes, the context is cleared and the channel
frees. -/
def endProbe (c : ChannelId) (s : State) : State :=
  match s.channel c with
  | some p => (stopWaiting p.feed c (abandonWindow p.district s)).setChannel c none
  | none => s

/-- The look in flight of a LOCKED district is abandoned, or its queued look is withdrawn (R18, R24, R169). -/
def dropLook (d : DistrictId) (s : State) : State :=
  match (s.district d).st with
  | .locked cause .queued => setSt d (.locked cause .noLook) (removeEntry d s)
  | .locked cause .inFlight =>
    setSt d (.locked cause .noLook) (match channelOf s d with
      | some c => endProbe c s
      | none => s)
  | _ => s

/-- The outcome of a command that goes on. -/
def done (s : State) : Host.Outcome State Fault Refusal := .next s

end Sys2Proof.Machine
end

