-- ==== Sys2Proof/Machine/Arbiter.lean ====
section
/-! DEFINITION. The Admission Arbiter (R100 to R109) and the start of a probe (R113, R127). -/

namespace Sys2Proof.Machine

/-- The probe profile of a district record, as the grant copies it (R111). -/
def profileCopy (c : DistrictConfig) : ProbeProfile :=
  { preLimit := c.preLimit, preTime := c.preTime, rampSteps := c.rampSteps, stepTime := c.stepTime,
    confirmTime := c.confirmTime, allowance := c.probeAllowance }

/-- D of R127, in ms. -/
def probeDuration (kind : EntryKind) (p : ProbeProfile) : Nat :=
  match kind with
  | .full => 2 + p.preTime + p.rampSteps * p.stepTime + p.confirmTime
  | .look => 2 + p.preTime

/-- The lifetime Λ = 2 × D + 500 ms (R127). -/
def lifetimeMs (kind : EntryKind) (p : ProbeProfile) : Nat := 2 * probeDuration kind p + 500

/-- The probe context at a grant (R113). -/
def startProbe (s : State) (f : FeedId) (e : Entry) (weight : Nat) : Probe :=
  { district := e.district, feed := f, kind := e.kind, weight := weight,
    profile := profileCopy (s.dcfg e.district), stage := .sense, entryStep := 1, elapsed := 0,
    pause := none, lifetime := 4 * lifetimeMs e.kind (profileCopy (s.dcfg e.district)) }

/-- Effective weight of an entry of feed `f` (R101). -/
def effectiveWeight (s : State) (f : FeedId) (e : Entry) : Nat :=
  match e.kind with
  | .full => min (s.dcfg e.district).weight (s.fcfg f).budget
  | .look => 0

/-- The head of feed `f` exists and is admissible (R102). -/
def admissible (s : State) (f : FeedId) : Bool :=
  match s.queue f with
  | [] => false
  | e :: _ =>
    s.mode == .run && !(s.feed f).stalled &&
      decide (budgetInUse s f + effectiveWeight s f e ≤ (s.fcfg f).budget)

/-- The lowest-numbered free channel (R104). -/
def freeChannel (s : State) : Option ChannelId := allChannels.find? (fun c => (s.channel c).isNone)

/-- The feeds in round-robin order after the last-granted feed, which comes last (R104). -/
def roundRobin (last : FeedId) : List FeedId := [last + 1, last + 2, last + 3, last]

/-- The district's change of state at a grant (R106): FULL to PROBING, LOOK to look status in-flight. -/
def grantedState (kind : EntryKind) (d : DistrictId) (s : State) : State :=
  match kind with
  | .full => setSt d .probing s
  | .look => setLook d .inFlight s

/-- A grant of channel `c` to the head `e` of feed `f`, whose queue then is `rest` (R106). -/
def grantChannel (s : State) (f : FeedId) (c : ChannelId) (e : Entry) (rest : List Entry) : State :=
  grantedState e.kind e.district
    (((s.setQueue f rest).setChannel c (some (startProbe s f e (effectiveWeight s f e)))).setLastGranted f)

/-- The next grant of a look, if a channel is free and a feed has an admissible head (R104). -/
def nextGrant (s : State) : Option State :=
  match freeChannel s, (roundRobin s.lastGranted).find? (admissible s) with
  | some c, some f =>
    match s.queue f with
    | e :: rest => some (grantChannel s f c e rest)
    | [] => none
  | _, _ => none

/-- At most `n` grants in a row. -/
def grants : Nat → State → State
  | 0, s => s
  | n + 1, s =>
    match nextGrant s with
    | some s' => grants n s'
    | none => s

/-- A look of the Arbiter (R104). Each grant takes one of the four channels, so four grants end it. -/
def arbiterLook (s : State) : State := grants 4 s

/-- Whether an event that led from `before` to `after` makes the Arbiter look (R105): a channel freed (and with
it the budget in use fell), a head changed, a feed became CLEAR, or the part entered RUN. -/
def lookCaused (before after : State) : Bool :=
  allChannels.any (fun c => (before.channel c).isSome && (after.channel c).isNone) ||
  allFeeds.any (fun f => (before.queue f).head? != (after.queue f).head?) ||
  allFeeds.any (fun f => (before.feed f).stalled && !(after.feed f).stalled) ||
  (before.mode == .standby && after.mode == .run)

/-- The Arbiter's look after an event, once the event has made its own changes (R105). -/
def arbitrate (before after : State) : State :=
  if lookCaused before after then arbiterLook after else after

end Sys2Proof.Machine
end

