-- ==== Sys2Proof/Machine/Probe.lean ====
section
/-! DEFINITION. The Probe Engine (chapters 7 and 8): the ends of probes, the stages, the sibling and stall
pauses, the lifetime; and the meanings of SENSE_END, PRECHARGE_END, RAMP_STEP_END, CONFIRM_END and
PROBE_LIFETIME_EXPIRY. -/

namespace Sys2Proof.Machine

/-! ### Ends of a FULL probe (R120 to R123) -/

/-- The new state after a failed FULL probe (R122), F having risen. -/
def failedState (d : DistrictId) (s : State) : State :=
  if (s.dcfg d).lockoutLimit ≤ (s.district d).failures then
    markDistrict [.failed, .locked] d (enterLocked d .limit s)
  else if (s.dcfg d).policy == .manual then
    markDistrict [.failed, .locked] d (enterLocked d .manualPolicy s)
  else if episodeMember s d then
    markDistrict [.failed] d (clearTimer d (setSt d (.cooling .merging) s))
  else
    markDistrict [.failed] d (loadTimer d .cool (backoff s d) (setSt d (.cooling .counting) s))

/-- A fail cause is written as the district's last probe-fail cause (R6). -/
def writeFail (d : DistrictId) (cause : FailCause) (s : State) : State :=
  s.modDistrict d (fun r => { r with lastFail := some cause })

/-- A failed FULL probe in channel `c` on district `d` (R121, R122). -/
def failFull (c : ChannelId) (d : DistrictId) (cause : FailCause) (s : State) : State :=
  failedState d (raiseFailures d (writeFail d cause (endProbe c s)))

/-- A failed look (R126). -/
def failLook (c : ChannelId) (d : DistrictId) (cause : FailCause) (s : State) : State :=
  markDistrict [.failed] d (setLook d .noLook (writeFail d cause (endProbe c s)))

/-- A probe fails with the cause of the check (R119, R126). -/
def failProbe (c : ChannelId) (p : Probe) (cause : FailCause) (s : State) : State :=
  match p.kind with
  | .full => failFull c p.district cause s
  | .look => failLook c p.district cause s

/-- A FULL probe succeeds (R120). -/
def succeed (c : ChannelId) (d : DistrictId) (s : State) : State :=
  markDistrict [.recovered] d
    (loadTimer d .probation s.cfg.globals.probation
      ((endProbe c s).modDistrict d (fun r => { r with st := .live, probation := true })))

/-- A LOOK probe passes (R125): F becomes the lockout limit minus one, and the policy in force chooses the new
state. -/
def passLook (c : ChannelId) (d : DistrictId) (s : State) : State :=
  let s := clearTimer d (setFailures d ((s.dcfg d).lockoutLimit - 1) (endProbe c s))
  if (s.dcfg d).policy == .auto then markDistrict [.locked] d (becomeQueued d s)
  else markDistrict [.locked, .grant] d (becomeAwaitingGrant d s)

/-! ### Starts of stages (R116 to R118) -/

/-- The probe takes the first sample of `stage` next (R114). -/
def enterStage (c : ChannelId) (stage : Stage) (s : State) : State :=
  s.modChannel c (fun p => { p with stage := stage, elapsed := 0 })

/-- RAMP starts at step `j`: the integrator is set to 0 and the RAMP entry step returns to 1 (R116, R29). -/
def startRamp (c : ChannelId) (d : DistrictId) (j : Nat) (s : State) : State :=
  (clearIntegrator d s).modChannel c
    (fun p => { p with stage := .ramp j, elapsed := 0, entryStep := 1 })

/-- CONFIRM starts: integrator 0, confirm swap used "no", start check pending (R118, R40). -/
def startConfirm (c : ChannelId) (d : DistrictId) (s : State) : State :=
  enterStage c (.confirm true)
    (s.modMonitor d (fun m => { m with integrator := 0, confirmSwapUsed := false }))

/-! ### Sibling trips and pauses (R132, R133) -/

/-- A sibling trip reaches a probe (R132): running in SENSE, PRECHARGE or RAMP, or already paused SIBLING. -/
def siblingReaches (p : Probe) : Bool :=
  match p.pause with
  | some ⟨.sibling, _⟩ => true
  | some ⟨.stall, _⟩ => false
  | none => !p.stage.isConfirm

/-- The channels whose probes a trip report on feed `f` makes wait (R63, R64, R132). -/
def siblingProbes (s : State) (f : FeedId) : BitVec 4 :=
  bitmap 4 (fun c => if h : c < 4 then (match s.channel ⟨c, h⟩ with
    | some p => p.feed == f && siblingReaches p
    | none => false) else false)

/-- A waiting probe pauses with cause SIBLING at its fracture point (R133). -/
def pauseSibling (c : ChannelId) (resume : ResumePoint) (s : State) : State :=
  s.modChannel c (fun p => { p with pause := some ⟨.sibling, resume⟩, elapsed := 0 })

/-! ### Stall pauses and resumptions (R138, R139) -/

/-- The resume point of a stall pause, from the probe's position at the assertion (R138). -/
def stallResume (p : Probe) : ResumePoint :=
  match p.pause, p.stage with
  | some ⟨_, .ramp j⟩, .ramp _ => .precharge j
  | some ⟨_, .confirm⟩, _ => .precharge p.profile.rampSteps
  | _, .sense => .sense
  | _, .precharge => .precharge p.entryStep
  | _, .ramp k => .precharge k
  | _, .confirm _ => .precharge p.profile.rampSteps

/-- A stall assertion pauses the probe in channel `c` (R51, R138): stage elapsed 0, a swap window abandoned, the
integrator at 0, and the channel leaves the waiting probes. A probe already paused STALL stays so. -/
def stallPause (f : FeedId) (c : ChannelId) (s : State) : State :=
  match s.channel c with
  | some p =>
    if p.feed == f then
      match p.pause with
      | some ⟨.stall, _⟩ => s
      | _ =>
        (stopWaiting f c (abandonWindow p.district s)).modChannel c
          (fun q => { q with pause := some ⟨.stall, stallResume p⟩, elapsed := 0 })
    else s
  | none => s

/-- The stage and RAMP entry step from which a stall-paused probe runs on (R139). -/
def resumedAt (r : ResumePoint) (p : Probe) : Probe :=
  match r with
  | .sense => { p with stage := .sense, entryStep := 1, elapsed := 0, pause := none }
  | .precharge j => { p with stage := .precharge, entryStep := j, elapsed := 0, pause := none }
  | .ramp j => { p with stage := .ramp j, elapsed := 0, pause := none }
  | .confirm => { p with stage := .confirm true, elapsed := 0, pause := none }
  | .lookPass => { p with elapsed := 0, pause := none }

/-- A stall clear resumes the probe in channel `c`, if it is stall-paused on feed `f` (R139). -/
def stallContinue (f : FeedId) (c : ChannelId) (s : State) : State :=
  match s.channel c with
  | some p =>
    if p.feed == f then
      match p.pause with
      | some ⟨.stall, r⟩ => s.modChannel c (resumedAt r)
      | _ => s
    else s
  | none => s

/-- A LOCAL close takes the waiting probe in channel `c` (R135): it no longer waits, and a sibling pause ends at
its resume point. -/
def localResume (f : FeedId) (c : ChannelId) (s : State) : State :=
  let s := stopWaiting f c s
  match s.channel c with
  | some p =>
    match p.pause with
    | some ⟨.sibling, r⟩ =>
      let s := s.modChannel c (fun q => { q with pause := none, elapsed := 0 })
      match r with
      | .ramp j => if p.stage.isPrecharge then startRamp c p.district j s else enterStage c (.ramp j) s
      | .confirm => startConfirm c p.district s
      | .lookPass => passLook c p.district s
      | .sense => enterStage c .sense s
      | .precharge _ => enterStage c .precharge s
    | _ => s
  | none => s

/-! ### Stage ends (R114 to R118) -/

/-- Mean of the eight samples of the history, the remainder dropped (R116). -/
def historyMean (m : Monitor) : Nat := m.history.toList.sum / 8

/-- The end of SENSE (R115). -/
def endSense (c : ChannelId) (p : Probe) (s : State) : State :=
  if (s.monitor p.district).voltage then failProbe c p .backfeed s
  else enterStage c .precharge s

/-- The end of PRECHARGE (R116, R124, R133). -/
def endPrecharge (c : ChannelId) (p : Probe) (s : State) : State :=
  if p.profile.preLimit < historyMean (s.monitor p.district) then failProbe c p .shortPersists s
  else if waits s p.feed c then
    pauseSibling c (match p.kind with
      | .full => .ramp p.entryStep
      | .look => .lookPass) s
  else
    match p.kind with
    | .full => startRamp c p.district p.entryStep s
    | .look => passLook c p.district s

/-- The end of step `k` of RAMP (R117, R133). -/
def endRampStep (c : ChannelId) (p : Probe) (k : Nat) (s : State) : State :=
  if !(s.monitor p.district).voltage then failProbe c p .noVoltage s
  else if waits s p.feed c then
    pauseSibling c (if k < p.profile.rampSteps then .ramp (k + 1) else .confirm) s
  else if k < p.profile.rampSteps then enterStage c (.ramp (k + 1)) s
  else startConfirm c p.district s

/-- The end check of CONFIRM (R118). -/
def endConfirm (c : ChannelId) (p : Probe) (s : State) : State :=
  if (s.monitor p.district).voltage then succeed c p.district s else failProbe c p .noVoltage s

/-- The start check of CONFIRM, if it is pending; none where it fails the probe (R118). -/
def startCheck (c : ChannelId) (p : Probe) (s : State) : State :=
  match p.stage with
  | .confirm true =>
    if (s.monitor p.district).voltage then s.modChannel c (fun q => { q with stage := .confirm false })
    else failProbe c p .noVoltage s
  | _ => s

/-- The stage end of channel `c`, if it is due: the check of the stage and what follows from it. -/
def stageEnd (c : ChannelId) (s : State) : State :=
  match s.channel c with
  | some p =>
    if stageDue s p then
      arbitrate s (match p.stage with
        | .sense => endSense c p s
        | .precharge => endPrecharge c p s
        | .ramp k => endRampStep c p k s
        | .confirm _ => endConfirm c p s)
    else s
  | none => s

/-! ### Lifetime (R127, R128) -/

/-- A lifetime expiry on the probe in channel `c` (R128). -/
def expireProbe (c : ChannelId) (p : Probe) (s : State) : State :=
  let s := writeFail p.district .lifetime (endProbe c s)
  match p.kind with
  | .full => markDistrict [.failed] p.district (becomeQueued p.district s)
  | .look => markDistrict [.failed] p.district (setLook p.district .noLook s)

def lifetimeExpiry (c : ChannelId) (s : State) : State :=
  match s.channel c with
  | some p => arbitrate s (expireProbe c p s)
  | none => s

/-! ### Meanings -/

/-- SENSE_END (R115). -/
def execSenseEnd (c : ChannelId) (s : State) : Host.Outcome State Fault Refusal :=
  done (if channelDue s c Stage.isSense then stageEnd c s else s)

/-- PRECHARGE_END (R116). -/
def execPrechargeEnd (c : ChannelId) (s : State) : Host.Outcome State Fault Refusal :=
  done (if channelDue s c Stage.isPrecharge then stageEnd c s else s)

/-- RAMP_STEP_END (R117). -/
def execRampStepEnd (c : ChannelId) (s : State) : Host.Outcome State Fault Refusal :=
  done (if channelDue s c Stage.isRamp then stageEnd c s else s)

/-- CONFIRM_END (R118). -/
def execConfirmEnd (c : ChannelId) (s : State) : Host.Outcome State Fault Refusal :=
  done (if channelDue s c Stage.isConfirm then stageEnd c s else s)

/-- PROBE_LIFETIME_EXPIRY (R128). -/
def execProbeLifetimeExpiry (c : ChannelId) (s : State) : Host.Outcome State Fault Refusal :=
  done (lifetimeExpiry c s)

end Sys2Proof.Machine
end

