-- ==== Sys2Proof/Machine/Episode.lean ====
section
/-! DEFINITION. The Episode Merger (chapter 4): joining, the window and the cap, the close; and the meanings of
EPISODE_WINDOW_EXPIRY and EPISODE_CAP_EXPIRY. -/

namespace Sys2Proof.Machine

/-- The member list with `d` at its end, or as it was if `d` already stands in it (R61). -/
def withMember (ms : List DistrictId) (d : DistrictId) : List DistrictId :=
  if ms.contains d then ms else ms ++ [d]

def Episode.addMember (e : Episode) (d : DistrictId) : Episode :=
  { e with members := withMember e.members d }

/-- A joining trip loads the window again; the opening window and the total length are kept (R64). -/
def EpisodeKind.reload (k : EpisodeKind) (samples : Nat) : EpisodeKind :=
  match k with
  | .ordinary w => .ordinary { w with remaining := samples, out := false }
  | .shed => .shed

/-- A trip report reaches feed `f`'s Merger (R43, R63, R64), and its Probe Engine as a sibling trip (R132). -/
def arrive (f : FeedId) (d : DistrictId) (s : State) : State :=
  match s.episode f with
  | none =>
    s.setEpisode f (some
      { members := [d],
        kind := .ordinary
          { remaining := (s.fcfg f).mergeWindow.samples, opening := (s.fcfg f).mergeWindow.samples,
            total := 0, out := false },
        stallFlag := (s.feed f).stalled,
        waiting := siblingProbes s f })
  | some e =>
    s.setEpisode f (some
      { (e.addMember d) with
        kind := e.kind.reload (s.fcfg f).mergeWindow.samples,
        waiting := match e.kind with
          | .ordinary _ => e.waiting ||| siblingProbes s f
          | .shed => e.waiting })

/-! ### The window and the cap (R62) -/

/-- One sample boundary of an ordinary window. -/
def EpisodeWindow.advance (w : EpisodeWindow) : EpisodeWindow :=
  { w with
    remaining := if w.remaining ≤ 1 then w.remaining else w.remaining - 1,
    out := w.out || decide (w.remaining ≤ 1),
    total := min (8 * w.opening) (w.total + 1) }

def Episode.advance (e : Episode) : Episode :=
  match e.kind with
  | .ordinary w => { e with kind := .ordinary w.advance }
  | .shed => e

/-- A sample period boundary: every open episode advances, and the samples of the districts in `ds` are the ones
taken in the new period (R62). -/
def periodBoundary (ds : BitVec 16) (s : State) : State :=
  forFeeds (fun f s => s.modEpisode f Episode.advance) (s.setSampled ds)

/-- The sample of district `d` is the second of `d` in the running sample period, and so begins the next period
(log entry 6). -/
def beginsPeriod (s : State) (d : DistrictId) : Bool := s.sampled.getLsbD d.val

/-- The sample of district `d` takes its place in a sample period (R27, R62). -/
def countSample (d : DistrictId) (s : State) : State :=
  if beginsPeriod s d then periodBoundary (BitVec.twoPow 16 d.val) s
  else s.setSampled (addItem s.sampled d.val)

/-! ### The close (R69 to R76) -/

/-- The class, decided before any probe is appended (R70). -/
def episodeClass (s : State) (f : FeedId) (e : Episode) : EpisodeClass :=
  match e.kind with
  | .shed => .massClass
  | .ordinary _ =>
    if e.stallFlag || decide ((s.fcfg f).massThreshold ≤ e.members.length) then .massClass else .localClass

/-- A district becomes COOLING in phase merging and joins feed `f`'s open episode, marked TRIP (R54, R55,
R136). -/
def joinMerging (f : FeedId) (d : DistrictId) (s : State) : State :=
  markDistrict [.trip] d
    (clearTimer d ((setSt d (.cooling .merging) s).modEpisode f (fun e => e.addMember d)))

/-- A MASS close or a shed abandons the probe in channel `c` (R55, R136): a FULL probe's district joins the
episode, a look ends with look status none. -/
def abandonProbe (f : FeedId) (c : ChannelId) (s : State) : State :=
  match s.channel c with
  | some p =>
    match p.kind with
    | .full => joinMerging f p.district (endProbe c s)
    | .look => setLook p.district .noLook (endProbe c s)
  | none => s

/-- The waiting probes take the class, in ascending channel number (R71). -/
def resolveWaiting (f : FeedId) (cls : EpisodeClass) (waiting : BitVec 4) (s : State) : State :=
  forChannels (fun c s =>
    if waiting.getLsbD c.val then
      match cls with
      | .localClass => localResume f c s
      | .massClass => abandonProbe f c s
    else s) s

/-- Close order: by priority class as it stands, then by place in the member list (R72). -/
def closeOrder (s : State) (ms : List DistrictId) : List DistrictId :=
  ([0, 1, 2, 3] : List (Fin 4)).flatMap (fun p => ms.filter (fun d => (s.dcfg d).priority == p))

/-- The count of the member with index `i` (R73, R74). -/
def memberCount (s : State) (f : FeedId) (cls : EpisodeClass) (d : DistrictId) (i : Nat) : Nat :=
  match cls with
  | .localClass => backoff s d
  | .massClass => min 65535 ((s.fcfg f).massCool + i * (s.fcfg f).stagger)

/-- A computed count is handed on according to the member's condition (R75). -/
def handCount (d : DistrictId) (count : Nat) (s : State) : State :=
  match (s.district d).st with
  | .cooling .merging => loadTimer d .cool count (setSt d (.cooling .counting) s)
  | .isolated .coolPending => retainCount d count (setSt d (.isolated .coolRetained) s)
  | _ => s

/-- The members in close order receive their counts, indexed from `i` without gaps (R72, R75). -/
def handCounts (f : FeedId) (cls : EpisodeClass) : List DistrictId → Nat → State → State
  | [], _, s => s
  | d :: ds, i, s =>
    if receivesCount s d then
      handCounts f cls ds (i + 1) (handCount d (memberCount s f cls d i) s)
    else handCounts f cls ds i s

/-- The close of feed `f`'s open episode (R69). The Arbiter's look is the closing command's. -/
def closeEpisode (f : FeedId) (cause : CloseCause) (s : State) : State :=
  match s.episode f with
  | none => s
  | some e =>
    let cls := episodeClass s f e
    let s := resolveWaiting f cls e.waiting s
    let ms := match s.episode f with
      | some e' => e'.members
      | none => e.members
    let s := handCounts f cls (closeOrder s ms) 0 s
    let s := (s.setEpisode f none).setSummary f { cls := some cls, count := ms.length, cause := some cause }
    match cls with
    | .massClass => markFeed f s
    | .localClass => s

/-- The close of an ordinary episode, if it is due (R62). -/
def episodeExpiry (f : FeedId) (s : State) : State :=
  match closeDue s f with
  | some cause => arbitrate s (closeEpisode f cause s)
  | none => s

/-! ### Meanings -/

/-- EPISODE_WINDOW_EXPIRY (R62). -/
def execEpisodeWindowExpiry (f : FeedId) (s : State) : Host.Outcome State Fault Refusal :=
  done (if closeDue s f == some .window then episodeExpiry f s else s)

/-- EPISODE_CAP_EXPIRY (R62). -/
def execEpisodeCapExpiry (f : FeedId) (s : State) : Host.Outcome State Fault Refusal :=
  done (if closeDue s f == some .cap then episodeExpiry f s else s)

end Sys2Proof.Machine
end

