-- ==== Sys2Proof/Machine/Timer.lean ====
section
/-! DEFINITION. The Recovery Timer Bank (chapter 5): the expiries by purpose, the tick boundary, and the meanings
of COOL_EXPIRY, GRANT_EXPIRY, PROBATION_EXPIRY, PATROL_EXPIRY and TICK_BOUNDARY. -/

namespace Sys2Proof.Machine

/-- A COOL expiry of district `d` (R82). -/
def takeCool (d : DistrictId) (s : State) : State :=
  if coolDue s d then
    let s' := clearTimer d s
    arbitrate s (if (s.dcfg d).policy == .auto then becomeQueued d s'
      else markDistrict [.grant] d (becomeAwaitingGrant d s'))
  else s

/-- A GRANT expiry (R84). -/
def grantExpiry (d : DistrictId) (s : State) : State :=
  if grantDue s d then markDistrict [.locked, .grant] d (enterLocked d .grantLapsed (clearTimer d s)) else s

/-- A PROBATION expiry (R86). -/
def probationExpiry (d : DistrictId) (s : State) : State :=
  if probationDue s d then
    clearTimer d (s.modDistrict d (fun r => { r with failures := 0, probation := false }))
  else s

/-- A PATROL expiry of district `d`: the timer repeats, and a look is queued if none is pending (R80, R89). -/
def takePatrol (d : DistrictId) (s : State) : State :=
  if patrolDue s d then
    let s' := loadPatrol d s
    arbitrate s (match (s.district d).st with
      | .locked cause .noLook =>
        if isolationSet s d then s' else placeEntry d .look (setSt d (.locked cause .queued) s')
      | _ => s')
  else s

/-- The expiry of district `d`'s timer, if one is due. -/
def timerExpiry (d : DistrictId) (s : State) : State :=
  match (s.timer d).purpose with
  | some .cool => takeCool d s
  | some .grant => grantExpiry d s
  | some .probation => probationExpiry d s
  | some .patrol => takePatrol d s
  | none => s

/-- An expiry of district `d` is due that places an entry in its feed's ready queue (R82, R89). -/
def placementDue (s : State) (d : DistrictId) : Bool :=
  coolDue s d && (s.dcfg d).policy == .auto ||
  patrolDue s d && (s.district d).st.lookFree && !isolationSet s d

/-- An expiry of district `d` is due that places an entry, or would place one if taken later: a PATROL expiry that
finds a look queued or in flight places none, and the look may end before a later command (R82, R89). -/
def mayPlace (s : State) (d : DistrictId) : Bool :=
  coolDue s d && (s.dcfg d).policy == .auto || patrolDue s d

/-- Before the expiry of `d` places its entry, the due expiries of lower-numbered districts of its feed that place one,
or could still come to place one behind it, are taken in ascending number (R80, R98; that the row of one expiry takes
the others with it is log entry 3). -/
def takeEarlier (d : DistrictId) (s : State) : State :=
  if placementDue s d then
    forDistricts (fun e t =>
      if decide (e < d) && (t.dcfg e).feed == (t.dcfg d).feed && mayPlace t e then timerExpiry e t else t) s
  else s

/-- COOL_EXPIRY of district `d` (R80, R82). -/
def coolExpiry (d : DistrictId) (s : State) : State :=
  if coolDue s d then takeCool d (takeEarlier d s) else s

/-- PATROL_EXPIRY of district `d` (R80, R89). -/
def patrolExpiry (d : DistrictId) (s : State) : State :=
  if patrolDue s d then takePatrol d (takeEarlier d s) else s

/-- A tick boundary steps a timer (R80). The boundary that brings the count to 0 leaves the expiry due (log entry
5). -/
def Timer.tick (t : Timer) : Timer :=
  if t.running then
    if t.count ≤ 1 then { t with boundary := true } else { t with count := t.count - 1 }
  else t

/-- The expiries still due are taken in ascending district number, then every running timer is stepped and the
prescaler is back at 0 (R77, R80). Where they are of different feeds, or place no entry, R80 and R105 leave their order,
and that of their looks, open (DESIGN CHOICE, log entry 21). -/
def tickBoundary (s : State) : State :=
  let s := forDistricts timerExpiry s
  (forDistricts (fun d s => s.setTimer d (s.timer d).tick) s).setClock 0 0

/-! ### Meanings -/

/-- COOL_EXPIRY (R82). -/
def execCoolExpiry (d : DistrictId) (s : State) : Host.Outcome State Fault Refusal := done (coolExpiry d s)

/-- GRANT_EXPIRY (R84). -/
def execGrantExpiry (d : DistrictId) (s : State) : Host.Outcome State Fault Refusal := done (grantExpiry d s)

/-- PROBATION_EXPIRY (R86). -/
def execProbationExpiry (d : DistrictId) (s : State) : Host.Outcome State Fault Refusal :=
  done (probationExpiry d s)

/-- PATROL_EXPIRY (R89). -/
def execPatrolExpiry (d : DistrictId) (s : State) : Host.Outcome State Fault Refusal := done (patrolExpiry d s)

/-- TICK_BOUNDARY (R80). -/
def execTickBoundary (s : State) : Host.Outcome State Fault Refusal := done (tickBoundary s)

end Sys2Proof.Machine
end

