-- ==== Sys2Proof/Machine/Sensing.lean ====
section
/-! DEFINITION. The Current Monitor (chapter 2): the sample, the detection check, reversal swaps, trip reports and
probe trips; and the meanings of CURRENT_SAMPLE and SWAP_WINDOW_SUCCESS. -/

namespace Sys2Proof.Machine

/-! ### Trips (R41 to R44) -/

/-- The new state at a trip report, F having risen if it does, with its mark (R41, steps 4 and 6). -/
def trippedState (d : DistrictId) (s : State) : State :=
  if (s.dcfg d).policy == .manual then markDistrict [.trip, .locked] d (enterLocked d .manualPolicy s)
  else if (s.dcfg d).lockoutLimit ≤ (s.district d).failures then
    markDistrict [.trip, .locked] d (enterLocked d .limit s)
  else markDistrict [.trip] d (clearTimer d (setSt d (.cooling .merging) s))

/-- A trip report of a LIVE district (R41): counters and cause, F under probation, the new state, the Merger. -/
def tripReport (d : DistrictId) (cause : TripCause) (s : State) : State :=
  let s := s.modDistrict d (fun r => { r with trips := satSucc 65535 r.trips, lastTrip := some cause })
  let s := if (s.district d).probation then endProbation d (raiseFailures d s) else s
  arrive (s.dcfg d).feed d (trippedState d (clearIntegrator d s))

/-- Fail cause of a probe trip (R44, R119, R134). -/
def tripFailCause (p : Probe) : FailCause :=
  match p.kind with
  | .look => .shortPersists
  | .full => if p.stage.isConfirm then .confirmTrip else .rampTrip

/-- A probe trip (R44): the trip cause is written, the integrator is 0, and the Probe Engine takes a failure. -/
def probeTrip (c : ChannelId) (p : Probe) (cause : TripCause) (s : State) : State :=
  failProbe c p (tripFailCause p)
    (clearIntegrator p.district (s.modDistrict p.district (fun r => { r with lastTrip := some cause })))

/-- A trip is handed on as a trip report of a LIVE district, or as a probe trip (R32). -/
def handTrip (d : DistrictId) (cause : TripCause) (s : State) : State :=
  if (s.district d).st == .live then tripReport d cause s
  else
    match channelOf s d with
    | some c =>
      match s.channel c with
      | some p => probeTrip c p cause s
      | none => s
    | none => s

/-! ### Reversal (R35 to R38) -/

/-- A reversal swap starts (R35). -/
def startSwap (d : DistrictId) (setting : WindowSetting) (s : State) : State :=
  (s.modMonitor d (fun m =>
    { m with
      integrator := 0,
      window := some { remaining := (s.dcfg d).swapWindow, before := (s.district d).polarity,
                       setting := setting, ended := false },
      confirmSwapUsed := match setting with
        | .confirm => true
        | .live => m.confirmSwapUsed })).modDistrict d
    (fun r => { r with polarity := r.polarity.toggle })

/-- The swap that a trip with this condition starts, if it starts one: reversing, no window present, and LIVE or
in a CONFIRM that has not swapped yet (R32, R35, R40). -/
def swapSetting (s : State) (d : DistrictId) : Option WindowSetting :=
  if (s.dcfg d).reversing && (s.monitor d).window.isNone then
    if (s.district d).st == .live then some .live
    else
      match probeOf s d with
      | some p =>
        if p.stage.isConfirm && p.pause == none && !(s.monitor d).confirmSwapUsed then some .confirm else none
      | none => none
  else none

/-- A trip found by the detection check (R32): a swap window fails, a swap starts, or the trip is handed on. -/
def takeTrip (d : DistrictId) (cause : TripCause) (s : State) : State :=
  if (s.monitor d).window.isSome then
    handTrip d .reversalFailed (clearIntegrator d (restorePolarity d s))
  else
    match swapSetting s d with
    | some setting => startSwap d setting s
    | none => handTrip d cause (clearIntegrator d s)

/-- A sample inside a swap window that does not trip (R36). The last one leaves the success due (log entry 5). -/
def SwapWindow.countDown (w : SwapWindow) : SwapWindow :=
  if w.remaining ≤ 1 then { w with ended := true } else { w with remaining := w.remaining - 1 }

def countWindow (d : DistrictId) (s : State) : State :=
  s.modMonitor d (fun m => { m with window := m.window.map SwapWindow.countDown })

/-! ### The detection check (R30) -/

inductive Verdict where
  | trip (cause : TripCause)
  | pass (integrator : Nat)
  deriving DecidableEq, Repr

/-- Count `i` against hard limit, threshold, leak and allowance `z`, with integrator `a` (R30). -/
def judge (c : DistrictConfig) (a i z : Nat) : Verdict :=
  if c.hard ≤ i then .trip .hard
  else if c.trip < i then
    if z ≤ min 65535 (a + (i - c.trip)) then .trip .overload else .pass (min 65535 (a + (i - c.trip)))
  else .pass (a - c.leak)

/-- The detection check of a sample with count `i`, if detection is active (R27, R30). -/
def detect (d : DistrictId) (i : Nat) (s : State) : State :=
  match detection s d with
  | none => s
  | some z =>
    match judge (s.dcfg d) (s.monitor d).integrator i z with
    | .trip cause => takeTrip d cause s
    | .pass a => countWindow d (s.modMonitor d (fun m => { m with integrator := a }))

/-! ### The sample (R27) -/

/-- The history with the newest sample at its end (R27). -/
def pushSample (h : Vector Nat 8) (i : Nat) : Vector Nat 8 :=
  Vector.ofFn (fun k => if h' : k.val + 1 < 8 then h[k.val + 1] else i)

/-- Stage elapsed rises, and the start check of CONFIRM is made where no swap window is present (R114, R118). -/
def stageSample (d : DistrictId) (s : State) : State :=
  match channelOf s d with
  | none => s
  | some c =>
    match s.channel c with
    | none => s
    | some p =>
      if p.pause == none then
        let s := s.modChannel c (fun q => { q with elapsed := q.elapsed + 1 })
        if (s.monitor d).window.isNone then startCheck c p s else s
      else s

/-- Success of the swap window of `d`, if it is due (R38); in CONFIRM it makes a pending start check and takes an
end of CONFIRM that it held (R36, R118). -/
def swapSuccess (d : DistrictId) (s : State) : State :=
  if swapSuccessDue s d then
    let s1 := markDistrict [.reversal] d
      ((s.modMonitor d (fun m => { m with window := none })).modDistrict d
        (fun r => { r with swaps := satSucc 255 r.swaps }))
    let s2 := if (s1.district d).probation then loadTimer d .probation s1.cfg.globals.probation s1 else s1
    let s3 := if (detection s2 d).isSome then s2 else clearIntegrator d s2
    arbitrate s (match channelOf s3 d with
      | none => s3
      | some c =>
        match s3.channel c with
        | none => s3
        | some p =>
          if p.stage.isConfirm && p.pause == none then
            let s4 := startCheck c p s3
            match s4.channel c with
            | some q => if stageDue s4 q then endConfirm c q s4 else s4
            | none => s4
          else s3)
  else s

/-- What stands due is taken before the next sample of `d`: its swap window's success, its probe's stage end, and,
where the sample begins a sample period, the closes of the last boundary (log entry 3). The closes of several feeds
are taken in ascending feed number, each with its own look of the Arbiter, in an order that R75 and R105 leave open
(DESIGN CHOICE, log entry 21). -/
def settleDistrict (d : DistrictId) (s : State) : State :=
  let s := swapSuccess d s
  let s := match channelOf s d with
    | some c => stageEnd c s
    | none => s
  if beginsPeriod s d then forFeeds episodeExpiry s else s

/-- One sample of district `d` with nothing left due: count `i`, voltage reading `v` (R27, R62, R114). The boundary
is taken before the detection check, so a close that the sample's own boundary makes due stands due when its trip
report arrives, and the report is taken first. R65 allows either order; the close comes first where the sample of
another district begins the period and the close's own row is sent before this sample (log entry 6). -/
def sample (d : DistrictId) (i : Nat) (v : Bool) (s : State) : State :=
  let s := countSample d s
  let s := s.modMonitor d (fun m => { m with history := pushSample m.history i, voltage := v })
  stageSample d (detect d i s)

/-! ### Meanings -/

/-- CURRENT_SAMPLE (R27): the count saturates at 1,000. -/
def execCurrentSample (d : DistrictId) (units : Nat) (voltage : Bool) (s : State) :
    Host.Outcome State Fault Refusal :=
  done (arbitrate (settleDistrict d s) (sample d (min 1000 units) voltage (settleDistrict d s)))

/-- SWAP_WINDOW_SUCCESS (R38). -/
def execSwapWindowSuccess (d : DistrictId) (s : State) : Host.Outcome State Fault Refusal :=
  done (swapSuccess d s)

end Sys2Proof.Machine
end

