-- ==== Sys2Proof/Machine/FeedMonitor.lean ====
section
/-! DEFINITION. The Feed Monitor (chapter 3): the stall filter, assertion, clear, first decision and shed; and
the meanings of STALL_LINE_SAMPLE, STALL_ASSERTION, STALL_CLEAR, FEED_FIRST_DECISION and SHED. -/

namespace Sys2Proof.Machine

/-- Every LIVE district of feed `f` without a swap window has its integrator set to 0: it loses detection at an
assertion and regains it at a clear (R29, R50, R52). -/
def clearLiveIntegrators (f : FeedId) (s : State) : State :=
  forDistricts (fun d s =>
    if (s.dcfg d).feed == f && (s.district d).st == .live && (s.monitor d).window.isNone then
      clearIntegrator d s
    else s) s

/-! ### Shed (R54 to R56) -/

/-- The shed of one LIVE district (R54). -/
def shedDistrict (f : FeedId) (d : DistrictId) (s : State) : State :=
  if (s.dcfg d).feed == f && (s.district d).st == .live then
    joinMerging f d (endProbation d (abandonWindow d s))
  else s

/-- The shed takes the probe in channel `c`, if it is one of feed `f` (R55). -/
def shedProbe (f : FeedId) (c : ChannelId) (s : State) : State :=
  match s.channel c with
  | some p => if p.feed == f then abandonProbe f c s else s
  | none => s

/-- The shed episode as it is opened, with the members of an open ordinary episode folded in (R54, R67). -/
def shedEpisode (e : Option Episode) : Episode :=
  { members := match e with
      | some x => x.members
      | none => [],
    kind := .shed, stallFlag := true, waiting := 0#4 }

/-- An episode that has gained no member is not opened (R56). -/
def dropEmptyEpisode (f : FeedId) (s : State) : State :=
  match s.episode f with
  | some e => if e.members.isEmpty then s.setEpisode f none else s
  | none => s

/-- The shed of feed `f` (R54 to R56). -/
def shedFeed (f : FeedId) (s : State) : State :=
  let s := s.setEpisode f (some (shedEpisode (s.episode f)))
  let s := forDistricts (shedDistrict f) s
  let s := forChannels (shedProbe f) s
  markFeed f ((dropEmptyEpisode f s).modFeed f (fun x => { x with phase := .shed }))

def shedExpiry (f : FeedId) (s : State) : State :=
  if shedPending s f then arbitrate s (shedFeed f s) else s

/-! ### Assertion and clear (R49 to R52) -/

/-- The effects of an assertion on detection, probes and the open episode (R50, R51, R66). -/
def assertionEffects (f : FeedId) (s : State) : State :=
  (forChannels (stallPause f) (clearLiveIntegrators f s)).modEpisode f
    (fun e => { e with stallFlag := true, waiting := 0#4 })

/-- A stall assertion (R49). With a shed delay of 0 the shed is taken at once, after the other effects. -/
def assertStall (f : FeedId) (s : State) : State :=
  let s' := markFeed f (assertionEffects f
    (s.modFeed f (fun x => { x with stalled := true, filterRun := 0 })))
  if s.mode == .run then
    if (s.fcfg f).shedDelay = 0 then shedFeed f s'
    else s'.modFeed f (fun x => { x with phase := .pending (4 * (s.fcfg f).shedDelay) })
  else s'

/-- What a clear does to the shed phase: a pending timer is discarded, a shed episode closes (R52, R53). -/
def endShed (f : FeedId) (s : State) : State :=
  match (s.feed f).phase with
  | .shed => (closeEpisode f .stallClear s).modFeed f (fun x => { x with phase := .idle })
  | _ => s.modFeed f (fun x => { x with phase := .idle })

/-- A stall clear (R52). -/
def clearStall (f : FeedId) (s : State) : State :=
  let s := endShed f (s.modFeed f (fun x => { x with stalled := false, filterRun := 0 }))
  forChannels (stallContinue f) (clearLiveIntegrators f (markFeed f s))

def stallAssertion (f : FeedId) (s : State) : State :=
  if assertionDue s f then arbitrate s (assertStall f s) else s

def stallClear (f : FeedId) (s : State) : State :=
  if clearDue s f then arbitrate s (clearStall f s) else s

/-- The first decision (R48): with the value the samples show; CLEAR acts as a stall clear, STALLED changes no
state. -/
def feedDecision (f : FeedId) (s : State) : State :=
  if feedDecisionDue s f then
    let s' := s.modFeed f (fun x => { x with decided := true, filterRun := 0 })
    if (s.feed f).lastShown then markFeed f s' else arbitrate s (clearStall f s')
  else s

/-- What stands due at the previous sample of feed `f`'s stall line (log entry 3). -/
def settleFeed (f : FeedId) (s : State) : State :=
  if feedDecisionDue s f then feedDecision f s
  else if assertionDue s f then stallAssertion f s
  else stallClear f s

/-! ### The stall line (R47, R48) -/

/-- One sample of the stall line, as read through the polarity: `shown` is whether it shows stalled. -/
def Feed.take (x : Feed) (shown : Bool) : Feed :=
  { x with
    filterRun :=
      if x.decided then (if shown == x.stalled then 0 else x.filterRun + 1)
      else if x.filterRun = 0 || shown == x.lastShown then x.filterRun + 1 else 1,
    lastShown := shown }

/-- The reading of a stall level through the feed's polarity (R47). -/
def showsStalled (c : FeedConfig) (high : Bool) : Bool := high == c.stallHigh

def stallSample (f : FeedId) (high : Bool) (s : State) : State :=
  let s := settleFeed f s
  s.modFeed f (fun x => x.take (showsStalled (s.fcfg f) high))

/-! ### Meanings -/

/-- STALL_ASSERTION (R49). -/
def execStallAssertion (f : FeedId) (s : State) : Host.Outcome State Fault Refusal := done (stallAssertion f s)

/-- STALL_CLEAR (R52). -/
def execStallClear (f : FeedId) (s : State) : Host.Outcome State Fault Refusal := done (stallClear f s)

/-- FEED_FIRST_DECISION (R48). -/
def execFeedFirstDecision (f : FeedId) (s : State) : Host.Outcome State Fault Refusal := done (feedDecision f s)

/-- SHED (R54). -/
def execShed (f : FeedId) (s : State) : Host.Outcome State Fault Refusal := done (shedExpiry f s)

/-- STALL_LINE_SAMPLE (R47). -/
def execStallLineSample (f : FeedId) (high : Bool) (s : State) : Host.Outcome State Fault Refusal :=
  done (stallSample f high s)

end Sys2Proof.Machine
end

