-- ==== Sys2Proof/Machine/Isolation.lean ====
section
/-! DEFINITION. The isolation overlay of the District Table (R14 to R20, R141): onset, release, and the change of
several districts' isolation sets by one event. -/

namespace Sys2Proof.Machine

/-- An onset on a district with a FULL probe in its channel (R141). -/
def onsetProbing (d : DistrictId) (s : State) : State :=
  setSt d (.isolated .queued) (match channelOf s d with
    | some c => endProbe c s
    | none => s)

/-- An onset: the set of district `d` has become not empty (R15 to R18, R141). -/
def onset (d : DistrictId) (s : State) : State :=
  match (s.district d).st with
  | .live => setSt d (.isolated .queued) (endProbation d (abandonWindow d s))
  | .cooling .counting => setSt d (.isolated .coolRetained) (retainTimer d s)
  | .cooling .merging => setSt d (.isolated .coolPending) s
  | .queued => setSt d (.isolated .queued) (removeEntry d s)
  | .awaitingGrant => setSt d (.isolated .awaitingGrant) (clearTimer d s)
  | .probing => onsetProbing d s
  | .locked _ _ => dropLook d (clearTimer d s)
  | .off => s
  | .isolated _ => s

/-- A release: the set of district `d` has become empty (R20). -/
def releaseDistrict (d : DistrictId) (s : State) : State :=
  match (s.district d).st with
  | .isolated .coolRetained => runOnTimer d (setSt d (.cooling .counting) s)
  | .isolated .coolPending => setSt d (.cooling .merging) s
  | .isolated .queued => becomeQueued d s
  | .isolated .awaitingGrant => becomeAwaitingGrant d s
  | .locked _ _ => if (s.dcfg d).patrol && s.mode == .run then loadPatrol d s else s
  | _ => s

/-- District `d` takes its own change of isolation set, from its set in `before` to its set in `after`, and is
marked ISOLATION (R14). -/
def takeIsolation (before after : State) (d : DistrictId) (s : State) : State :=
  if isolationDiffers before after d then
    markDistrict [.isolation] d
      (match isolationSet before d, isolationSet after d with
        | false, true => onset d s
        | true, false => releaseDistrict d s
        | _, _ => s)
  else s

/-- The districts whose isolation sets differ between `before` and `after` take their changes in ascending number
(R153). -/
def isolationChange (before after : State) : State := forDistricts (takeIsolation before after) after

end Sys2Proof.Machine
end

