-- ==== Sys2Proof/Machine/JointMonitor.lean ====
section
/-! DEFINITION. The Joint Monitor (chapter 9): the debounce, the joint states, the settle and docking timers; and
the meanings of JOINT_SENSE_SAMPLE, JOINT_FIRST_DECISION, DEBOUNCED_INPUT_CHANGE, SETTLE_EXPIRY and
DOCKING_EXPIRY. -/

namespace Sys2Proof.Machine

/-- A joint event: the record of `j` changes, the joint is marked, the districts take the change of isolation, and
the Arbiter looks if that calls for it (R153, R157, R105). -/
def jointEvent (j : JointId) (g : Joint → Joint) (s : State) : State :=
  arbitrate s (isolationChange s (markJoint j (s.modJoint j g)))

/-- The first decision of a joint (R148). -/
def Joint.decide (x : Joint) : Joint :=
  { x with decided := true, input := x.lastShown, filterRun := 0,
           st := if x.lastShown then .coupled else x.st }

def jointDecision (j : JointId) (s : State) : State :=
  if jointDecisionDue s j then jointEvent j Joint.decide s else s

/-- A change of the debounced input (R149 to R151), with the settle time and docking timeout in force. -/
def Joint.changeInput (settle docking : Nat) (x : Joint) : Joint :=
  let x := { x with input := !x.input, filterRun := 0 }
  match x.st with
  | .coupled => if x.input then x else { x with st := .opened }
  | .opened =>
    if x.input then
      { x with st := .docking, settle := some { remaining := settle, ended := false },
               docking := match x.docking with
                 | some t => some t
                 | none => some { remaining := docking, ended := false } }
    else x
  | .docking => if x.input then x else { x with st := .opened, settle := none }
  | .fault => x

def inputChange (j : JointId) (s : State) : State :=
  if inputChangeDue s j then
    jointEvent j (Joint.changeInput (s.jcfg j).settle.samples (s.jcfg j).docking.samples) s
  else s

/-- The joint becomes COUPLED without timers (R150, R155). -/
def Joint.couple (x : Joint) : Joint := { x with st := .coupled, settle := none, docking := none }

/-- A settle expiry (R150). -/
def settleExpiry (j : JointId) (s : State) : State :=
  if settleDue s j then jointEvent j Joint.couple s else s

/-- A docking expiry (R151). -/
def dockingExpiry (j : JointId) (s : State) : State :=
  if dockingDue s j then jointEvent j (fun x => { x with st := .fault, settle := none, docking := none }) s
  else s

/-- What stands due at the previous sample of joint `j`'s line: decision, or expiries and then the input change
(log entries 3 and 21). -/
def settleJoint (j : JointId) (s : State) : State :=
  inputChange j (dockingExpiry j (settleExpiry j (jointDecision j s)))

/-- One boundary of a joint timer (R152). -/
def JointTimer.advance (t : JointTimer) : JointTimer :=
  if t.remaining ≤ 1 then { t with ended := true } else { t with remaining := t.remaining - 1 }

/-- One sample of the sense line, read through the polarity: `shown` is whether it shows coupled (R147, R148,
R152). -/
def Joint.take (x : Joint) (shown : Bool) : Joint :=
  { x with
    filterRun :=
      if x.decided then (if shown == x.input then 0 else x.filterRun + 1)
      else if x.filterRun = 0 || shown == x.lastShown then x.filterRun + 1 else 1,
    lastShown := shown,
    settle := x.settle.map JointTimer.advance,
    docking := x.docking.map JointTimer.advance }

/-- The reading of a sense level through the joint's polarity (R147). -/
def showsCoupled (c : JointConfig) (high : Bool) : Bool := high == c.coupledHigh

def jointSample (j : JointId) (high : Bool) (s : State) : State :=
  let s := settleJoint j s
  s.modJoint j (fun x => x.take (showsCoupled (s.jcfg j) high))

/-! ### Meanings -/

/-- JOINT_FIRST_DECISION (R148). -/
def execJointFirstDecision (j : JointId) (s : State) : Host.Outcome State Fault Refusal :=
  done (jointDecision j s)

/-- DEBOUNCED_INPUT_CHANGE (R149 to R151). -/
def execDebouncedInputChange (j : JointId) (s : State) : Host.Outcome State Fault Refusal :=
  done (inputChange j s)

/-- SETTLE_EXPIRY (R150). -/
def execSettleExpiry (j : JointId) (s : State) : Host.Outcome State Fault Refusal := done (settleExpiry j s)

/-- DOCKING_EXPIRY (R151). -/
def execDockingExpiry (j : JointId) (s : State) : Host.Outcome State Fault Refusal := done (dockingExpiry j s)

/-- JOINT_SENSE_SAMPLE (R147). -/
def execJointSenseSample (j : JointId) (high : Bool) (s : State) : Host.Outcome State Fault Refusal :=
  done (jointSample j high s)

end Sys2Proof.Machine
end

