-- ==== Sys2Proof/Machine/Operands.lean ====
section
/-! DEFINITION. The bytes of requests and replies (chapter 12): numbers and codes, the status layouts (R182, R185),
the configuration layouts (R185), the field entries of the writes (R187), and the reply frame (R180). -/

namespace Sys2Proof.Machine

/-! ### Bytes -/

/-- The byte with value `n`. -/
def byte (n : Nat) : Byte := BitVec.ofNat 8 n

/-- A two-byte value, high byte first (R182). -/
def word (n : Nat) : List Byte := [byte (n / 256), byte n]

/-- A three-byte value, high byte first (R182). -/
def word3 (n : Nat) : List Byte := [byte (n / 65536), byte (n / 256), byte n]

def flag (b : Bool) (bit : Nat) : Nat := if b then 2 ^ bit else 0

/-- The sum of the bytes modulo 256 (R178, R180). -/
def byteSum (bs : List Byte) : Byte := bs.foldl (· + ·) 0#8

/-- The CHECK byte that makes the sum 0 modulo 256 (R178, R180). -/
def checkByte (bs : List Byte) : Byte := 0#8 - byteSum bs

/-! ### Codes (R182, R187) -/

def Status.code : Status → Nat
  | .ok => 0x00 | .busy => 0x01 | .refusedState => 0x02 | .notJoined => 0x03 | .noSlot => 0x04
  | .badArg => 0x05 | .notDue => 0x06 | .notHolder => 0x07 | .holding => 0x08 | .isolated => 0x09
  | .mode => 0x0A | .unknownKind => 0x0B

def policyCode : Policy → Nat
  | .dark => 0 | .auto => 1 | .supervised => 2 | .manual => 3
def policyOfCode : Nat → Option Policy
  | 0 => some .dark | 1 => some .auto | 2 => some .supervised | 3 => some .manual | _ => none

def mergeWindowCode : MergeWindow → Nat
  | .ms2 => 0 | .ms5 => 1 | .ms10 => 2 | .ms20 => 3
def mergeWindowOfCode : Nat → Option MergeWindow
  | 0 => some .ms2 | 1 => some .ms5 | 2 => some .ms10 | 3 => some .ms20 | _ => none

def stallFilterCode : StallFilter → Nat
  | .n1 => 0 | .n2 => 1 | .n4 => 2 | .n8 => 3
def stallFilterOfCode : Nat → Option StallFilter
  | 0 => some .n1 | 1 => some .n2 | 2 => some .n4 | 3 => some .n8 | _ => none

def debounceCode : Debounce → Nat
  | .ms1 => 0 | .ms4 => 1 | .ms16 => 2 | .ms64 => 3
def debounceOfCode : Nat → Option Debounce
  | 0 => some .ms1 | 1 => some .ms4 | 2 => some .ms16 | 3 => some .ms64 | _ => none

def settleCode : SettleTime → Nat
  | .quarter => 0 | .half => 1 | .s1 => 2 | .s2 => 3 | .s4 => 4
def settleOfCode : Nat → Option SettleTime
  | 0 => some .quarter | 1 => some .half | 2 => some .s1 | 3 => some .s2 | 4 => some .s4 | _ => none

def dockingCode : DockingTimeout → Nat
  | .s1 => 0 | .s2 => 1 | .s5 => 2 | .s10 => 3 | .s30 => 4
def dockingOfCode : Nat → Option DockingTimeout
  | 0 => some .s1 | 1 => some .s2 | 2 => some .s5 | 3 => some .s10 | 4 => some .s30 | _ => none

def boolCode (b : Bool) : Nat := if b then 1 else 0
def boolOfCode : Nat → Option Bool
  | 0 => some false | 1 => some true | _ => none
def fin4OfCode (n : Nat) : Option (Fin 4) := if h : n < 4 then some ⟨n, h⟩ else none

def stateCode : DistrictState → Nat
  | .off => 0 | .live => 1 | .cooling _ => 2 | .awaitingGrant => 3 | .queued => 4 | .probing => 5
  | .isolated _ => 6 | .locked _ _ => 7

def subStateCode : DistrictState → Nat
  | .cooling .merging => 0 | .cooling .counting => 1
  | .isolated .coolRetained => 0 | .isolated .coolPending => 1 | .isolated .queued => 2
  | .isolated .awaitingGrant => 3
  | .locked _ .noLook => 0 | .locked _ .queued => 1 | .locked _ .inFlight => 2
  | _ => 0

/-- The timer view (R9, R182). -/
def timerViewCode (t : Timer) : Nat :=
  match t.purpose with
  | none => 0
  | some .cool => if t.running then 1 else 2
  | some .grant => 3
  | some .probation => 4
  | some .patrol => 5

def tripCode : Option TripCause → Nat
  | none => 0 | some .hard => 1 | some .overload => 2 | some .reversalFailed => 3

def failCode : Option FailCause → Nat
  | none => 0 | some .backfeed => 1 | some .shortPersists => 2 | some .rampTrip => 3
  | some .noVoltage => 4 | some .confirmTrip => 5 | some .lifetime => 6

def lockCode : DistrictState → Nat
  | .locked .limit _ => 1 | .locked .manualPolicy _ => 2 | .locked .grantLapsed _ => 3 | _ => 0

def pauseCode : Option Pause → Nat
  | none => 0 | some ⟨.sibling, _⟩ => 1 | some ⟨.stall, _⟩ => 2

def stageCode : Stage → Nat
  | .sense => 0 | .precharge => 1 | .ramp _ => 2 | .confirm _ => 3

/-- Ramp step minus one, 0 where no step is present (R182). -/
def stepCode : Stage → Nat
  | .ramp k => k - 1 | _ => 0

def jointCode : JointState → Nat
  | .coupled => 0 | .opened => 1 | .docking => 2 | .fault => 3

def phaseCode : ShedPhase → Nat
  | .idle => 0 | .pending _ => 1 | .shed => 2

def classCode : Option EpisodeClass → Nat
  | none => 0 | some .localClass => 1 | some .massClass => 2

def closeCode : Option CloseCause → Nat
  | none => 0 | some .window => 1 | some .cap => 2 | some .stallClear => 3

/-! ### Status layouts (R182, R185) -/

/-- Byte 0 of the DISTRICT_STATUS layout (R182). -/
def districtByte0 (s : State) (d : DistrictId) : Byte :=
  byte (stateCode (s.district d).st + 4 * (2 * subStateCode (s.district d).st) +
    32 * timerViewCode (s.timer d))

/-- Holders as a byte, bit n for slot Sn. -/
def holdersByte (h : BitVec 6) : Byte := h.setWidth 8

/-- The 14 bytes of DISTRICT_STATUS (R182). -/
def districtBytes (s : State) (d : DistrictId) : List Byte :=
  let r := s.district d
  let m := s.monitor d
  let t := s.timer d
  let view := (channelOf s d).bind (fun c => (s.channel c).map (fun p => (c, p)))
  [districtByte0 s d,
   byte (flag r.probation 0 + flag (episodeMember s d) 1 + flag (r.polarity == .swapped) 2 +
     flag m.voltage 3 + flag m.window.isSome 4),
   holdersByte r.holders,
   jointPart s d,
   byte r.failures,
   byte (tripCode r.lastTrip + 16 * failCode r.lastFail),
   byte (lockCode r.st + 4 * pauseCode (view.bind (fun v => v.2.pause)) + flag view.isSome 4)] ++
  word (if t.purpose.isSome then t.count else 0) ++
  [match view with
   | some (c, p) => byte (c.val + 4 * stageCode p.stage + 16 * stepCode p.stage)
   | none => 0#8] ++
  word r.trips ++ [byte r.swaps, byte (m.integrator / 256)]

/-- The shed timer's remaining time in ms, 0 unless PENDING; a part of a ms counts as one (R185, log entry 16). -/
def shedMs : ShedPhase → Nat
  | .pending q => (q + 3) / 4
  | _ => 0

/-- The 11 bytes of FEED_STATUS (R185). -/
def feedBytes (s : State) (f : FeedId) : List Byte :=
  let x := s.feed f
  let e := s.episode f
  let isShed : Bool := match e with
    | some e => e.kind == .shed
    | none => false
  let stallFlag : Bool := match e with
    | some e => e.stallFlag
    | none => false
  let members : Nat := match e with
    | some e => e.members.length
    | none => 0
  let window : Nat := match e with
    | some e => (match e.kind with
      | .ordinary w => w.remaining
      | .shed => 0)
    | none => 0
  [byte (flag x.stalled 0 + flag x.decided 1 + 4 * phaseCode x.phase + flag e.isSome 4 + flag isShed 5 +
    flag stallFlag 6)] ++
  word (shedMs x.phase) ++
  [byte (s.fcfg f).budget, byte (budgetInUse s f), byte (channelsHeld s f), byte (s.queue f).length,
   byte members, byte window,
   byte (classCode (s.summary f).cls + 4 * closeCode (s.summary f).cause), byte (s.summary f).count]

/-- Byte 0 of the JOINT_STATUS layout (R185). -/
def jointByte0 (s : State) (j : JointId) : Byte :=
  let x := s.joint j
  byte (jointCode x.st + flag x.decided 2 + flag x.input 3 + flag (s.jcfg j).enabled 4 +
    flag x.settle.isSome 5 + flag x.docking.isSome 6)

/-- What JOINT_STATUS returns of a joint timer: its remaining samples, and 0 where the timer is absent, for which R185
gives no value (log entry 31). -/
def jointTimerSamples : Option JointTimer → Nat
  | some t => t.remaining
  | none => 0

/-- The 8 bytes of JOINT_STATUS (R185). -/
def jointBytes (s : State) (j : JointId) : List Byte :=
  [jointByte0 s j] ++ word (jointTimerSamples (s.joint j).settle) ++
  word3 (jointTimerSamples (s.joint j).docking) ++ word (isolatedByJoint s j).toNat

/-! ### Configuration layouts (R185) -/

/-- READ_DISTRICT_CONFIG page 0. -/
def districtPage0 (c : DistrictConfig) : List Byte :=
  [byte c.feed.val, byte (policyCode c.policy), byte (flag c.reversing 0 + flag c.patrol 1), byte c.priority.val,
   byte c.weight, byte c.lockoutLimit, byte c.swapWindow, byte c.leak] ++
  word c.trip ++ word c.hard ++ word c.allowance

/-- READ_DISTRICT_CONFIG page 1. -/
def districtPage1 (c : DistrictConfig) : List Byte :=
  word c.probeAllowance ++ [byte c.preLimit] ++ word c.preTime ++
  [byte c.rampSteps, byte c.stepTime] ++ word c.confirmTime

/-- READ_FEED_CONFIG. -/
def feedConfigBytes (c : FeedConfig) : List Byte :=
  [byte c.budget, byte c.massThreshold, byte (mergeWindowCode c.mergeWindow)] ++ word c.massCool ++ word c.stagger ++
  word c.shedDelay ++ [byte (boolCode c.stallHigh), byte (stallFilterCode c.stallFilter)]

/-- READ_JOINT_CONFIG. -/
def jointConfigBytes (c : JointConfig) : List Byte :=
  [byte (boolCode c.enabled)] ++ word c.cover.toNat ++
  [byte (boolCode c.coupledHigh), byte (debounceCode c.debounce), byte (settleCode c.settle), byte (dockingCode c.docking)]

/-- READ_GLOBALS. -/
def globalsBytes (g : Globals) : List Byte :=
  [byte g.k] ++ word g.base ++ word g.ceiling ++ word g.probation ++ word g.grantWindow ++ word g.patrol

/-! ### Field entries (R187) -/

/-- Width of a field's value. -/
inductive Width | one | two
  deriving DecidableEq, Repr

def districtWidth (id : Nat) : Option Width :=
  if id = 0 || 18 < id then none
  else if id = 7 || id = 8 || id = 9 || id = 11 || id = 13 || id = 16 then some .two
  else some .one

def feedWidth (id : Nat) : Option Width :=
  if id = 0 || 8 < id then none
  else if id = 4 || id = 5 || id = 6 then some .two
  else some .one

def jointWidth (id : Nat) : Option Width :=
  if id = 0 || 6 < id then none
  else if id = 2 then some .two
  else some .one

def globalsWidth (id : Nat) : Option Width :=
  if id = 0 || 6 < id then none
  else if id = 1 then some .one
  else some .two

/-- A field entry: the field's id and the value written. -/
abbrev FieldEntry := Nat × Nat

/-- The entries of a payload, or none for an id out of the record or an entry cut short (R187). -/
def splitEntries (width : Nat → Option Width) : List Byte → Option (List FieldEntry)
  | [] => some []
  | [_] => none
  | id :: v :: rest =>
    match width id.toNat with
    | none => none
    | some .one => (splitEntries width rest).map (fun es => (id.toNat, v.toNat) :: es)
    | some .two =>
      match rest with
      | [] => none
      | w :: rest' =>
        (splitEntries width rest').map (fun es => (id.toNat, 256 * v.toNat + w.toNat) :: es)

/-- No id appears twice (R187). -/
def distinctIds : List FieldEntry → Bool
  | [] => true
  | (id, _) :: es => !(es.map Prod.fst).contains id && distinctIds es

/-- The entries of a payload, if they fill it exactly and name each field at most once (R179, R187). -/
def parseEntries (width : Nat → Option Width) (payload : List Byte) : Option (List FieldEntry) :=
  match splitEntries width payload with
  | some es => if distinctIds es then some es else none
  | none => none

/-- The value written to field `id`, if the entries name it. -/
def written (es : List FieldEntry) (id : Nat) : Option Nat := es.lookup id

def names (es : List FieldEntry) (id : Nat) : Bool := (written es id).isSome

/-- The bytes of one entry with value `v`. -/
def entryBytes (width : Nat → Option Width) (id v : Nat) : List Byte :=
  match width id with
  | some .two => byte id :: word v
  | _ => [byte id, byte v]

/-- The entries echoed with the values taken (R187). -/
def echo (width : Nat → Option Width) (value : Nat → Nat) (es : List FieldEntry) : List Byte :=
  es.flatMap (fun e => entryBytes width e.1 (value e.1))

/-- A written value clamped to its range, or the stored one (R22). -/
def take (es : List FieldEntry) (id lo hi stored : Nat) : Nat :=
  match written es id with
  | some v => clamp lo hi v
  | none => stored

/-- A written code, or the stored one; none for a code out of range (R187). -/
def takeCode {α : Type} (es : List FieldEntry) (id : Nat) (ofCode : Nat → Option α) (stored : α) : Option α :=
  match written es id with
  | some v => ofCode v
  | none => some stored

/-! ### The reply frame (R180, R182) -/

/-- The bytes from SOURCE up to the payload's end. -/
def replyBody (address : BitVec 4) (r : Reply) : List Byte :=
  [address.setWidth 8, r.dest, r.kind, byte r.status.code, byte r.payload.length] ++ r.payload

/-- The reply frame as it is sent (R180). -/
def Reply.frame (address : BitVec 4) (r : Reply) : List Byte :=
  0xC6#8 :: (replyBody address r ++ [checkByte (replyBody address r)])

/-- What the part sends on LTXD while LDEN is asserted (R180). -/
def transmitted (s : State) : List Byte :=
  match s.line.cond with
  | .replying r => r.frame s.lineAddress
  | _ => []

end Sys2Proof.Machine
end

