-- ==== Sys2Proof/WellFormed.lean ====
section
/-! DEFINITION. Well-formed commands: what the frame format lets a command carry (R178, R179, R182, R184). The
numbers of districts, feeds, joints and channels are well formed by their types. -/

namespace Sys2Proof

/-- The KIND codes that name a request (R184). -/
def requestKinds : List Byte :=
  [0x01, 0x02, 0x03, 0x04, 0x05, 0x06, 0x07, 0x08, 0x09, 0x10, 0x11, 0x12, 0x20, 0x21, 0x22, 0x23,
   0x30, 0x31, 0x32, 0x40, 0x41, 0x42, 0x43, 0x44, 0x45]

/-- A SOURCE that names a node: 1 to 63 (R179). -/
def sourceOk (src : Byte) : Bool := 1 ≤ src.toNat && src.toNat ≤ 63

/-- A payload that a frame can carry: LEN 0 to 16 (R178). -/
def payloadOk (payload : List Byte) : Bool := payload.length ≤ 16

/-- The check of a request: its SOURCE names a node and its payload fits a frame. -/
def requestOk (src : Byte) (payload : List Byte) : Bool := sourceOk src && payloadOk payload

/-- Whether a command can be sent at all. -/
def Instr.wf : Instr → Bool
  | .partStatus src p | .summary src p | .districtStatus src p | .feedStatus src p | .jointStatus src p
  | .readDistrictConfig src p | .readFeedConfig src p | .readJointConfig src p | .readGlobals src p
  | .join src p | .leave src p | .subscribe src p | .hold src p | .release src p | .breakHold src p
  | .acceptJoint src p | .grant src p | .retryNow src p | .clear src p | .setDistrict src p
  | .setFeed src p | .setJoint src p | .setGlobals src p | .storeProfile src p | .setMode src p =>
      requestOk src p
  | .unknownKindRequest src kind p => requestOk src p && !requestKinds.contains kind
  | .badSourceFrame src => !sourceOk src
  | .powerOnReset _ | .currentSample _ _ _ | .swapWindowSuccess _ | .episodeWindowExpiry _
  | .episodeCapExpiry _ | .stallAssertion _ | .stallClear _ | .feedFirstDecision _ | .shed _
  | .coolExpiry _ | .grantExpiry _ | .probationExpiry _ | .patrolExpiry _ | .senseEnd _
  | .prechargeEnd _ | .rampStepEnd _ | .confirmEnd _ | .probeLifetimeExpiry _ | .jointFirstDecision _
  | .debouncedInputChange _ | .settleExpiry _ | .dockingExpiry _ | .profileWriteEnd _ | .foreignFrame _
  | .checkError | .frameError | .interByteTimeout | .replyStart | .replyEnd | .replyCollision
  | .tickBoundary | .stallLineSample _ _ | .jointSenseSample _ _ | .frameStart => true

end Sys2Proof
end

