-- ==== Sys2Proof/Decode.lean ====
section
/-! DEFINITION. Decoding. The opcode table gives bits to no row, so no table word spells a command; the bytes of a
frame on the District Control Line do (R178, R179, R184), and `requestFrame` writes the frame of a request. -/

namespace Sys2Proof

open Machine (byte byteSum checkByte)

/-- The command that a word spells by the opcode table's bits: none, since no row has bits. -/
def decodeTableWord (_nbits _w : Nat) : Option Instr := none

/-- The request that a KIND names, or the request of an unknown KIND (R179, R184). -/
def requestOf (src kind : Byte) (payload : List Byte) : Instr :=
  match kind.toNat with
  | 0x01 => .partStatus src payload
  | 0x02 => .summary src payload
  | 0x03 => .districtStatus src payload
  | 0x04 => .feedStatus src payload
  | 0x05 => .jointStatus src payload
  | 0x06 => .readDistrictConfig src payload
  | 0x07 => .readFeedConfig src payload
  | 0x08 => .readJointConfig src payload
  | 0x09 => .readGlobals src payload
  | 0x10 => .join src payload
  | 0x11 => .leave src payload
  | 0x12 => .subscribe src payload
  | 0x20 => .hold src payload
  | 0x21 => .release src payload
  | 0x22 => .breakHold src payload
  | 0x23 => .acceptJoint src payload
  | 0x30 => .grant src payload
  | 0x31 => .retryNow src payload
  | 0x32 => .clear src payload
  | 0x40 => .setDistrict src payload
  | 0x41 => .setFeed src payload
  | 0x42 => .setJoint src payload
  | 0x43 => .setGlobals src payload
  | 0x44 => .storeProfile src payload
  | 0x45 => .setMode src payload
  | _ => .unknownKindRequest src kind payload

/-- A valid frame, by its DEST and SOURCE (R179). -/
def validFrame (address : BitVec 4) (dest src kind : Byte) (payload : List Byte) : Instr :=
  if dest != address.setWidth 8 then .foreignFrame dest
  else if !sourceOk src then .badSourceFrame src
  else requestOf src kind payload

/-- The command that the bytes from SYNC to CHECK spell for the part with this line address; a LEN above 16 is a
frame error whatever follows it, and bytes that are no whole frame spell none (R178). -/
def decodeFrame (address : BitVec 4) (bytes : List Byte) : Option Instr :=
  match bytes with
  | sync :: dest :: src :: kind :: len :: rest =>
    if sync != 0xC5#8 then none
    else if 16 < len.toNat then some .frameError
    else if rest.length != len.toNat + 1 then none
    else if byteSum (dest :: src :: kind :: len :: rest) != 0#8 then some .checkError
    else some (validFrame address dest src kind (rest.take len.toNat))
  | _ => none

/-- The bytes from DEST to the end of the payload. -/
def requestBody (address : BitVec 4) (src kind : Byte) (payload : List Byte) : List Byte :=
  address.setWidth 8 :: src :: kind :: byte payload.length :: payload

/-- The frame of a request (R178, R182). -/
def requestFrame (address : BitVec 4) (src kind : Byte) (payload : List Byte) : List Byte :=
  0xC5#8 :: (requestBody address src kind payload ++ [checkByte (requestBody address src kind payload)])

/-- The frame of a command that is a request, as a master sends it to the part with this address (R178, R184). -/
def frameOf (address : BitVec 4) (i : Instr) : Option (List Byte) :=
  match i with
  | .partStatus src p => some (requestFrame address src 0x01#8 p)
  | .summary src p => some (requestFrame address src 0x02#8 p)
  | .districtStatus src p => some (requestFrame address src 0x03#8 p)
  | .feedStatus src p => some (requestFrame address src 0x04#8 p)
  | .jointStatus src p => some (requestFrame address src 0x05#8 p)
  | .readDistrictConfig src p => some (requestFrame address src 0x06#8 p)
  | .readFeedConfig src p => some (requestFrame address src 0x07#8 p)
  | .readJointConfig src p => some (requestFrame address src 0x08#8 p)
  | .readGlobals src p => some (requestFrame address src 0x09#8 p)
  | .join src p => some (requestFrame address src 0x10#8 p)
  | .leave src p => some (requestFrame address src 0x11#8 p)
  | .subscribe src p => some (requestFrame address src 0x12#8 p)
  | .hold src p => some (requestFrame address src 0x20#8 p)
  | .release src p => some (requestFrame address src 0x21#8 p)
  | .breakHold src p => some (requestFrame address src 0x22#8 p)
  | .acceptJoint src p => some (requestFrame address src 0x23#8 p)
  | .grant src p => some (requestFrame address src 0x30#8 p)
  | .retryNow src p => some (requestFrame address src 0x31#8 p)
  | .clear src p => some (requestFrame address src 0x32#8 p)
  | .setDistrict src p => some (requestFrame address src 0x40#8 p)
  | .setFeed src p => some (requestFrame address src 0x41#8 p)
  | .setJoint src p => some (requestFrame address src 0x42#8 p)
  | .setGlobals src p => some (requestFrame address src 0x43#8 p)
  | .storeProfile src p => some (requestFrame address src 0x44#8 p)
  | .setMode src p => some (requestFrame address src 0x45#8 p)
  | .unknownKindRequest src kind p => some (requestFrame address src kind p)
  | .powerOnReset _ | .currentSample _ _ _ | .swapWindowSuccess _ | .episodeWindowExpiry _
  | .episodeCapExpiry _ | .stallAssertion _ | .stallClear _ | .feedFirstDecision _ | .shed _
  | .coolExpiry _ | .grantExpiry _ | .probationExpiry _ | .patrolExpiry _ | .senseEnd _ | .prechargeEnd _
  | .rampStepEnd _ | .confirmEnd _ | .probeLifetimeExpiry _ | .jointFirstDecision _
  | .debouncedInputChange _ | .settleExpiry _ | .dockingExpiry _ | .profileWriteEnd _ | .foreignFrame _
  | .badSourceFrame _ | .checkError | .frameError | .interByteTimeout | .replyStart | .replyEnd
  | .replyCollision | .tickBoundary | .stallLineSample _ _ | .jointSenseSample _ _ | .frameStart => none

end Sys2Proof
end

