-- ==== Sys2Proof/Machine/Line.lean ====
section
/-! DEFINITION. The Line Interface (R178 to R181): receiving, counting, replying; the frame of every request's
meaning; and the meanings of the line's own rows. -/

namespace Sys2Proof.Machine

/-! ### Receiving (R178, R179) -/

/-- The Line Interface returns to hunting with an empty buffer. -/
def toHunting (s : State) : State := s.setLine { s.line with cond := .hunting, buffer := [] }

/-- A frame is discarded and FRAME_ERRORS rises (R178, R179, R181). -/
def discardFrame (s : State) : State :=
  s.setLine { s.line with
    cond := .hunting, buffer := [], frameErrors := satSucc 65535 s.line.frameErrors }

/-- Whether the Line Interface is in a frame (R178). -/
def receiving (s : State) : Bool := s.line.cond == .inFrame

/-! ### Requests (R179, R180, R183) -/

/-- What a request does: its status, its reply payload, and the state it leaves. -/
structure Answer where
  status : Status
  payload : List Byte
  state : State

/-- A refused request changes nothing (R183). -/
def refuse (st : Status) (payload : List Byte) (s : State) : Answer := ⟨st, payload, s⟩

/-- The reply becomes due, its content fixed now (R180). -/
def Answer.reply (a : Answer) (src kind : Byte) : State :=
  a.state.setLine { a.state.line with cond := .replyDue ⟨src, kind, a.status, a.payload⟩, buffer := [] }

/-- A request frame for this part (R179): lost without a count while the receive side is closed; a LEN above 16 or
a SOURCE outside 1 to 63 discards it; otherwise it is taken and answered. -/
def takeRequest (src kind : Byte) (payload : List Byte) (body : State → Answer) (s : State) : State :=
  if lineClosed s then s
  else if !requestOk src payload then discardFrame s
  else (body s).reply src kind

/-- A request without payload (R184). -/
def noPayload (payload : List Byte) (s : State) (body : Answer) : Answer :=
  if payload.isEmpty then body else refuse .badArg [] s

/-- A request whose payload is one district number (R184, R185). -/
def oneDistrict (payload : List Byte) (s : State) (body : DistrictId → Answer) : Answer :=
  match payload with
  | [b] => if h : b.toNat < 16 then body ⟨b.toNat, h⟩ else refuse .badArg [] s
  | _ => refuse .badArg [] s

/-- A request whose payload is one feed number (R184, R185). -/
def oneFeed (payload : List Byte) (s : State) (body : FeedId → Answer) : Answer :=
  match payload with
  | [b] => if h : b.toNat < 4 then body ⟨b.toNat, h⟩ else refuse .badArg [] s
  | _ => refuse .badArg [] s

/-- A request whose payload is one joint number (R184, R185). -/
def oneJoint (payload : List Byte) (s : State) (body : JointId → Answer) : Answer :=
  match payload with
  | [b] => if h : b.toNat < 8 then body ⟨b.toNat, h⟩ else refuse .badArg [] s
  | _ => refuse .badArg [] s

/-- A request that needs a slot: a node that is not joined is refused (R158, R179). -/
def ofSlot (src : Byte) (s : State) (body : SlotId → Answer) : Answer :=
  match slotOf s src with
  | some n => body n
  | none => refuse .notJoined [] s

/-! ### Meanings of the line's rows -/

/-- FRAME_START (R178): the SYNC byte starts a frame while hunting; inside a frame it is data, and while the
receive side is closed it is not received. -/
def execFrameStart (s : State) : Host.Outcome State Fault Refusal :=
  done (if s.line.cond == .hunting then s.setLine { s.line with cond := .inFrame, buffer := [0xC5#8] } else s)

/-- CHECK_ERROR (R178). -/
def execCheckError (s : State) : Host.Outcome State Fault Refusal :=
  done (if receiving s then
    s.setLine { s.line with
      cond := .hunting, buffer := [], checkErrors := satSucc 65535 s.line.checkErrors }
  else s)

/-- FRAME_ERROR (R178): outside a frame a byte without its stop bit is ignored and not counted. -/
def execFrameError (s : State) : Host.Outcome State Fault Refusal :=
  done (if receiving s then discardFrame s else s)

/-- INTER_BYTE_TIMEOUT (R178). -/
def execInterByteTimeout (s : State) : Host.Outcome State Fault Refusal :=
  done (if receiving s then discardFrame s else s)

/-- FOREIGN_FRAME (R179): ignored; a DEST that is the part's address is no foreign frame. -/
def execForeignFrame (dest : Byte) (s : State) : Host.Outcome State Fault Refusal :=
  done (if lineClosed s || dest == s.lineAddress.setWidth 8 then s else toHunting s)

/-- BAD_SOURCE_FRAME (R179): a SOURCE of 1 to 63 is no bad source. -/
def execBadSourceFrame (src : Byte) (s : State) : Host.Outcome State Fault Refusal :=
  done (if lineClosed s || sourceOk src then s else discardFrame s)

/-- UNKNOWN_KIND_REQUEST (R179, R183): refused with UNKNOWN_KIND; a KIND that names a request is no unknown
kind. -/
def execUnknownKindRequest (src kind : Byte) (payload : List Byte) (s : State) :
    Host.Outcome State Fault Refusal :=
  done (if requestKinds.contains kind then s
    else takeRequest src kind payload (refuse .unknownKind []) s)

/-- REPLY_START (R180): LDEN is asserted and the reply frame is being sent. -/
def execReplyStart (s : State) : Host.Outcome State Fault Refusal :=
  done (match s.line.cond with
    | .replyDue r => s.setLine { s.line with cond := .replying r }
    | _ => s)

/-- REPLY_END (R180, R179). -/
def execReplyEnd (s : State) : Host.Outcome State Fault Refusal :=
  done (if driverEnabled s then toHunting s else s)

/-- REPLY_COLLISION (R180). -/
def execReplyCollision (s : State) : Host.Outcome State Fault Refusal :=
  done (if driverEnabled s then
    s.setLine { s.line with
      cond := .hunting, buffer := [], replyCollisions := satSucc 65535 s.line.replyCollisions }
  else s)

end Sys2Proof.Machine
end

