-- ==== Sys2Proof/Machine/Reads.lean ====
section
/-! DEFINITION. The reads (R13, R163, R185): taken in both modes, from joined and unjoined nodes, and while a
profile write is in flight. -/

namespace Sys2Proof.Machine

/-- The item read is removed from the joined sender's slot alone (R163). -/
def readThrough (src : Byte) (g : Slot → Slot) (s : State) : State :=
  match slotOf s src with
  | some n => s.modSlot n g
  | none => s

/-- The nine bytes of PART_STATUS (R185). -/
def partBytes (s : State) (src : Byte) : List Byte :=
  [byte (flag (s.mode == .run) 0 + flag s.profileLost 1 + flag s.writing.isSome 2),
   s.lineAddress.setWidth 8,
   match slotOf s src with
   | some n => byte n.val
   | none => 0xFF#8] ++
  word s.line.checkErrors ++ word s.line.frameErrors ++ word s.line.replyCollisions

/-- The four bytes of SUMMARY (R182); all sets empty for a node that is not joined (R163). -/
def summaryBytes (s : State) (src : Byte) : List Byte :=
  match (slotOf s src).bind (fun n => s.slot n) with
  | some x => word x.changedDistricts.toNat ++ [x.changedFeeds.setWidth 8, x.changedJoints]
  | none => [0#8, 0#8, 0#8, 0#8]

def bodyPartStatus (src : Byte) (payload : List Byte) (s : State) : Answer :=
  noPayload payload s ⟨.ok, partBytes s src, s⟩

def bodySummary (src : Byte) (payload : List Byte) (s : State) : Answer :=
  noPayload payload s ⟨.ok, summaryBytes s src, s⟩

def bodyDistrictStatus (src : Byte) (payload : List Byte) (s : State) : Answer :=
  oneDistrict payload s (fun d =>
    ⟨.ok, districtBytes s d,
     readThrough src (fun x => { x with changedDistricts := removeItem x.changedDistricts d.val }) s⟩)

def bodyFeedStatus (src : Byte) (payload : List Byte) (s : State) : Answer :=
  oneFeed payload s (fun f =>
    ⟨.ok, feedBytes s f,
     readThrough src (fun x => { x with changedFeeds := removeItem x.changedFeeds f.val }) s⟩)

def bodyJointStatus (src : Byte) (payload : List Byte) (s : State) : Answer :=
  oneJoint payload s (fun j =>
    ⟨.ok, jointBytes s j,
     readThrough src (fun x => { x with changedJoints := removeItem x.changedJoints j.val }) s⟩)

/-- READ_DISTRICT_CONFIG: the district and a page, 0 or 1 (R185). -/
def bodyReadDistrictConfig (payload : List Byte) (s : State) : Answer :=
  match payload with
  | [b, page] =>
    oneDistrict [b] s (fun d =>
      if page = 0#8 then ⟨.ok, districtPage0 (s.dcfg d), s⟩
      else if page = 1#8 then ⟨.ok, districtPage1 (s.dcfg d), s⟩
      else refuse .badArg [] s)
  | _ => refuse .badArg [] s

def bodyReadFeedConfig (payload : List Byte) (s : State) : Answer :=
  oneFeed payload s (fun f => ⟨.ok, feedConfigBytes (s.fcfg f), s⟩)

def bodyReadJointConfig (payload : List Byte) (s : State) : Answer :=
  oneJoint payload s (fun j => ⟨.ok, jointConfigBytes (s.jcfg j), s⟩)

def bodyReadGlobals (payload : List Byte) (s : State) : Answer :=
  noPayload payload s ⟨.ok, globalsBytes s.cfg.globals, s⟩

/-! ### Meanings -/

/-- PART_STATUS (R185). -/
def execPartStatus (src : Byte) (payload : List Byte) (s : State) : Host.Outcome State Fault Refusal :=
  done (takeRequest src 0x01#8 payload (bodyPartStatus src payload) s)

/-- SUMMARY (R163). -/
def execSummary (src : Byte) (payload : List Byte) (s : State) : Host.Outcome State Fault Refusal :=
  done (takeRequest src 0x02#8 payload (bodySummary src payload) s)

/-- DISTRICT_STATUS (R13, R163). -/
def execDistrictStatus (src : Byte) (payload : List Byte) (s : State) : Host.Outcome State Fault Refusal :=
  done (takeRequest src 0x03#8 payload (bodyDistrictStatus src payload) s)

/-- FEED_STATUS (R59, R163). -/
def execFeedStatus (src : Byte) (payload : List Byte) (s : State) : Host.Outcome State Fault Refusal :=
  done (takeRequest src 0x04#8 payload (bodyFeedStatus src payload) s)

/-- JOINT_STATUS (R157, R163). -/
def execJointStatus (src : Byte) (payload : List Byte) (s : State) : Host.Outcome State Fault Refusal :=
  done (takeRequest src 0x05#8 payload (bodyJointStatus src payload) s)

/-- READ_DISTRICT_CONFIG (R185). -/
def execReadDistrictConfig (src : Byte) (payload : List Byte) (s : State) :
    Host.Outcome State Fault Refusal :=
  done (takeRequest src 0x06#8 payload (bodyReadDistrictConfig payload) s)

/-- READ_FEED_CONFIG (R185). -/
def execReadFeedConfig (src : Byte) (payload : List Byte) (s : State) : Host.Outcome State Fault Refusal :=
  done (takeRequest src 0x07#8 payload (bodyReadFeedConfig payload) s)

/-- READ_JOINT_CONFIG (R185). -/
def execReadJointConfig (src : Byte) (payload : List Byte) (s : State) : Host.Outcome State Fault Refusal :=
  done (takeRequest src 0x08#8 payload (bodyReadJointConfig payload) s)

/-- READ_GLOBALS (R185). -/
def execReadGlobals (src : Byte) (payload : List Byte) (s : State) : Host.Outcome State Fault Refusal :=
  done (takeRequest src 0x09#8 payload (bodyReadGlobals payload) s)

end Sys2Proof.Machine
end

