-- ==== Sys2Proof/Machine/Masters.lean ====
section
/-! DEFINITION. The Master Table, holds, grants and lockouts (chapter 10, R94, R155): JOIN, LEAVE, SUBSCRIBE, HOLD,
RELEASE, BREAK_HOLD, ACCEPT_JOINT, GRANT, RETRY_NOW and CLEAR. -/

namespace Sys2Proof.Machine

/-! ### Slots (R158 to R161) -/

/-- The values a slot takes on joining (R158). -/
def Slot.joining (src : Byte) : Slot :=
  { node := src, subscription := 0xFF#8, feedEnable := true, jointEnable := true,
    changedDistricts := 0xFFFF#16, changedFeeds := 0xF#4, changedJoints := 0xFF#8 }

/-- The changed-sets filled again for a node that joins anew (R159). -/
def Slot.refilled (x : Slot) : Slot :=
  { x with changedDistricts := 0xFFFF#16, changedFeeds := 0xF#4, changedJoints := 0xFF#8 }

/-- The lowest-numbered free slot (R159). -/
def freeSlot (s : State) : Option SlotId := allSlots.find? (fun n => (s.slot n).isNone)

/-- JOIN (R159). -/
def bodyJoin (src : Byte) (payload : List Byte) (s : State) : Answer :=
  noPayload payload s
    (match slotOf s src with
     | some n => ⟨.ok, [byte n.val, 1#8], s.modSlot n Slot.refilled⟩
     | none =>
       match freeSlot s with
       | some n => ⟨.ok, [byte n.val, 0#8], s.setSlot n (some (Slot.joining src))⟩
       | none => refuse .noSlot [] s)

/-- LEAVE (R160, R183). -/
def bodyLeave (src : Byte) (payload : List Byte) (s : State) : Answer :=
  noPayload payload s
    (ofSlot src s (fun n =>
      if heldBy s n != 0#16 then refuse .holding (word (heldBy s n).toNat) s
      else ⟨.ok, [], s.setSlot n none⟩))

/-- The three fields that SUBSCRIBE replaces, and its effect on the changed-sets (R161). -/
def Slot.subscribed (kinds : Byte) (feedEnable jointEnable : Bool) (x : Slot) : Slot :=
  { x with
    subscription := kinds, feedEnable := feedEnable, jointEnable := jointEnable,
    changedFeeds := if feedEnable then x.changedFeeds else 0#4,
    changedJoints := if jointEnable then x.changedJoints else 0#8 }

/-- SUBSCRIBE (R161, R186). -/
def bodySubscribe (src : Byte) (payload : List Byte) (s : State) : Answer :=
  match payload with
  | [kinds, enables] =>
    if 3 < enables.toNat then refuse .badArg [] s
    else ofSlot src s (fun n =>
      ⟨.ok, [kinds, enables],
       s.modSlot n (Slot.subscribed kinds (enables.getLsbD 0) (enables.getLsbD 1))⟩)
  | _ => refuse .badArg [] s

/-! ### Holds (R164 to R166) -/

/-- The reply payload of HOLD and RELEASE (R186). -/
def holdBytes (s : State) (d : DistrictId) : List Byte :=
  [districtByte0 s d, holdersByte (s.district d).holders, jointPart s d]

/-- The holder part of `d` becomes `h`, and the isolation overlay takes the change (R14). -/
def takeHolders (d : DistrictId) (h : BitVec 6) (s : State) : State :=
  isolationChange s (s.modDistrict d (fun r => { r with holders := h }))

/-- The change of the holder part, with the Arbiter's look where it calls for one (R105). -/
def setHolders (d : DistrictId) (h : BitVec 6) (s : State) : State := arbitrate s (takeHolders d h s)

/-- HOLD (R164). -/
def bodyHold (src : Byte) (payload : List Byte) (s : State) : Answer :=
  oneDistrict payload s (fun d => ofSlot src s (fun n =>
    let s' := if (s.district d).holders.getLsbD n.val then s
      else setHolders d (addItem (s.district d).holders n.val) s
    ⟨.ok, holdBytes s' d, s'⟩))

/-- RELEASE (R165, R183). The reply is taken before the Arbiter's look: a release that empties the set shows the
district in its resume-to state (R165). -/
def bodyRelease (src : Byte) (payload : List Byte) (s : State) : Answer :=
  oneDistrict payload s (fun d => ofSlot src s (fun n =>
    if (s.district d).holders.getLsbD n.val then
      let s' := takeHolders d (removeItem (s.district d).holders n.val) s
      ⟨.ok, holdBytes s' d, arbitrate s s'⟩
    else refuse .notHolder (holdBytes s d) s))

/-- The former holders of `d` are marked whatever their subscription (R166). -/
def markFormer (d : DistrictId) (former : BitVec 6) (s : State) : State :=
  forSlots (fun n s =>
    if former.getLsbD n.val then
      s.modSlot n (fun x => { x with changedDistricts := addItem x.changedDistricts d.val })
    else s) s

/-- BREAK_HOLD (R166). The reply is taken after the Arbiter's look (log entry 10). -/
def bodyBreakHold (src : Byte) (payload : List Byte) (s : State) : Answer :=
  oneDistrict payload s (fun d => ofSlot src s (fun _ =>
    let former := (s.district d).holders
    let s' := if former = 0#6 then s else markFormer d former (setHolders d 0#6 s)
    ⟨.ok, holdBytes s' d ++ [holdersByte former], s'⟩))

/-- ACCEPT_JOINT (R155, R183). -/
def bodyAcceptJoint (src : Byte) (payload : List Byte) (s : State) : Answer :=
  oneJoint payload s (fun j => ofSlot src s (fun _ =>
    if (s.joint j).st == .fault && (s.joint j).input then
      let s' := jointEvent j Joint.couple s
      ⟨.ok, [jointByte0 s' j], s'⟩
    else refuse .refusedState [jointByte0 s j] s))

/-! ### Grants and lockouts (R94, R168, R169) -/

/-- A district is granted a retry: its timer stops and is emptied, it becomes QUEUED and is marked GRANT (R94,
R168). -/
def grantRetry (d : DistrictId) (s : State) : State :=
  arbitrate s (markDistrict [.grant] d (becomeQueued d (clearTimer d s)))

/-- The reply of GRANT, RETRY_NOW and CLEAR (R186), taken after the Arbiter's look (log entry 10). -/
def stateAnswer (st : Status) (d : DistrictId) (s : State) : Answer := ⟨st, [districtByte0 s d], s⟩

/-- GRANT (R168). -/
def bodyGrant (src : Byte) (payload : List Byte) (s : State) : Answer :=
  oneDistrict payload s (fun d => ofSlot src s (fun _ =>
    match (s.district d).st with
    | .awaitingGrant => stateAnswer .ok d (grantRetry d s)
    | .cooling _ => stateAnswer .notDue d s
    | .isolated _ => stateAnswer .isolated d s
    | _ => stateAnswer .refusedState d s))

/-- RETRY_NOW (R94). -/
def bodyRetryNow (src : Byte) (payload : List Byte) (s : State) : Answer :=
  oneDistrict payload s (fun d => ofSlot src s (fun _ =>
    match (s.district d).st with
    | .cooling .counting => stateAnswer .ok d (grantRetry d s)
    | .cooling .merging => stateAnswer .busy d s
    | .awaitingGrant => stateAnswer .ok d (grantRetry d s)
    | _ => stateAnswer .refusedState d s))

/-- The new state of a cleared district (R169, step 5). -/
def clearedState (d : DistrictId) (s : State) : State :=
  if s.mode == .run then
    if isolationSet s d then setSt d (.isolated .queued) s else becomeQueued d s
  else setSt d .off s

/-- A LOCKED district is cleared (R169). -/
def clearLock (d : DistrictId) (s : State) : State :=
  arbitrate s (markDistrict [.locked] d
    (clearedState d (setFailures d 0 (clearTimer d (dropLook d s)))))

/-- CLEAR (R169). -/
def bodyClear (src : Byte) (payload : List Byte) (s : State) : Answer :=
  oneDistrict payload s (fun d => ofSlot src s (fun _ =>
    match (s.district d).st with
    | .locked _ _ => stateAnswer .ok d (clearLock d s)
    | _ => stateAnswer .refusedState d s))

/-! ### Meanings -/

/-- JOIN (R159). -/
def execJoin (src : Byte) (payload : List Byte) (s : State) : Host.Outcome State Fault Refusal :=
  done (takeRequest src 0x10#8 payload (bodyJoin src payload) s)

/-- LEAVE (R160). -/
def execLeave (src : Byte) (payload : List Byte) (s : State) : Host.Outcome State Fault Refusal :=
  done (takeRequest src 0x11#8 payload (bodyLeave src payload) s)

/-- SUBSCRIBE (R161). -/
def execSubscribe (src : Byte) (payload : List Byte) (s : State) : Host.Outcome State Fault Refusal :=
  done (takeRequest src 0x12#8 payload (bodySubscribe src payload) s)

/-- HOLD (R164). -/
def execHold (src : Byte) (payload : List Byte) (s : State) : Host.Outcome State Fault Refusal :=
  done (takeRequest src 0x20#8 payload (bodyHold src payload) s)

/-- RELEASE (R165). -/
def execRelease (src : Byte) (payload : List Byte) (s : State) : Host.Outcome State Fault Refusal :=
  done (takeRequest src 0x21#8 payload (bodyRelease src payload) s)

/-- BREAK_HOLD (R166). -/
def execBreakHold (src : Byte) (payload : List Byte) (s : State) : Host.Outcome State Fault Refusal :=
  done (takeRequest src 0x22#8 payload (bodyBreakHold src payload) s)

/-- ACCEPT_JOINT (R155). -/
def execAcceptJoint (src : Byte) (payload : List Byte) (s : State) : Host.Outcome State Fault Refusal :=
  done (takeRequest src 0x23#8 payload (bodyAcceptJoint src payload) s)

/-- GRANT (R168). -/
def execGrant (src : Byte) (payload : List Byte) (s : State) : Host.Outcome State Fault Refusal :=
  done (takeRequest src 0x30#8 payload (bodyGrant src payload) s)

/-- RETRY_NOW (R94). -/
def execRetryNow (src : Byte) (payload : List Byte) (s : State) : Host.Outcome State Fault Refusal :=
  done (takeRequest src 0x31#8 payload (bodyRetryNow src payload) s)

/-- CLEAR (R169). -/
def execClear (src : Byte) (payload : List Byte) (s : State) : Host.Outcome State Fault Refusal :=
  done (takeRequest src 0x32#8 payload (bodyClear src payload) s)

end Sys2Proof.Machine
end

