-- ==== Sys2Proof/Machine/Writes.lean ====
section
/-! DEFINITION. The configuration writes: SET_DISTRICT (R21 to R25), SET_FEED (R57, R58), SET_JOINT (R154, R156)
and SET_GLOBALS (R92, R93). -/

namespace Sys2Proof.Machine

/-! ### SET_DISTRICT: the values taken (R21, R22) -/

/-- H as it stands after the write, or none where the combination is refused (R21, R22). `trip` is the T that
stands after the write. -/
def takeHard (c : DistrictConfig) (es : List FieldEntry) (trip : Nat) : Option Nat :=
  match written es 8 with
  | some v => if clamp 20 1000 v ≤ trip then none else some (max (clamp 20 1000 v) (trip + 10))
  | none => if names es 7 && decide (c.hard < trip + 10) then none else some c.hard

/-- Priority as it stands after the write. -/
def takePriority (c : DistrictConfig) (es : List FieldEntry) : Fin 4 :=
  match written es 5 with
  | some v => ⟨min 3 v, by omega⟩
  | none => c.priority

/-- The configuration after the write, or none where a code is out of range or the combination is refused (R21,
R22). -/
def takeDistrict (c : DistrictConfig) (es : List FieldEntry) : Option DistrictConfig := do
  let feed ← takeCode es 1 fin4OfCode c.feed
  let policy ← takeCode es 2 policyOfCode c.policy
  let reversing ← takeCode es 3 boolOfCode c.reversing
  let patrol ← takeCode es 4 boolOfCode c.patrol
  let hard ← takeHard c es (take es 7 10 900 c.trip)
  some
    { feed := feed, policy := policy, reversing := reversing, patrol := patrol,
      priority := takePriority c es, weight := take es 6 1 15 c.weight,
      trip := take es 7 10 900 c.trip, hard := hard,
      allowance := take es 9 1 65535 c.allowance, leak := take es 10 0 255 c.leak,
      probeAllowance := take es 11 1 65535 c.probeAllowance, preLimit := take es 12 1 200 c.preLimit,
      preTime := take es 13 10 500 c.preTime, rampSteps := take es 14 1 8 c.rampSteps,
      stepTime := take es 15 5 100 c.stepTime, confirmTime := take es 16 20 1000 c.confirmTime,
      lockoutLimit := take es 17 1 15 c.lockoutLimit, swapWindow := take es 18 4 64 c.swapWindow }

/-- The value of a district's field by its id (R187). -/
def districtField (c : DistrictConfig) (id : Nat) : Nat :=
  match id with
  | 1 => c.feed.val | 2 => policyCode c.policy | 3 => boolCode c.reversing | 4 => boolCode c.patrol
  | 5 => c.priority.val | 6 => c.weight | 7 => c.trip | 8 => c.hard | 9 => c.allowance | 10 => c.leak
  | 11 => c.probeAllowance | 12 => c.preLimit | 13 => c.preTime | 14 => c.rampSteps | 15 => c.stepTime
  | 16 => c.confirmTime | 17 => c.lockoutLimit | 18 => c.swapWindow | _ => 0

/-! ### SET_DISTRICT: the state check (R21, step 3) -/

/-- T, H, Q, L and W are written in any state (R2). -/
def anyStateField (id : Nat) : Bool := id == 7 || id == 8 || id == 9 || id == 10 || id == 18

/-- The district stands still: it is OFF, ISOLATED or LOCKED, or the part is in STANDBY (R21). -/
def standsStill (s : State) (d : DistrictId) : Bool :=
  s.mode == .standby || (match (s.district d).st with
    | .off | .isolated _ | .locked _ _ => true
    | _ => false)

def lookQueued (s : State) (d : DistrictId) : Bool :=
  match (s.district d).st with
  | .locked _ .queued => true
  | _ => false

def lookInFlight (s : State) (d : DistrictId) : Bool :=
  match (s.district d).st with
  | .locked _ .inFlight => true
  | _ => false

/-- The write is refused with BUSY by the district's state (R21, step 3). -/
def districtBusy (s : State) (d : DistrictId) (es : List FieldEntry) : Bool :=
  (es.any (fun e => !anyStateField e.1) && !standsStill s d) ||
  (names es 1 && (episodeMember s d || lookQueued s d || lookInFlight s d)) ||
  (names es 5 && lookQueued s d)

/-! ### SET_DISTRICT: the effects (R23 to R25) -/

/-- The effect of a lockout-limit write on F (R23). -/
def limitEffect (d : DistrictId) (s : State) : State :=
  match (s.district d).st with
  | .locked _ _ => setFailures d (min (s.district d).failures (s.dcfg d).lockoutLimit) s
  | _ => setFailures d (min (s.district d).failures ((s.dcfg d).lockoutLimit - 1)) s

/-- The effect of a write of reversing (R25). -/
def reversingEffect (d : DistrictId) (s : State) : State :=
  if (s.dcfg d).reversing then s else s.modDistrict d (fun r => { r with polarity := .normal })

/-- DARK written to an ISOLATED or LOCKED district (R24). -/
def darken (d : DistrictId) (s : State) : State :=
  setSt d .off (setFailures d 0 (clearTimer d (dropLook d s)))

/-- The effect of a policy write (R24). -/
def policyEffect (d : DistrictId) (s : State) : State :=
  if (s.dcfg d).policy == .dark then
    match (s.district d).st with
    | .isolated _ => darken d s
    | .locked _ _ => darken d s
    | _ => s
  else
    match (s.district d).st with
    | .off =>
      if s.mode == .run then
        if isolationSet s d then setSt d (.isolated .queued) s else becomeQueued d s
      else s
    | .isolated .awaitingGrant =>
      if (s.dcfg d).policy == .auto then setSt d (.isolated .queued) s else s
    | _ => s

/-- The effect of a write of patrol (R25). -/
def patrolEffect (d : DistrictId) (s : State) : State :=
  match (s.district d).st with
  | .locked _ _ =>
    if (s.dcfg d).patrol then
      if patrolRuns s d && !((s.timer d).purpose == some .patrol && (s.timer d).running) then loadPatrol d s
      else s
    else clearTimer d s
  | _ => s

/-- An effect taken only if the write names the field. -/
def whenNamed (es : List FieldEntry) (id : Nat) (f : State → State) (s : State) : State :=
  if names es id then f s else s

/-- An accepted SET_DISTRICT: the configuration is stored, the effects follow, and the district is marked CONFIG
(R22 to R25; their order is that of log entry 28). -/
def writeDistrict (d : DistrictId) (es : List FieldEntry) (c : DistrictConfig) (s : State) : State :=
  markDistrict [.config] d
    (whenNamed es 4 (patrolEffect d)
      (whenNamed es 2 (policyEffect d)
        (whenNamed es 3 (reversingEffect d)
          (whenNamed es 17 (limitEffect d) (s.setDcfg d c)))))

/-- A write that no check of its own refuses still needs a slot and no profile write in flight (R21, R58, R92,
R156, R177). -/
def partWide (src : Byte) (s : State) (a : Answer) : Answer :=
  ofSlot src s (fun _ => if s.writing.isSome then refuse .busy [] s else a)

/-- SET_DISTRICT. -/
def bodySetDistrict (src : Byte) (payload : List Byte) (s : State) : Answer :=
  match payload with
  | [] => refuse .badArg [] s
  | b :: rest =>
    oneDistrict [b] s (fun d =>
      match parseEntries districtWidth rest with
      | none => refuse .badArg [] s
      | some es =>
        match takeDistrict (s.dcfg d) es with
        | none => refuse .badArg [] s
        | some c =>
          if districtBusy s d es then refuse .busy [] s
          else partWide src s
            ⟨.ok, echo districtWidth (districtField c) es, arbitrate s (writeDistrict d es c s)⟩)

/-! ### SET_FEED (R58) -/

/-- The configuration after the write, or none where a code is out of range. -/
def takeFeed (c : FeedConfig) (es : List FieldEntry) : Option FeedConfig := do
  let window ← takeCode es 3 mergeWindowOfCode c.mergeWindow
  let stallHigh ← takeCode es 7 boolOfCode c.stallHigh
  let stallFilter ← takeCode es 8 stallFilterOfCode c.stallFilter
  some
    { budget := take es 1 1 63 c.budget, massThreshold := take es 2 2 16 c.massThreshold,
      mergeWindow := window, massCool := take es 4 1 65535 c.massCool,
      stagger := take es 5 0 4095 c.stagger, shedDelay := take es 6 0 2000 c.shedDelay,
      stallHigh := stallHigh, stallFilter := stallFilter }

/-- The value of a feed's field by its id (R187). -/
def feedField (c : FeedConfig) (id : Nat) : Nat :=
  match id with
  | 1 => c.budget | 2 => c.massThreshold | 3 => mergeWindowCode c.mergeWindow | 4 => c.massCool
  | 5 => c.stagger | 6 => c.shedDelay | 7 => boolCode c.stallHigh | 8 => stallFilterCode c.stallFilter
  | _ => 0

/-- An accepted SET_FEED: the filter run is 0 where polarity or filter is named, and the feed is marked (R58). A run
that was full loses the change that stood due on it (log entry 29). -/
def writeFeed (f : FeedId) (es : List FieldEntry) (c : FeedConfig) (s : State) : State :=
  let s := s.setFcfg f c
  markFeed f
    (if names es 7 || names es 8 then s.modFeed f (fun x => { x with filterRun := 0 }) else s)

/-- SET_FEED. A budget write makes the Arbiter look (R57, R105). -/
def bodySetFeed (src : Byte) (payload : List Byte) (s : State) : Answer :=
  match payload with
  | [] => refuse .badArg [] s
  | b :: rest =>
    oneFeed [b] s (fun f =>
      match parseEntries feedWidth rest with
      | none => refuse .badArg [] s
      | some es =>
        match takeFeed (s.fcfg f) es with
        | none => refuse .badArg [] s
        | some c =>
          partWide src s
            ⟨.ok, echo feedWidth (feedField c) es,
             if names es 1 then arbiterLook (writeFeed f es c s) else writeFeed f es c s⟩)

/-! ### SET_JOINT (R154, R156) -/

/-- The configuration after the write, or none where a code is out of range or the settle time would not be below
the docking timeout (R156). -/
def takeJoint (c : JointConfig) (es : List FieldEntry) : Option JointConfig := do
  let enabled ← takeCode es 1 boolOfCode c.enabled
  let coupledHigh ← takeCode es 3 boolOfCode c.coupledHigh
  let debounce ← takeCode es 4 debounceOfCode c.debounce
  let settle ← takeCode es 5 settleOfCode c.settle
  let docking ← takeCode es 6 dockingOfCode c.docking
  if settle.samples < docking.samples then
    some
      { enabled := enabled,
        cover := match written es 2 with
          | some v => BitVec.ofNat 16 v
          | none => c.cover,
        coupledHigh := coupledHigh, debounce := debounce, settle := settle, docking := docking }
  else none

/-- The value of a joint's field by its id (R187). -/
def jointField (c : JointConfig) (id : Nat) : Nat :=
  match id with
  | 1 => boolCode c.enabled | 2 => c.cover.toNat | 3 => boolCode c.coupledHigh | 4 => debounceCode c.debounce
  | 5 => settleCode c.settle | 6 => dockingCode c.docking | _ => 0

/-- An accepted SET_JOINT: the filter run is 0 where polarity or debounce is named, the joint is marked, and the
districts take one recompute of the joint's isolation (R154, R156). A run that was full loses the change or the
first decision that stood due on it (log entry 30). -/
def writeJoint (j : JointId) (es : List FieldEntry) (c : JointConfig) (s : State) : State :=
  let s' := s.setJcfg j c
  isolationChange s (markJoint j
    (if names es 3 || names es 4 then s'.modJoint j (fun x => { x with filterRun := 0 }) else s'))

/-- SET_JOINT. -/
def bodySetJoint (src : Byte) (payload : List Byte) (s : State) : Answer :=
  match payload with
  | [] => refuse .badArg [] s
  | b :: rest =>
    oneJoint [b] s (fun j =>
      match parseEntries jointWidth rest with
      | none => refuse .badArg [] s
      | some es =>
        match takeJoint (s.jcfg j) es with
        | none => refuse .badArg [] s
        | some c =>
          partWide src s
            ⟨.ok, echo jointWidth (jointField c) es, arbitrate s (writeJoint j es c s)⟩)

/-! ### SET_GLOBALS (R92, R93) -/

/-- The record after the write: each field clamped, then C raised to B (R92). -/
def takeGlobals (g : Globals) (es : List FieldEntry) : Globals :=
  { k := take es 1 0 7 g.k, base := take es 2 1 65535 g.base,
    ceiling := max (take es 3 1 65535 g.ceiling) (take es 2 1 65535 g.base),
    probation := take es 4 1 65535 g.probation, grantWindow := take es 5 1 65535 g.grantWindow,
    patrol := take es 6 1 65535 g.patrol }

/-- An accepted SET_GLOBALS: a write of k sets the prescaler to 0 (R77, R93). -/
def writeGlobals (es : List FieldEntry) (g : Globals) (s : State) : State :=
  if names es 1 then (s.setGlobals g).setClock 0 0 else s.setGlobals g

/-- SET_GLOBALS. -/
def bodySetGlobals (src : Byte) (payload : List Byte) (s : State) : Answer :=
  if payload.isEmpty then refuse .badArg [] s
  else
    match parseEntries globalsWidth payload with
    | none => refuse .badArg [] s
    | some es =>
      if names es 1 && s.mode == .run then refuse .busy [] s
      else partWide src s
        ⟨.ok, globalsBytes (takeGlobals s.cfg.globals es),
         writeGlobals es (takeGlobals s.cfg.globals es) s⟩

/-! ### Meanings -/

/-- SET_DISTRICT (R21). -/
def execSetDistrict (src : Byte) (payload : List Byte) (s : State) : Host.Outcome State Fault Refusal :=
  done (takeRequest src 0x40#8 payload (bodySetDistrict src payload) s)

/-- SET_FEED (R58). -/
def execSetFeed (src : Byte) (payload : List Byte) (s : State) : Host.Outcome State Fault Refusal :=
  done (takeRequest src 0x41#8 payload (bodySetFeed src payload) s)

/-- SET_JOINT (R156). -/
def execSetJoint (src : Byte) (payload : List Byte) (s : State) : Host.Outcome State Fault Refusal :=
  done (takeRequest src 0x42#8 payload (bodySetJoint src payload) s)

/-- SET_GLOBALS (R92). -/
def execSetGlobals (src : Byte) (payload : List Byte) (s : State) : Host.Outcome State Fault Refusal :=
  done (takeRequest src 0x43#8 payload (bodySetGlobals src payload) s)

end Sys2Proof.Machine
end

