-- ==== Sys2Proof/Machine/Modes.lean ====
section
/-! DEFINITION. Operating modes, reset and the Profile Store (chapter 11): POWER_ON_RESET, SET_MODE, STORE_PROFILE
and PROFILE_WRITE_END. -/

namespace Sys2Proof.Machine

/-! ### Entry to RUN (R171) -/

/-- One district at the entry to RUN, the mode being RUN already (R171). -/
def enterDistrict (d : DistrictId) (s : State) : State :=
  match (s.district d).st with
  | .locked _ _ =>
    if (s.dcfg d).patrol && !isolationSet s d then loadPatrol d s else clearTimer d s
  | .off =>
    if (s.dcfg d).policy == .dark then s
    else if isolationSet s d then setSt d (.isolated .queued) s
    else becomeQueued d s
  | _ => s

/-- Entry to RUN, with the Arbiter's one look at its end (R171). -/
def enterRun (s : State) : State := arbiterLook (forDistricts enterDistrict (s.setMode .run))

/-! ### Leaving RUN (R173, R174) -/

/-- The state, F and probation flag of a district that leaves RUN; polarity becomes NORMAL (R173, R8). -/
def District.leaveRun (r : District) : District :=
  match r.st with
  | .locked cause _ => { r with st := .locked cause .noLook, polarity := .normal }
  | .off => { r with polarity := .normal }
  | _ => { r with st := .off, failures := 0, probation := false, polarity := .normal }

/-- The monitor record of a district that leaves RUN (R174). -/
def Monitor.leaveRun (m : Monitor) : Monitor :=
  { m with integrator := 0, window := none, confirmSwapUsed := false }

/-- The feed record when the part leaves RUN (R53, R174). -/
def Feed.leaveRun (x : Feed) : Feed := { x with phase := .idle }

/-- One district at the leaving of RUN. -/
def leaveDistrict (d : DistrictId) (s : State) : State :=
  (s.modDistrict d District.leaveRun).modMonitor d Monitor.leaveRun

/-- What leaving RUN empties: episodes, timers, queues and channels (R174). -/
def emptyRecovery (s : State) : State :=
  { s with
    timers := Vector.replicate 16 Timer.empty, episodes := Vector.replicate 4 none,
    queues := Vector.replicate 4 [], channels := Vector.replicate 4 none, lastGranted := 3 }

/-- Leaving RUN (R173, R174). -/
def leaveRun (s : State) : State :=
  emptyRecovery (forFeeds (fun f s => s.modFeed f Feed.leaveRun)
    (forDistricts leaveDistrict (s.setMode .standby)))

/-! ### SET_MODE (R170) -/

/-- The mode as SET_MODE carries it (R187). -/
def modeByte (s : State) : List Byte := [byte (flag (s.mode == .run) 0)]

/-- A mode requested by a joined node (R170). -/
def requestMode (m : Mode) (s : State) : Answer :=
  match s.mode, m with
  | .standby, .run =>
    if s.writing.isSome then refuse .busy (modeByte s) s else ⟨.ok, modeByte (enterRun s), enterRun s⟩
  | .run, .standby => ⟨.ok, modeByte (leaveRun s), leaveRun s⟩
  | .standby, .standby => ⟨.ok, modeByte s, s⟩
  | .run, .run => ⟨.ok, modeByte s, s⟩

def modeOfCode : Byte → Option Mode
  | 0#8 => some .standby
  | 1#8 => some .run
  | _ => none

/-- SET_MODE (R170, R187). -/
def bodySetMode (src : Byte) (payload : List Byte) (s : State) : Answer :=
  match payload with
  | [b] =>
    match modeOfCode b with
    | some m => ofSlot src s (fun _ => requestMode m s)
    | none => refuse .badArg [] s
  | _ => refuse .badArg [] s

/-! ### The Profile Store (R176, R177) -/

/-- STORE_PROFILE (R177): the write takes the configuration as it stands, and the image is invalid from then on. -/
def bodyStoreProfile (src : Byte) (payload : List Byte) (s : State) : Answer :=
  noPayload payload s (ofSlot src s (fun _ =>
    if s.mode == .run then refuse .mode [] s
    else if s.writing.isSome then refuse .busy [] s
    else ⟨.ok, [], s.setProfileStore none s.profileLost (some s.cfg)⟩))

/-- The end of a profile write, if one is in flight (R177). -/
def profileWriteEnd (agrees : Bool) (s : State) : State :=
  match s.writing with
  | some p => if agrees then s.setProfileStore (some p) false none else s.setProfileStore none true none
  | none => s

/-! ### Meanings -/

/-- POWER_ON_RESET (R175): the image is kept, and the commands outside go on waiting (log entry 15). -/
def execPowerOnReset (straps : BitVec 4) (s : State) : Host.Outcome State Fault Refusal :=
  done (State.afterReset straps s.image s.pending)

/-- STORE_PROFILE (R177). -/
def execStoreProfile (src : Byte) (payload : List Byte) (s : State) : Host.Outcome State Fault Refusal :=
  done (takeRequest src 0x44#8 payload (bodyStoreProfile src payload) s)

/-- PROFILE_WRITE_END (R177). -/
def execProfileWriteEnd (agrees : Bool) (s : State) : Host.Outcome State Fault Refusal :=
  done (profileWriteEnd agrees s)

/-- SET_MODE (R170). -/
def execSetMode (src : Byte) (payload : List Byte) (s : State) : Host.Outcome State Fault Refusal :=
  done (takeRequest src 0x45#8 payload (bodySetMode src payload) s)

end Sys2Proof.Machine
end

