-- ==== Sys2Proof/Machine/Clock.lean ====
section
/-! DEFINITION. What happens while no command waits: one period of 250 µs of the part's own clocks (log entry 1).
Events that earlier samples left due are taken; open episodes (R62), probe lifetimes (R127), shed timers (R53) and
the tick prescaler (R77) advance by a quarter of a ms. -/

namespace Sys2Proof.Machine

/-- Every event that stands due is taken (log entries 3 and 21). -/
def settleAll (s : State) : State :=
  let s := forDistricts swapSuccess s
  let s := forChannels stageEnd s
  let s := forFeeds episodeExpiry s
  let s := forFeeds settleFeed s
  let s := forDistricts timerExpiry s
  forJoints settleJoint s

/-- The lifetime of the probe in channel `c` falls with wall time (R127); at 0 it expires (R128). -/
def lifetimePeriod (c : ChannelId) (s : State) : State :=
  match s.channel c with
  | some p =>
    if p.lifetime ≤ 1 then expireProbe c p s
    else s.modChannel c (fun q => { q with lifetime := q.lifetime - 1 })
  | none => s

/-- Every lifetime falls, in ascending channel number; the Arbiter looks once all that expire have freed their
channels, so a probe granted now starts with its whole lifetime (R105, R127, R129). The entries of several FULL probes
whose lifetimes run out together are so placed in ascending channel number, where R98 allows either order (DESIGN
CHOICE, log entry 21). -/
def lifetimePeriods (s : State) : State := arbitrate s (forChannels lifetimePeriod s)

/-- The shed timer of feed `f` falls with wall time (R53); at 0 the feed is shed (R54). -/
def shedPeriod (f : FeedId) (s : State) : State :=
  match (s.feed f).phase with
  | .pending q =>
    if q ≤ 1 then shedExpiry f s else s.modFeed f (fun x => { x with phase := .pending (q - 1) })
  | _ => s

/-- The prescaler counts ms from 0 to 2^k - 1, and its passage back to 0 is a tick boundary (R77). -/
def prescalerPeriod (s : State) : State :=
  if s.quarter < 3 then s.setClock s.prescaler (s.quarter + 1)
  else if s.prescaler + 1 < 2 ^ s.cfg.globals.k then s.setClock (s.prescaler + 1) 0
  else tickBoundary s

/-- One idle period of 250 µs; it ends the running sample period (R62, log entry 6). -/
def idlePeriod (s : State) : State :=
  prescalerPeriod (forFeeds shedPeriod (lifetimePeriods (periodBoundary 0#16 (settleAll s))))

end Sys2Proof.Machine
end

