-- ==== Sys2Proof/Machine/Dispatch.lean ====
section
/-! DEFINITION. The effect of every command: one arm per row of spec/opcode_table.json, in the table's order. -/

namespace Sys2Proof.Machine

def exec (i : Instr) (s : State) : Host.Outcome State Fault Refusal :=
  match i with
  | .powerOnReset straps => Sys2Proof.Machine.execPowerOnReset straps s
  | .currentSample d units voltage => Sys2Proof.Machine.execCurrentSample d units voltage s
  | .swapWindowSuccess d => Sys2Proof.Machine.execSwapWindowSuccess d s
  | .episodeWindowExpiry f => Sys2Proof.Machine.execEpisodeWindowExpiry f s
  | .episodeCapExpiry f => Sys2Proof.Machine.execEpisodeCapExpiry f s
  | .stallAssertion f => Sys2Proof.Machine.execStallAssertion f s
  | .stallClear f => Sys2Proof.Machine.execStallClear f s
  | .feedFirstDecision f => Sys2Proof.Machine.execFeedFirstDecision f s
  | .shed f => Sys2Proof.Machine.execShed f s
  | .coolExpiry d => Sys2Proof.Machine.execCoolExpiry d s
  | .grantExpiry d => Sys2Proof.Machine.execGrantExpiry d s
  | .probationExpiry d => Sys2Proof.Machine.execProbationExpiry d s
  | .patrolExpiry d => Sys2Proof.Machine.execPatrolExpiry d s
  | .senseEnd c => Sys2Proof.Machine.execSenseEnd c s
  | .prechargeEnd c => Sys2Proof.Machine.execPrechargeEnd c s
  | .rampStepEnd c => Sys2Proof.Machine.execRampStepEnd c s
  | .confirmEnd c => Sys2Proof.Machine.execConfirmEnd c s
  | .probeLifetimeExpiry c => Sys2Proof.Machine.execProbeLifetimeExpiry c s
  | .jointFirstDecision j => Sys2Proof.Machine.execJointFirstDecision j s
  | .debouncedInputChange j => Sys2Proof.Machine.execDebouncedInputChange j s
  | .settleExpiry j => Sys2Proof.Machine.execSettleExpiry j s
  | .dockingExpiry j => Sys2Proof.Machine.execDockingExpiry j s
  | .partStatus src payload => Sys2Proof.Machine.execPartStatus src payload s
  | .summary src payload => Sys2Proof.Machine.execSummary src payload s
  | .districtStatus src payload => Sys2Proof.Machine.execDistrictStatus src payload s
  | .feedStatus src payload => Sys2Proof.Machine.execFeedStatus src payload s
  | .jointStatus src payload => Sys2Proof.Machine.execJointStatus src payload s
  | .readDistrictConfig src payload => Sys2Proof.Machine.execReadDistrictConfig src payload s
  | .readFeedConfig src payload => Sys2Proof.Machine.execReadFeedConfig src payload s
  | .readJointConfig src payload => Sys2Proof.Machine.execReadJointConfig src payload s
  | .readGlobals src payload => Sys2Proof.Machine.execReadGlobals src payload s
  | .join src payload => Sys2Proof.Machine.execJoin src payload s
  | .leave src payload => Sys2Proof.Machine.execLeave src payload s
  | .subscribe src payload => Sys2Proof.Machine.execSubscribe src payload s
  | .hold src payload => Sys2Proof.Machine.execHold src payload s
  | .release src payload => Sys2Proof.Machine.execRelease src payload s
  | .breakHold src payload => Sys2Proof.Machine.execBreakHold src payload s
  | .acceptJoint src payload => Sys2Proof.Machine.execAcceptJoint src payload s
  | .grant src payload => Sys2Proof.Machine.execGrant src payload s
  | .retryNow src payload => Sys2Proof.Machine.execRetryNow src payload s
  | .clear src payload => Sys2Proof.Machine.execClear src payload s
  | .setDistrict src payload => Sys2Proof.Machine.execSetDistrict src payload s
  | .setFeed src payload => Sys2Proof.Machine.execSetFeed src payload s
  | .setJoint src payload => Sys2Proof.Machine.execSetJoint src payload s
  | .setGlobals src payload => Sys2Proof.Machine.execSetGlobals src payload s
  | .storeProfile src payload => Sys2Proof.Machine.execStoreProfile src payload s
  | .profileWriteEnd agrees => Sys2Proof.Machine.execProfileWriteEnd agrees s
  | .setMode src payload => Sys2Proof.Machine.execSetMode src payload s
  | .unknownKindRequest src kind payload => Sys2Proof.Machine.execUnknownKindRequest src kind payload s
  | .foreignFrame dest => Sys2Proof.Machine.execForeignFrame dest s
  | .badSourceFrame src => Sys2Proof.Machine.execBadSourceFrame src s
  | .checkError => Sys2Proof.Machine.execCheckError s
  | .frameError => Sys2Proof.Machine.execFrameError s
  | .interByteTimeout => Sys2Proof.Machine.execInterByteTimeout s
  | .replyStart => Sys2Proof.Machine.execReplyStart s
  | .replyEnd => Sys2Proof.Machine.execReplyEnd s
  | .replyCollision => Sys2Proof.Machine.execReplyCollision s
  | .tickBoundary => Sys2Proof.Machine.execTickBoundary s
  | .stallLineSample f high => Sys2Proof.Machine.execStallLineSample f high s
  | .jointSenseSample j high => Sys2Proof.Machine.execJointSenseSample j high s
  | .frameStart => Sys2Proof.Machine.execFrameStart s

end Sys2Proof.Machine
end

