-- ==== Sys2Proof/Safety.lean ====
section
/-! DEFINITION. What a sound state is: the laws that the spec states of the whole part, as predicates of one state,
and the drives that may be closed. -/

namespace Sys2Proof

/-! ### Configuration in range (R2, R46, R91, R145) -/

/-- Ranges of a district's configuration (R2). -/
structure DistrictConfig.InRange (c : DistrictConfig) : Prop where
  weight : 1 ≤ c.weight ∧ c.weight ≤ 15
  trip : 10 ≤ c.trip ∧ c.trip ≤ 900
  hard : c.trip + 10 ≤ c.hard ∧ c.hard ≤ 1000
  allowance : 1 ≤ c.allowance ∧ c.allowance ≤ 65535
  leak : c.leak ≤ 255
  probeAllowance : 1 ≤ c.probeAllowance ∧ c.probeAllowance ≤ 65535
  preLimit : 1 ≤ c.preLimit ∧ c.preLimit ≤ 200
  preTime : 10 ≤ c.preTime ∧ c.preTime ≤ 500
  rampSteps : 1 ≤ c.rampSteps ∧ c.rampSteps ≤ 8
  stepTime : 5 ≤ c.stepTime ∧ c.stepTime ≤ 100
  confirmTime : 20 ≤ c.confirmTime ∧ c.confirmTime ≤ 1000
  lockoutLimit : 1 ≤ c.lockoutLimit ∧ c.lockoutLimit ≤ 15
  swapWindow : 4 ≤ c.swapWindow ∧ c.swapWindow ≤ 64

/-- Ranges of a feed's configuration (R46). -/
structure FeedConfig.InRange (c : FeedConfig) : Prop where
  budget : 1 ≤ c.budget ∧ c.budget ≤ 63
  massThreshold : 2 ≤ c.massThreshold ∧ c.massThreshold ≤ 16
  massCool : 1 ≤ c.massCool ∧ c.massCool ≤ 65535
  stagger : c.stagger ≤ 4095
  shedDelay : c.shedDelay ≤ 2000

/-- The settle time is below the docking timeout (R145). -/
def JointConfig.InRange (c : JointConfig) : Prop := c.settle.samples < c.docking.samples

/-- Ranges of the global timing record; C is at least B (R91). -/
structure Globals.InRange (g : Globals) : Prop where
  k : g.k ≤ 7
  base : 1 ≤ g.base ∧ g.base ≤ 65535
  ceiling : g.base ≤ g.ceiling ∧ g.ceiling ≤ 65535
  probation : 1 ≤ g.probation ∧ g.probation ≤ 65535
  grantWindow : 1 ≤ g.grantWindow ∧ g.grantWindow ≤ 65535
  patrol : 1 ≤ g.patrol ∧ g.patrol ≤ 65535

/-- A profile whose every record is in range. -/
structure Profile.InRange (p : Profile) : Prop where
  districts : ∀ d : DistrictId, p.districts[d].InRange
  feeds : ∀ f : FeedId, p.feeds[f].InRange
  joints : ∀ j : JointId, p.joints[j].InRange
  globals : p.globals.InRange

namespace Machine

/-- The configuration in force, the image and the configuration being written are in range. -/
structure ConfigInRange (s : State) : Prop where
  cfg : s.cfg.InRange
  image : ∀ p, s.image = some p → p.InRange
  writing : ∀ p, s.writing = some p → p.InRange

/-! ### Counters (R7, R26, R27, R181) -/

/-- The saturating counters, the integrators and the samples stand in their ranges. -/
structure CountersInRange (s : State) : Prop where
  trips : ∀ d, (s.district d).trips ≤ 65535
  swaps : ∀ d, (s.district d).swaps ≤ 255
  integrator : ∀ d, (s.monitor d).integrator ≤ 65535
  history : ∀ d (k : Fin 8), (s.monitor d).history[k] ≤ 1000
  checkErrors : s.line.checkErrors ≤ 65535
  frameErrors : s.line.frameErrors ≤ 65535
  replyCollisions : s.line.replyCollisions ≤ 65535

/-! ### Master slots (R158, R160) -/

/-- A node id holds one slot at most, node ids are 1 to 63, and every holder is an occupied slot. -/
structure SlotsSound (s : State) : Prop where
  distinct : ∀ m n x y, s.slot m = some x → s.slot n = some y → x.node = y.node → m = n
  node : ∀ n x, s.slot n = some x → 1 ≤ x.node.toNat ∧ x.node.toNat ≤ 63
  holder : ∀ d (n : SlotId), (s.district d).holders.getLsbD n.val = true → (s.slot n).isSome

/-! ### Queues and channels (R11, R97, R112) -/

/-- The kind of queue entry that a district's state calls for (R97). -/
def entryOf (x : DistrictState) : Option EntryKind :=
  match x with
  | .queued => some .full
  | .locked _ .queued => some .look
  | _ => none

/-- The kind of probe that a district's state calls for (R112). -/
def probeKindOf (x : DistrictState) : Option EntryKind :=
  match x with
  | .probing => some .full
  | .locked _ .inFlight => some .look
  | _ => none

/-- Where a LOOK probe stands and where it may resume: SENSE and PRECHARGE alone (R28, R124, R133, R138). -/
def lookStage (p : Probe) : Bool :=
  (p.stage.isSense || p.stage.isPrecharge) &&
    (match p.pause with
      | none | some ⟨_, .sense⟩ | some ⟨_, .precharge _⟩ | some ⟨_, .lookPass⟩ => true
      | _ => false)

/-- A district that is OFF, or LOCKED with no look. -/
def atRest (x : DistrictState) : Bool :=
  match x with
  | .off => true
  | .locked _ .noLook => true
  | _ => false

/-- States, queues and channels agree (R11, R97, R112), probation is set in LIVE alone (R5), and in STANDBY all is at
rest, every timer empty (R77, R96, R173, R174). -/
structure RecoverySound (s : State) : Prop where
  entry : ∀ f, ∀ e ∈ s.queue f,
    (s.dcfg e.district).feed = f ∧ entryOf (s.district e.district).st = some e.kind
  queued : ∀ d k, entryOf (s.district d).st = some k →
    ∃ e ∈ s.queue (s.dcfg d).feed, e.district = d ∧ e.kind = k
  single : ∀ f, ((s.queue f).map Entry.district).Nodup
  context : ∀ c p, s.channel c = some p →
    (s.dcfg p.district).feed = p.feed ∧ probeKindOf (s.district p.district).st = some p.kind
  probing : ∀ d k, probeKindOf (s.district d).st = some k →
    ∃ c p, s.channel c = some p ∧ p.district = d
  channel : ∀ b c p q, s.channel b = some p → s.channel c = some q → p.district = q.district → b = c
  look : ∀ c p, s.channel c = some p → p.kind = .look → lookStage p = true
  probation : ∀ d, (s.district d).probation = true → (s.district d).st = .live
  standby : s.mode = .standby → ∀ d, atRest (s.district d).st = true ∧ s.timer d = Timer.empty

/-- The entries of every queue stand in bands, by priority class (R96). -/
abbrev BandsSorted (s : State) : Prop :=
  ∀ f, (s.queue f).Pairwise (fun a b => a.priority ≤ b.priority)

/-! ### Episodes and timers (R60, R61, R78, R81) -/

/-- The members of an open episode are districts of its feed, each once, and at least one (R60, R61), and a waiting
channel holds a probe of the feed (R60, R132). -/
structure EpisodesSound (s : State) : Prop where
  present : ∀ f e, s.episode f = some e → e.members ≠ []
  distinct : ∀ f e, s.episode f = some e → e.members.Nodup
  feed : ∀ f e, s.episode f = some e → ∀ d ∈ e.members, (s.dcfg d).feed = f
  waiting : ∀ f e (c : ChannelId), s.episode f = some e → e.waiting.getLsbD c.val = true →
    ∃ p, s.channel c = some p ∧ p.feed = f

/-- The purpose of district `d`'s timer fits the district's state, by the table of R81; a timer without a purpose is
empty (R78). -/
def timerFits (s : State) (d : DistrictId) : Bool :=
  let r := s.district d
  match (s.timer d).purpose, (s.timer d).running with
  | none, _ => s.timer d == Timer.empty
  | some .cool, true => r.st == .cooling .counting
  | some .cool, false => r.st == .isolated .coolRetained
  | some .grant, true => r.st == .awaitingGrant
  | some .probation, true => r.st == .live && r.probation
  | some .patrol, true =>
    (match r.st with
      | .locked _ _ => true
      | _ => false) && (s.dcfg d).patrol && !isolationSet s d && s.mode == .run
  | some _, false => false

/-- Every timer's purpose fits the state of its district (R81), its mode is that of its purpose, and its count stands
in its range (R78). -/
structure TimersSound (s : State) : Prop where
  fits : ∀ d, timerFits s d = true
  mode : ∀ d, (s.timer d).mode = if (s.timer d).purpose = some .patrol then .repeating else .oneShot
  count : ∀ d, (s.timer d).count ≤ 65535 ∧ ((s.timer d).purpose.isSome → 1 ≤ (s.timer d).count)

/-! ### Isolation (R11, R12) -/

/-- The states that a district with a non-empty isolation set may have (R11, R15 to R18). -/
def mayBeIsolated (x : DistrictState) : Bool :=
  match x with
  | .off => true
  | .isolated _ => true
  | .locked _ .noLook => true
  | _ => false

/-- A district whose isolation set is not empty is OFF, ISOLATED or LOCKED without a look, and a district that is
ISOLATED has a set that is not empty (R11). -/
structure IsolationSound (s : State) : Prop where
  held : ∀ d, isolationSet s d = true → mayBeIsolated (s.district d).st = true
  isolated : ∀ d r, (s.district d).st = .isolated r → isolationSet s d = true

/-! ### Failure counts (R4) -/

def isLocked (x : DistrictState) : Bool :=
  match x with
  | .locked _ _ => true
  | _ => false

/-- F never exceeds the lockout limit, and equals it only in LOCKED (R4). -/
abbrev FailuresSound (s : State) : Prop :=
  ∀ d, (s.district d).failures ≤ (s.dcfg d).lockoutLimit ∧
    ((s.district d).failures = (s.dcfg d).lockoutLimit → isLocked (s.district d).st = true)

/-! ### Polarity (R8) -/

/-- A district that does not reverse has polarity NORMAL, and a swap window stands on a reversing district that is LIVE
or in a running CONFIRM (R8, R26, R35). -/
structure PolaritySound (s : State) : Prop where
  normal : ∀ d, (s.dcfg d).reversing = false → (s.district d).polarity = .normal
  window : ∀ d, (s.monitor d).window.isSome → (s.dcfg d).reversing = true ∧
    ((s.district d).st = .live ∨
      ∃ c p, s.channel c = some p ∧ p.district = d ∧ p.stage.isConfirm = true ∧ p.pause = none)

/-! ### Drives (R12) -/

/-- A district's switch or precharge path is closed. -/
def powered (s : State) (d : DistrictId) : Prop :=
  switchDrive s d ≠ .opened ∨ prechargeDrive s d = true

/-- A probe that may have an output closed: in a stage other than SENSE, and not paused by a stall (R12). -/
def mayPower (p : Probe) : Bool :=
  !p.stage.isSense && (match p.pause with
    | some ⟨.stall, _⟩ => false
    | _ => true)

/-- R12: a closed output only in RUN, with an empty isolation set, LIVE or in a channel that may power it. -/
def DrivesSafe (s : State) : Prop :=
  ∀ d, powered s d →
    s.mode = .run ∧ isolationSet s d = false ∧
      ((s.district d).st = .live ∨ ∃ c p, s.channel c = some p ∧ p.district = d ∧ mayPower p = true)

/-! ### Requests (R178 to R180) -/

/-- The part receives a request frame with this SOURCE and payload and takes it (R178, R179). -/
abbrev Taken (s : State) (src : Byte) (payload : List Byte) : Prop :=
  lineClosed s = false ∧ 1 ≤ src.toNat ∧ src.toNat ≤ 63 ∧ payload.length ≤ 16

/-- State `u` with the reply to a request that arrived in state `s` due on the line (R180). -/
def answered (s u : State) (src kind : Byte) (st : Status) (payload : List Byte) : State :=
  u.setLine { s.line with cond := .replyDue ⟨src, kind, st, payload⟩, buffer := [] }

/-- A request that names one district is refused for a payload of another length or a number above 15 first, then for
a node that is not joined (R94, R164 to R166, R168, R169, R179). -/
def DistrictChecked (request : Byte → List Byte → Instr) (kind : Byte) (s : State) (src : Byte) : Prop :=
  (∀ payload : List Byte, Taken s src payload → payload.length ≠ 1 →
    exec (request src payload) s = .next (answered s s src kind .badArg [])) ∧
  (∀ b : Byte, 16 ≤ b.toNat → exec (request src [b]) s = .next (answered s s src kind .badArg [])) ∧
    (slotOf s src = none → ∀ d : DistrictId,
      exec (request src [byte d.val]) s = .next (answered s s src kind .notJoined []))

/-- A request that names one joint is refused for a payload of another length or a number above 7 first, then for a
node that is not joined (R155, R179). -/
def JointChecked (request : Byte → List Byte → Instr) (kind : Byte) (s : State) (src : Byte) : Prop :=
  (∀ payload : List Byte, Taken s src payload → payload.length ≠ 1 →
    exec (request src payload) s = .next (answered s s src kind .badArg [])) ∧
  (∀ b : Byte, 8 ≤ b.toNat → exec (request src [b]) s = .next (answered s s src kind .badArg [])) ∧
    (slotOf s src = none → ∀ j : JointId,
      exec (request src [byte j.val]) s = .next (answered s s src kind .notJoined []))

/-! ### What several statements share -/

/-- The retry that GRANT and RETRY_NOW give: the timer is emptied, and the district is QUEUED at the tail of its band
(R94, R168). -/
def retried (s : State) (d : DistrictId) : State :=
  arbitrate s (markDistrict [.grant] d
    (((s.setTimer d Timer.empty).setDistrict d { s.district d with st := .queued }).setQueue (s.dcfg d).feed
      (placed ((s.queue (s.dcfg d).feed).filter (fun e => e.district != d))
        { district := d, kind := .full, priority := (s.dcfg d).priority })))

/-- A timer as R79 loads it: a load of 0 is a load of 1, and PATROL alone repeats. -/
def loaded (p : Purpose) (count : Nat) : Timer :=
  { count := max 1 count, purpose := some p, mode := if p = .patrol then .repeating else .oneShot,
    running := true, boundary := false }

/-- The queue of district `d`'s feed once `d`'s entry of this kind stands at the tail of its band (R98). -/
def queueWith (s : State) (d : DistrictId) (kind : EntryKind) : List Entry :=
  placed ((s.queue (s.dcfg d).feed).filter (fun e => e.district != d))
    { district := d, kind := kind, priority := (s.dcfg d).priority }

/-- The state in which an expiry of district `d` finds its turn: the due COOL expiries under AUTO and the due PATROL
expiries of lower-numbered districts of its feed have been taken, in ascending number (R80, R98). -/
def earlierTaken (s : State) (d : DistrictId) : State :=
  allDistricts.foldl (fun t e =>
    let due : Bool := match (t.district e).st with
      | .cooling .counting => timerDue (t.timer e) .cool && (t.dcfg e).policy == .auto
      | .locked _ _ => timerDue (t.timer e) .patrol
      | _ => false
    if e < d ∧ (t.dcfg e).feed = (t.dcfg d).feed ∧ due then timerExpiry e t else t) s

/-- A probe that a stall has paused (R51). -/
def stallPaused (p : Probe) : Bool :=
  match p.pause with
  | some ⟨.stall, _⟩ => true
  | _ => false

/-- An open episode after one sample period boundary: the window of an ordinary one falls by one, or is out at 1, and
its total length rises up to its cap; a shed episode stands (R62). -/
def advanced (e : Episode) : Episode :=
  match e.kind with
  | .ordinary w =>
    let next : EpisodeWindow :=
      { w with remaining := if w.remaining ≤ 1 then w.remaining else w.remaining - 1,
               out := w.out || decide (w.remaining ≤ 1), total := min (8 * w.opening) (w.total + 1) }
    { e with kind := .ordinary next }
  | .shed => e

/-- The state right after a sample of district `d` is recorded (R27): its history, its voltage reading, and its place
in a sample period. A district's second sample in a period begins the next, and every open ordinary episode advances
at that boundary (R62, log entry 6). -/
def recorded (s : State) (d : DistrictId) (units : Nat) (voltage : Bool) : State :=
  let begins := s.sampled.getLsbD d.val
  { s with
    monitors := s.monitors.set d
      { s.monitor d with
        voltage := voltage
        history := Vector.ofFn (fun k =>
          if h : k.val + 1 < 8 then (s.monitor d).history[k.val + 1] else min 1000 units) }
    sampled := if begins then BitVec.twoPow 16 d.val else s.sampled ||| BitVec.twoPow 16 d.val
    episodes := if begins then Vector.ofFn (fun f => (s.episode f).map advanced) else s.episodes }

/-- The cause with which a sample of count `i` trips against allowance `z`, from integrator `a`, if it trips (R30). -/
def trippedBy (k : DistrictConfig) (a i z : Nat) : Option TripCause :=
  if k.hard ≤ i then some .hard
  else if k.trip < i ∧ z ≤ min 65535 (a + (i - k.trip)) then some .overload
  else none

/-- The integrator after a sample of count `i` that does not trip (R30). -/
def integrated (k : DistrictConfig) (a i : Nat) : Nat :=
  if k.trip < i then min 65535 (a + (i - k.trip)) else a - k.leak

end Machine

end Sys2Proof
end

