-- ==== Sys2Proof/Certificates/Slice0/Obligations.lean ====
section
/-! DEFINITION. The statements about the part. Each cites the rule of spec/ that it formalises or rests on; where a
statement speaks of an event that is due, the marks are the model's own (log entries 2 and 5). -/

open Sys2Proof Sys2Proof.Machine

/-! ### The whole part -/

/-- A step takes the command at the front of the queue and runs it on the state with the rest of the queue. -/
def Obligations.StepRunsFrontCommand : Prop :=
  ∀ (s : State) (c : Instr) (rest : List Instr),
    step (s.setPending (c :: rest)) = exec c (s.setPending rest)

/-- Every command completes, and none touches the queue of waiting commands. -/
def Obligations.CommandsCompleteAndKeepTheQueue : Prop :=
  ∀ (c : Instr) (s : State), ∃ t, exec c s = .next t ∧ t.pending = s.pending

/-- The state after the first power-on meets every law of the statements below. -/
def Obligations.ResetIsSound : Prop :=
  ConfigInRange State.reset ∧ CountersInRange State.reset ∧ SlotsSound State.reset ∧
    RecoverySound State.reset ∧ BandsSorted State.reset ∧ IsolationSound State.reset ∧
    FailuresSound State.reset ∧ PolaritySound State.reset ∧ EpisodesSound State.reset ∧ TimersSound State.reset

/-- R2, R46, R91, R145: every step keeps every configuration field, stored or in force, in its range, H at least
T + 10, C at least B, and the settle time below the docking timeout. -/
def Obligations.ConfigurationStaysInRange : Prop :=
  ∀ s t : State, ConfigInRange s → step s = .next t → ConfigInRange t

/-- R7, R26, R181: every step keeps the counters, integrators and samples in their ranges. -/
def Obligations.CountersStayInRange : Prop :=
  ∀ s t : State, CountersInRange s → step s = .next t → CountersInRange t

/-- R158, R160: no step gives a node a second slot, and every holder stays an occupied slot. -/
def Obligations.SlotsStaySound : Prop :=
  ∀ s t : State, SlotsSound s → step s = .next t → SlotsSound t

/-- R11, R97, R112: every step keeps a district in a queue exactly when it is QUEUED or LOCKED with its look queued,
and in one channel exactly when it is PROBING or LOCKED with its look in flight; R5: and
probation set in LIVE alone; R77, R173, R174: and, in STANDBY, every district OFF or LOCKED without a look, its timer
empty; R96, R98: and every queue in bands of rising priority class. R60, R61, R132: and the members of every open
episode districts of its feed, each once, with a probe of the feed in every waiting channel; R78, R81: and every timer
in a purpose that fits its district's state, with its mode and count. -/
def Obligations.QueuesAndChannelsFollowStates : Prop :=
  ∀ s t : State, step s = .next t → (RecoverySound s → RecoverySound t) ∧ (BandsSorted s → BandsSorted t) ∧
    (RecoverySound s → EpisodesSound s → EpisodesSound t) ∧
    (ConfigInRange s → RecoverySound s → TimersSound s → TimersSound t)

/-- R11, R15 to R18, R20, R141: every step keeps every isolated district out of service and out of recovery. -/
def Obligations.IsolatedDistrictsStayDark : Prop :=
  ∀ s t : State, RecoverySound s → IsolationSound s → step s = .next t → IsolationSound t

/-- R4: every step keeps F at the lockout limit at most, and equal to it only in LOCKED. -/
def Obligations.FailuresStayWithinTheLimit : Prop :=
  ∀ s t : State, ConfigInRange s → RecoverySound s → FailuresSound s → step s = .next t → FailuresSound t

/-- R12: after any step from a sound state, a switch or a precharge path is closed only in RUN, with an empty
isolation set, on a LIVE district or one in a channel past SENSE that no stall pauses; every row of R12's table; R8: a
district that does not reverse keeps polarity NORMAL and its relay released. -/
def Obligations.OnlyFreeDistrictsArePowered : Prop :=
  (∀ s t : State, RecoverySound s → IsolationSound s → step s = .next t →
    DrivesSafe t ∧ (PolaritySound s → PolaritySound t)) ∧
  (∀ (s : State) (d : DistrictId), RecoverySound s →
    let drives := fun (x : SwitchDrive) (path : Bool) => switchDrive s d = x ∧ prechargeDrive s d = path
    ((s.district d).st = .live → drives .closed false) ∧
    ((s.district d).st ≠ .live → (∀ c p, s.channel c = some p → p.district ≠ d) → drives .opened false) ∧
    (∀ c p, s.channel c = some p → p.district = d →
      (stallPaused p = true → drives .opened false) ∧
      (stallPaused p = false →
        (p.stage = .sense → drives .opened false) ∧ (p.stage = .precharge → drives .opened true) ∧
        (∀ k, p.stage = .ramp k → drives (.duty k p.profile.rampSteps) false) ∧
        (∀ pending, p.stage = .confirm pending → drives .closed false)))) ∧
  (∀ (s : State) (d : DistrictId), PolaritySound s →
    (relayDrive s d = true ↔ (s.district d).polarity = .swapped) ∧
      ((s.dcfg d).reversing = false → relayDrive s d = false))

/-- R108: no step raises a feed's budget in use above both its value before the step and the budget in force after
it. -/
def Obligations.BudgetIsNeverExceeded : Prop :=
  ∀ (s t : State) (f : FeedId), step s = .next t →
    budgetInUse t f ≤ max (budgetInUse s f) (t.fcfg f).budget

/-! ### Frames (R178 to R182) -/

/-- Decoding the frame of a well-formed request gives the request back (R178, R179, R184). -/
def Obligations.RequestFramesDecode : Prop :=
  ∀ (address : BitVec 4) (i : Instr) (bytes : List Byte),
    i.wf = true → frameOf address i = some bytes → decodeFrame address bytes = some i

/-- A valid request frame with one byte after SYNC changed counts in CHECK_ERRORS, unless the byte is LEN: raised above
16 it is a frame error, raised less it leaves no whole frame, and lowered it ends the frame early, where the byte in the
place of CHECK decides (R178). -/
def Obligations.DamagedFramesAreCaught : Prop :=
  ∀ (address : BitVec 4) (src kind b : Byte) (payload : List Byte) (k : Nat)
    (h : k < (requestFrame address src kind payload).length),
    payload.length ≤ 16 → 1 ≤ k → b ≠ (requestFrame address src kind payload)[k] →
    (k ≠ 4 → decodeFrame address ((requestFrame address src kind payload).set k b) = some .checkError) ∧
    (k = 4 → 16 < b.toNat →
      decodeFrame address ((requestFrame address src kind payload).set k b) = some .frameError) ∧
    (k = 4 → payload.length < b.toNat → b.toNat ≤ 16 →
      decodeFrame address ((requestFrame address src kind payload).set k b) = none) ∧
    (k = 4 → b.toNat < payload.length →
      let early := ((requestFrame address src kind payload).set k b).take (6 + b.toNat)
      decodeFrame address early = some
        (if byteSum (early.drop 1) ≠ 0#8 then .checkError
         else if 1 ≤ src.toNat ∧ src.toNat ≤ 63 then requestOf src kind (payload.take b.toNat)
         else .badSourceFrame src))

/-! ### Queues and the Arbiter (R96 to R106) -/

/-- R98: a placement puts the entry after every entry of its class or a lower-numbered one and before the others,
which keep their order. -/
def Obligations.PlacementAtTheTailOfTheBand : Prop :=
  ∀ (q : List Entry) (e : Entry), q.Pairwise (fun a b => a.priority ≤ b.priority) →
    ∃ front back, placed q e = front ++ e :: back ∧ front ++ back = q ∧
      (∀ x ∈ front, x.priority ≤ e.priority) ∧ (∀ x ∈ back, e.priority < x.priority)

/-- R104: a look grants until no channel is free or no feed has an admissible head. R105: `arbitrate`, which ends an
event, looks where the event has freed a channel, changed a head, cleared a feed or entered RUN, and otherwise changes
nothing; the look of a budget write does not pass through it (`Obligations.FeedAndGlobalsWrites`). -/
def Obligations.LookGrantsUntilNothingIsLeft : Prop :=
  ∀ s : State,
    (arbiterLook s = match nextGrant s with
      | some t => arbiterLook t
      | none => s) ∧
    (freeChannel (arbiterLook s) = none ∨ ∀ f, admissible (arbiterLook s) f = false) ∧
    ∀ before : State,
      ((∃ c, (before.channel c).isSome ∧ s.channel c = none) ∨
        (∃ f, (before.queue f).head? ≠ (s.queue f).head?) ∨
        (∃ f, (before.feed f).stalled = true ∧ (s.feed f).stalled = false) ∨
        (before.mode = .standby ∧ s.mode = .run) → arbitrate before s = arbiterLook s) ∧
      (¬((∃ c, (before.channel c).isSome ∧ s.channel c = none) ∨
        (∃ f, (before.queue f).head? ≠ (s.queue f).head?) ∨
        (∃ f, (before.feed f).stalled = true ∧ (s.feed f).stalled = false) ∨
        (before.mode = .standby ∧ s.mode = .run)) → arbitrate before s = s)

/-- R101, R104, R106, R113, R127: a grant goes to the first feed after the last-granted one whose head is admissible
and takes the lowest-numbered free channel; its effects. R102, R103: a feed's head is admissible in RUN, on a feed that
is CLEAR, when the budget in use and the head's effective weight are together within the budget. -/
def Obligations.GrantTakesItsTurn : Prop :=
  (∀ (s : State) (f : FeedId),
    let used := ([0, 1, 2, 3] : List ChannelId).foldl (fun n c => match s.channel c with
      | some p => if p.feed = f then n + p.weight else n
      | none => n) 0
    budgetInUse s f = used ∧
    (admissible s f = true ↔ ∃ e rest, s.queue f = e :: rest ∧ s.mode = .run ∧ (s.feed f).stalled = false ∧
      used + (match e.kind with
        | .full => min (s.dcfg e.district).weight (s.fcfg f).budget
        | .look => 0) ≤ (s.fcfg f).budget)) ∧
  ∀ (s : State) (c : ChannelId) (f : FeedId) (e : Entry) (rest : List Entry),
    s.channel c = none → (∀ b, b < c → (s.channel b).isSome) →
    s.queue f = e :: rest → admissible s f = true →
    (∀ g : FeedId, (g - s.lastGranted - 1).val < (f - s.lastGranted - 1).val → admissible s g = false) →
    let k := s.dcfg e.district
    let weight := match e.kind with
      | .full => min k.weight (s.fcfg f).budget
      | .look => 0
    let duration := match e.kind with
      | .full => 2 + k.preTime + k.rampSteps * k.stepTime + k.confirmTime
      | .look => 2 + k.preTime
    let u := ((s.setQueue f rest).setChannel c (some
      { district := e.district, feed := f, kind := e.kind, weight := weight,
        profile := { preLimit := k.preLimit, preTime := k.preTime, rampSteps := k.rampSteps,
                     stepTime := k.stepTime, confirmTime := k.confirmTime, allowance := k.probeAllowance },
        stage := .sense, entryStep := 1, elapsed := 0, pause := none,
        lifetime := 4 * (2 * duration + 500) })).setLastGranted f
    nextGrant s = some (u.setDistrict e.district { s.district e.district with
      st := match e.kind, (s.district e.district).st with
        | .full, _ => .probing
        | .look, .locked cause _ => .locked cause .inFlight
        | .look, x => x })

/-! ### Reset and the line (R175, R178 to R181) -/

/-- POWER_ON_RESET leaves the values of R175's table, whatever stood before, and loads the image, or the defaults of R2,
R46, R145 and R91 where there is no valid one (R176). The values of `sampled`, `quarter` and `lastShown`, which the
table does not have, are the model's choices (log entries 6, 25 and 26). -/
def Obligations.PowerOnResetValues : Prop :=
  ∀ (straps : BitVec 4) (s : State),
    exec (.powerOnReset straps) s = .next
      { pending := s.pending
        mode := .standby
        lineAddress := straps
        cfg := match s.image with
          | some p => { p with globals := { p.globals with ceiling := max p.globals.ceiling p.globals.base } }
          | none =>
            { districts := Vector.ofFn (fun d =>
                { feed := if d < 4 then 0 else if d < 8 then 1 else if d < 12 then 2 else 3, policy := .auto,
                  reversing := false, patrol := false, priority := 2, weight := 4, trip := 300, hard := 800,
                  allowance := 2000, leak := 4, probeAllowance := 8000, preLimit := 40, preTime := 50,
                  rampSteps := 4, stepTime := 20, confirmTime := 200, lockoutLimit := 5, swapWindow := 16 })
              feeds := Vector.replicate 4
                { budget := 8, massThreshold := 3, mergeWindow := .ms5, massCool := 50, stagger := 30,
                  shedDelay := 100, stallHigh := false, stallFilter := .n4 }
              joints := Vector.replicate 8
                { enabled := false, cover := 0#16, coupledHigh := false, debounce := .ms16, settle := .s1,
                  docking := .s10 }
              globals := { k := 3, base := 25, ceiling := 1000, probation := 250, grantWindow := 3750,
                           patrol := 1250 } }
        districts := Vector.replicate 16
          { st := .off, failures := 0, probation := false, lastTrip := none, lastFail := none, trips := 0,
            swaps := 0, polarity := .normal, holders := 0#6 }
        monitors := Vector.replicate 16
          { history := Vector.replicate 8 0, voltage := false, integrator := 0, window := none,
            confirmSwapUsed := false }
        sampled := 0#16
        timers := Vector.replicate 16
          { count := 0, purpose := none, mode := .oneShot, running := false, boundary := false }
        prescaler := 0
        quarter := 0
        feeds := Vector.replicate 4
          { stalled := true, decided := false, filterRun := 0, lastShown := false, phase := .idle }
        episodes := Vector.replicate 4 none
        summaries := Vector.replicate 4 { cls := none, count := 0, cause := none }
        queues := Vector.replicate 4 []
        channels := Vector.replicate 4 none
        lastGranted := 3
        joints := Vector.replicate 8
          { st := .opened, decided := false, input := false, filterRun := 0, lastShown := false, settle := none,
            docking := none }
        slots := Vector.replicate 6 none
        line := { cond := .hunting, buffer := [], checkErrors := 0, frameErrors := 0, replyCollisions := 0 }
        image := s.image
        profileLost := s.image.isNone
        writing := none }

/-- R178: SYNC starts a frame while hunting alone, and each fault inside a frame discards it with one count. -/
def Obligations.FramesStartAndFail : Prop :=
  ∀ s : State,
    (s.line.cond = .hunting →
      exec .frameStart s = .next (s.setLine { s.line with cond := .inFrame, buffer := [0xC5#8] }) ∧
      exec .checkError s = .next s ∧ exec .frameError s = .next s ∧ exec .interByteTimeout s = .next s) ∧
    (s.line.cond = .inFrame →
      exec .frameStart s = .next s ∧
      exec .checkError s = .next (s.setLine
        { s.line with cond := .hunting, buffer := [], checkErrors := min 65535 (s.line.checkErrors + 1) }) ∧
      exec .frameError s = .next (s.setLine
        { s.line with cond := .hunting, buffer := [], frameErrors := min 65535 (s.line.frameErrors + 1) }) ∧
      exec .interByteTimeout s = .next (s.setLine
        { s.line with cond := .hunting, buffer := [], frameErrors := min 65535 (s.line.frameErrors + 1) }))

/-- R179: a valid frame for another part is ignored, one with no node as its SOURCE is counted, and a request of an
unknown KIND is refused with UNKNOWN_KIND and nothing else. -/
def Obligations.StrayFrames : Prop :=
  ∀ (s : State) (b : Byte),
    (lineClosed s = false → b ≠ s.lineAddress.setWidth 8 →
      exec (.foreignFrame b) s = .next (s.setLine { s.line with cond := .hunting, buffer := [] })) ∧
    (lineClosed s = false → (b = 0#8 ∨ 63 < b.toNat) →
      exec (.badSourceFrame b) s = .next (s.setLine
        { s.line with cond := .hunting, buffer := [], frameErrors := min 65535 (s.line.frameErrors + 1) })) ∧
    (∀ (kind : Byte) (payload : List Byte), Taken s b payload → kind ∉ requestKinds →
      exec (.unknownKindRequest b kind payload) s = .next (answered s s b kind .unknownKind []))

/-- R180, R182: the reply that is due is sent with LDEN asserted, as a frame whose bytes after SYNC 0xC6 sum to 0
modulo 256; it ends complete or by a collision that is counted, and either way the Line Interface is hunting again. -/
def Obligations.ReplyIsSentAndEnds : Prop :=
  ∀ (s : State) (r : Reply),
    (s.line.cond = .replyDue r → ∃ (t : State) (check : Byte),
      exec .replyStart s = .next t ∧ t = s.setLine { s.line with cond := .replying r } ∧
      driverEnabled s = false ∧ driverEnabled t = true ∧
      transmitted t = [0xC6#8, s.lineAddress.setWidth 8, r.dest, r.kind,
        (match r.status with
          | .ok => 0x00#8
          | .busy => 0x01#8
          | .refusedState => 0x02#8
          | .notJoined => 0x03#8
          | .noSlot => 0x04#8
          | .badArg => 0x05#8
          | .notDue => 0x06#8
          | .notHolder => 0x07#8
          | .holding => 0x08#8
          | .isolated => 0x09#8
          | .mode => 0x0A#8
          | .unknownKind => 0x0B#8),
        byte r.payload.length] ++ r.payload ++ [check] ∧
      byteSum ((transmitted t).drop 1) = 0#8) ∧
    (s.line.cond = .replying r →
      exec .replyEnd s = .next (s.setLine { s.line with cond := .hunting, buffer := [] }) ∧
      exec .replyCollision s = .next (s.setLine
        { s.line with cond := .hunting, buffer := [],
                      replyCollisions := min 65535 (s.line.replyCollisions + 1) }))

/-- R179: from the acceptance of a request until its reply ends, no frame is received and nothing is counted. -/
def Obligations.ClosedReceiveSideLosesFrames : Prop :=
  ∀ (s : State) (src kind dest : Byte) (payload : List Byte), lineClosed s = true →
    exec (requestOf src kind payload) s = .next s ∧ exec (.foreignFrame dest) s = .next s ∧
      exec (.badSourceFrame src) s = .next s ∧ exec .frameStart s = .next s ∧
      exec .checkError s = .next s ∧ exec .frameError s = .next s ∧ exec .interByteTimeout s = .next s

/-- R180, R183: a taken request is answered to its sender with its KIND, and a refused one changes nothing but the
line. -/
def Obligations.RefusedRequestsChangeNothing : Prop :=
  ∀ (s t : State) (src kind : Byte) (payload : List Byte), Taken s src payload →
    exec (requestOf src kind payload) s = .next t →
    ∃ r : Reply, t.line = { s.line with cond := .replyDue r, buffer := [] } ∧ r.dest = src ∧ r.kind = kind ∧
      (r.status ≠ .ok → t.setLine s.line = s)

/-- R158, R179: a request other than JOIN from a node that is not joined changes nothing but the line. -/
def Obligations.OutsidersChangeNothing : Prop :=
  ∀ (s t : State) (src kind : Byte) (payload : List Byte), Taken s src payload →
    slotOf s src = none → kind ≠ 0x10#8 →
    exec (requestOf src kind payload) s = .next t → t.setLine s.line = s

/-- R162: a mark reaches exactly the occupied slots that subscribe to it, by the bits of R186's kinds bitmap, and
changes nothing else. -/
def Obligations.MarksReachSubscribers : Prop :=
  ∀ (s : State) (kinds : List Mark) (d : DistrictId) (f : FeedId) (j : JointId),
    let bit : Mark → Nat := fun k => match k with
      | .trip => 0
      | .recovered => 1
      | .failed => 2
      | .locked => 3
      | .grant => 4
      | .isolation => 5
      | .reversal => 6
      | .config => 7
    ((∀ n, (markDistrict kinds d s).slot n = (s.slot n).map (fun x =>
        if kinds.any (fun k => x.subscription.getLsbD (bit k)) then
          { x with changedDistricts := x.changedDistricts ||| BitVec.twoPow 16 d.val } else x)) ∧
      { markDistrict kinds d s with slots := s.slots } = s) ∧
    ((∀ n, (markFeed f s).slot n = (s.slot n).map (fun x =>
        if x.feedEnable then { x with changedFeeds := x.changedFeeds ||| BitVec.twoPow 4 f.val } else x)) ∧
      { markFeed f s with slots := s.slots } = s) ∧
    ((∀ n, (markJoint j s).slot n = (s.slot n).map (fun x =>
        if x.jointEnable then { x with changedJoints := x.changedJoints ||| BitVec.twoPow 8 j.val } else x)) ∧
      { markJoint j s with slots := s.slots } = s)

/-! ### Reads (R163, R182, R185) -/

/-- R185: PART_STATUS and the four configuration reads answer from joined and unjoined nodes alike and change nothing
but the line; R179, R183: every read whose payload is not of its form, or names no record, is refused with BAD_ARG. -/
def Obligations.ReadsAnswerAndChangeNothing : Prop :=
  (∀ (s : State) (src : Byte) (payload : List Byte), Taken s src payload →
    let bad := fun kind => Host.Outcome.next (φ := Fault) (ρ := Refusal) (answered s s src kind .badArg [])
    (payload ≠ [] → exec (.partStatus src payload) s = bad 0x01#8 ∧ exec (.summary src payload) s = bad 0x02#8 ∧
      exec (.readGlobals src payload) s = bad 0x09#8) ∧
    ((∀ d : DistrictId, payload ≠ [byte d.val]) → exec (.districtStatus src payload) s = bad 0x03#8) ∧
    ((∀ f : FeedId, payload ≠ [byte f.val]) → exec (.feedStatus src payload) s = bad 0x04#8 ∧
      exec (.readFeedConfig src payload) s = bad 0x07#8) ∧
    ((∀ j : JointId, payload ≠ [byte j.val]) → exec (.jointStatus src payload) s = bad 0x05#8 ∧
      exec (.readJointConfig src payload) s = bad 0x08#8) ∧
    ((∀ d : DistrictId, payload ≠ [byte d.val, 0#8] ∧ payload ≠ [byte d.val, 1#8]) →
      exec (.readDistrictConfig src payload) s = bad 0x06#8)) ∧
  ∀ (s : State) (src : Byte) (d : DistrictId) (f : FeedId) (j : JointId), Taken s src [] →
    (exec (.partStatus src []) s = .next (answered s s src 0x01#8 .ok
      ([byte ((if s.mode = .run then 1 else 0) + (if s.profileLost then 2 else 0) +
          (if s.writing.isSome then 4 else 0)),
        s.lineAddress.setWidth 8,
        match slotOf s src with
        | some n => byte n.val
        | none => 0xFF#8] ++
        word s.line.checkErrors ++ word s.line.frameErrors ++ word s.line.replyCollisions))) ∧
    (let c := s.dcfg d
     exec (.readDistrictConfig src [byte d.val, 0#8]) s = .next (answered s s src 0x06#8 .ok
       ([byte c.feed.val, byte (policyCode c.policy),
         byte ((if c.reversing then 1 else 0) + (if c.patrol then 2 else 0)), byte c.priority.val, byte c.weight,
         byte c.lockoutLimit, byte c.swapWindow, byte c.leak] ++ word c.trip ++ word c.hard ++
        word c.allowance)) ∧
     exec (.readDistrictConfig src [byte d.val, 1#8]) s = .next (answered s s src 0x06#8 .ok
       (word c.probeAllowance ++ [byte c.preLimit] ++ word c.preTime ++ [byte c.rampSteps, byte c.stepTime] ++
        word c.confirmTime))) ∧
    (let c := s.fcfg f
     exec (.readFeedConfig src [byte f.val]) s = .next (answered s s src 0x07#8 .ok
       ([byte c.budget, byte c.massThreshold, byte (mergeWindowCode c.mergeWindow)] ++ word c.massCool ++
        word c.stagger ++ word c.shedDelay ++
        [byte (if c.stallHigh then 1 else 0), byte (stallFilterCode c.stallFilter)]))) ∧
    (let c := s.jcfg j
     exec (.readJointConfig src [byte j.val]) s = .next (answered s s src 0x08#8 .ok
       ([byte (if c.enabled then 1 else 0)] ++ word c.cover.toNat ++
        [byte (if c.coupledHigh then 1 else 0), byte (debounceCode c.debounce), byte (settleCode c.settle),
         byte (dockingCode c.docking)]))) ∧
    (let g := s.cfg.globals
     exec (.readGlobals src []) s = .next (answered s s src 0x09#8 .ok
       ([byte g.k] ++ word g.base ++ word g.ceiling ++ word g.probation ++ word g.grantWindow ++ word g.patrol)))

/-- R163: SUMMARY returns the sender's changed-sets and removes nothing; a status read returns the record and removes
its item from the sender's slot alone; R59, R157, R185: the bytes of FEED_STATUS and JOINT_STATUS. A part of a ms of the
shed timer counts as one, and the bytes of an absent joint timer read 0 (log entries 16 and 31). -/
def Obligations.StatusReadsRemoveTheItemRead : Prop :=
  (∀ (s : State) (f : FeedId),
    let x := s.feed f
    let bit := fun (b : Bool) (value : Nat) => if b then value else 0
    feedBytes s f =
      [byte (bit x.stalled 1 + bit x.decided 2 +
          (match x.phase with
            | .idle => 0
            | .pending _ => 4
            | .shed => 8) +
          (match s.episode f with
            | some e => 16 + bit (e.kind == .shed) 32 + bit e.stallFlag 64
            | none => 0))] ++
      word (match x.phase with
        | .pending quarters => (quarters + 3) / 4
        | _ => 0) ++
      [byte (s.fcfg f).budget,
       byte (([0, 1, 2, 3] : List ChannelId).foldl (fun n c => match s.channel c with
         | some p => if p.feed = f then n + p.weight else n
         | none => n) 0),
       byte (([0, 1, 2, 3] : List ChannelId).foldl (fun n c => match s.channel c with
         | some p => if p.feed = f then n + 1 else n
         | none => n) 0),
       byte (s.queue f).length,
       byte (match s.episode f with
         | some e => e.members.length
         | none => 0),
       byte (match (s.episode f).map Episode.kind with
         | some (.ordinary w) => w.remaining
         | _ => 0),
       byte ((match (s.summary f).cls with
           | none => 0
           | some .localClass => 1
           | some .massClass => 2) +
         (match (s.summary f).cause with
           | none => 0
           | some .window => 4
           | some .cap => 8
           | some .stallClear => 12)),
       byte (s.summary f).count]) ∧
  (∀ (s : State) (j : JointId),
    let x := s.joint j
    let bit := fun (b : Bool) (value : Nat) => if b then value else 0
    let samples := fun (t : Option JointTimer) => match t with
      | some t => t.remaining
      | none => 0
    jointBytes s j =
      [byte ((match x.st with
            | .coupled => 0
            | .opened => 1
            | .docking => 2
            | .fault => 3) +
          bit x.decided 4 + bit x.input 8 + bit (s.jcfg j).enabled 16 + bit x.settle.isSome 32 +
          bit x.docking.isSome 64)] ++
      word (samples x.settle) ++ word3 (samples x.docking) ++
      (if (s.jcfg j).enabled = true ∧ x.st ≠ .coupled then
        [((s.jcfg j).cover >>> 8).setWidth 8, (s.jcfg j).cover.setWidth 8] else [0#8, 0#8])) ∧
  ∀ (s : State) (src : Byte) (d : DistrictId) (f : FeedId) (j : JointId), Taken s src [] →
    (slotOf s src = none →
      exec (.summary src []) s = .next (answered s s src 0x02#8 .ok [0#8, 0#8, 0#8, 0#8]) ∧
      exec (.districtStatus src [byte d.val]) s = .next (answered s s src 0x03#8 .ok (districtBytes s d)) ∧
      exec (.feedStatus src [byte f.val]) s = .next (answered s s src 0x04#8 .ok (feedBytes s f)) ∧
      exec (.jointStatus src [byte j.val]) s = .next (answered s s src 0x05#8 .ok (jointBytes s j))) ∧
    (∀ (n : SlotId) (x : Slot), slotOf s src = some n → s.slot n = some x →
      exec (.summary src []) s = .next (answered s s src 0x02#8 .ok
        [(x.changedDistricts >>> 8).setWidth 8, x.changedDistricts.setWidth 8, x.changedFeeds.setWidth 8,
         x.changedJoints]) ∧
      exec (.districtStatus src [byte d.val]) s = .next (answered s (s.setSlot n (some
        { x with changedDistricts := x.changedDistricts &&& ~~~(BitVec.twoPow 16 d.val) }))
        src 0x03#8 .ok (districtBytes s d)) ∧
      exec (.feedStatus src [byte f.val]) s = .next (answered s (s.setSlot n (some
        { x with changedFeeds := x.changedFeeds &&& ~~~(BitVec.twoPow 4 f.val) }))
        src 0x04#8 .ok (feedBytes s f)) ∧
      exec (.jointStatus src [byte j.val]) s = .next (answered s (s.setSlot n (some
        { x with changedJoints := x.changedJoints &&& ~~~(BitVec.twoPow 8 j.val) }))
        src 0x05#8 .ok (jointBytes s j)))

/-- R182: what DISTRICT_STATUS shows, read back from its 14 bytes, with the codes of R182; R5: the membership flag; R14,
R153: the isolation set. -/
def Obligations.DistrictStatusShowsTheRecord : Prop :=
  ∀ (s : State) (d : DistrictId), ConfigInRange s → CountersInRange s → FailuresSound s →
    (s.timer d).count ≤ 65535 → ((s.timer d).purpose = none → (s.timer d).count = 0) →
    ∃ b : Fin 14 → Byte, districtBytes s d = List.ofFn b ∧
      (b 0).toNat % 8 = (match (s.district d).st with
        | .off => 0
        | .live => 1
        | .cooling _ => 2
        | .awaitingGrant => 3
        | .queued => 4
        | .probing => 5
        | .isolated _ => 6
        | .locked _ _ => 7) ∧
      (b 0).toNat / 8 % 4 = (match (s.district d).st with
        | .cooling .merging => 0
        | .cooling .counting => 1
        | .isolated .coolRetained => 0
        | .isolated .coolPending => 1
        | .isolated .queued => 2
        | .isolated .awaitingGrant => 3
        | .locked _ .noLook => 0
        | .locked _ .queued => 1
        | .locked _ .inFlight => 2
        | _ => 0) ∧
      (b 0).toNat / 32 = (match (s.timer d).purpose, (s.timer d).running with
        | none, _ => 0
        | some .cool, true => 1
        | some .cool, false => 2
        | some .grant, _ => 3
        | some .probation, _ => 4
        | some .patrol, _ => 5) ∧
      (b 1).getLsbD 0 = (s.district d).probation ∧
      (b 1).getLsbD 1 = episodeMember s d ∧
      (episodeMember s d = true ↔ ∃ f e, s.episode f = some e ∧ d ∈ e.members) ∧
      (b 1).getLsbD 2 = ((s.district d).polarity == .swapped) ∧
      (b 1).getLsbD 3 = (s.monitor d).voltage ∧
      (b 1).getLsbD 4 = (s.monitor d).window.isSome ∧
      (∀ n : SlotId, (b 2).getLsbD n.val = (s.district d).holders.getLsbD n.val) ∧
      b 3 = jointPart s d ∧
      (∀ j : JointId, (b 3).getLsbD j.val = true ↔ (s.jcfg j).enabled = true ∧ (s.joint j).st ≠ .coupled ∧
        (s.jcfg j).cover.getLsbD d.val = true) ∧
      (isolationSet s d = true ↔ (s.district d).holders ≠ 0#6 ∨ b 3 ≠ 0#8) ∧
      (b 4).toNat = (s.district d).failures ∧
      (b 5).toNat % 16 = (match (s.district d).lastTrip with
        | none => 0
        | some .hard => 1
        | some .overload => 2
        | some .reversalFailed => 3) ∧
      (b 5).toNat / 16 = (match (s.district d).lastFail with
        | none => 0
        | some .backfeed => 1
        | some .shortPersists => 2
        | some .rampTrip => 3
        | some .noVoltage => 4
        | some .confirmTrip => 5
        | some .lifetime => 6) ∧
      (b 6).toNat % 4 = (match (s.district d).st with
        | .locked .limit _ => 1
        | .locked .manualPolicy _ => 2
        | .locked .grantLapsed _ => 3
        | _ => 0) ∧
      (b 6).getLsbD 4 = (channelOf s d).isSome ∧
      (channelOf s d = none → (b 6).toNat / 4 % 4 = 0 ∧ b 9 = 0#8) ∧
      (∀ c p, channelOf s d = some c → s.channel c = some p →
        (b 6).toNat / 4 % 4 = (match p.pause.map Pause.cause with
          | none => 0
          | some .sibling => 1
          | some .stall => 2) ∧
        (b 9).toNat % 4 = c.val ∧
        (b 9).toNat / 4 % 4 = (match p.stage with
          | .sense => 0
          | .precharge => 1
          | .ramp _ => 2
          | .confirm _ => 3) ∧
        (b 9).toNat / 16 = (match p.stage with
          | .ramp k => (k - 1) % 16
          | _ => 0)) ∧
      256 * (b 7).toNat + (b 8).toNat = (s.timer d).count ∧
      256 * (b 10).toNat + (b 11).toNat = (s.district d).trips ∧
      (b 12).toNat = (s.district d).swaps ∧
      (b 13).toNat = (s.monitor d).integrator / 256

/-! ### Masters (R158 to R169) -/

/-- R159: a node already joined keeps its slot and finds every set filled; another takes the lowest-numbered free
slot; with no slot free it is refused. R179: a JOIN with a payload is refused with BAD_ARG. -/
def Obligations.JoinGivesOneSlot : Prop :=
  (∀ (s : State) (src : Byte) (payload : List Byte), Taken s src payload → payload ≠ [] →
    exec (.join src payload) s = .next (answered s s src 0x10#8 .badArg [])) ∧
  ∀ (s : State) (src : Byte), Taken s src [] →
    (∀ n x, slotOf s src = some n → s.slot n = some x →
      exec (.join src []) s = .next (answered s (s.setSlot n (some
        { x with changedDistricts := 0xFFFF#16, changedFeeds := 0xF#4, changedJoints := 0xFF#8 }))
        src 0x10#8 .ok [byte n.val, 1#8])) ∧
    (∀ n, slotOf s src = none → s.slot n = none → (∀ m, m < n → (s.slot m).isSome) →
      exec (.join src []) s = .next (answered s (s.setSlot n (some
        { node := src, subscription := 0xFF#8, feedEnable := true, jointEnable := true,
          changedDistricts := 0xFFFF#16, changedFeeds := 0xF#4, changedJoints := 0xFF#8 }))
        src 0x10#8 .ok [byte n.val, 0#8])) ∧
    (slotOf s src = none → (∀ n, (s.slot n).isSome) →
      exec (.join src []) s = .next (answered s s src 0x10#8 .noSlot []))

/-- R160, R161: LEAVE frees a slot that holds nothing and is refused otherwise; SUBSCRIBE replaces the three fields
and empties the sets whose enable it clears, or is refused for its enables byte or a node that is not joined. R179: a
LEAVE with a payload and a SUBSCRIBE whose payload is not two bytes are refused with BAD_ARG. -/
def Obligations.LeaveAndSubscribe : Prop :=
  (∀ (s : State) (src : Byte) (payload : List Byte), Taken s src payload →
    (payload ≠ [] → exec (.leave src payload) s = .next (answered s s src 0x11#8 .badArg [])) ∧
    (payload.length ≠ 2 → exec (.subscribe src payload) s = .next (answered s s src 0x12#8 .badArg []))) ∧
  ∀ (s : State) (src kinds enables : Byte), Taken s src [] →
    (3 < enables.toNat →
      exec (.subscribe src [kinds, enables]) s = .next (answered s s src 0x12#8 .badArg [])) ∧
    (slotOf s src = none →
      exec (.leave src []) s = .next (answered s s src 0x11#8 .notJoined []) ∧
      (enables.toNat ≤ 3 →
        exec (.subscribe src [kinds, enables]) s = .next (answered s s src 0x12#8 .notJoined []))) ∧
    ∀ (n : SlotId) (x : Slot), slotOf s src = some n → s.slot n = some x →
    ((∀ d, (s.district d).holders.getLsbD n.val = false) →
      exec (.leave src []) s = .next (answered s (s.setSlot n none) src 0x11#8 .ok [])) ∧
    (∀ d, (s.district d).holders.getLsbD n.val = true →
      exec (.leave src []) s = .next (answered s s src 0x11#8 .holding
        [(heldBy s n >>> 8).setWidth 8, (heldBy s n).setWidth 8])) ∧
    (enables.toNat ≤ 3 →
      exec (.subscribe src [kinds, enables]) s = .next (answered s (s.setSlot n (some
        { x with subscription := kinds, feedEnable := enables.getLsbD 0, jointEnable := enables.getLsbD 1,
                 changedFeeds := if enables.getLsbD 0 then x.changedFeeds else 0#4,
                 changedJoints := if enables.getLsbD 1 then x.changedJoints else 0#8 }))
        src 0x12#8 .ok [kinds, enables]))

/-- R14, R15, R164: a HOLD that isolates a LIVE district opens it at once: a swap window is abandoned, probation ends,
F is kept, and the district is ISOLATED to return to its queue. -/
def Obligations.HoldOpensALiveDistrict : Prop :=
  ∀ (s : State) (src : Byte) (d : DistrictId) (n : SlotId), Taken s src [] → slotOf s src = some n →
    isolationSet s d = false → (s.district d).st = .live →
    let r := s.district d
    let a := (s.setDistrict d { r with
        st := .isolated .queued, probation := false, holders := BitVec.twoPow 6 n.val,
        polarity := match (s.monitor d).window with
          | some w => w.before
          | none => r.polarity }).setMonitor d
        { s.monitor d with window := none, integrator := 0 }
    let u := markDistrict [.isolation] d (if r.probation then a.setTimer d Timer.empty else a)
    exec (.hold src [byte d.val]) s =
      .next (answered s u src 0x20#8 .ok [districtByte0 u d, holdersByte (BitVec.twoPow 6 n.val), 0#8])

/-- R14, R16 to R18, R164: a HOLD that isolates a district out of service keeps what its recovery needs: a count is
retained, a queue entry removed, a grant window discarded. -/
def Obligations.HoldSuspendsRecovery : Prop :=
  ∀ (s : State) (src : Byte) (d : DistrictId) (n : SlotId), Taken s src [] → slotOf s src = some n →
    isolationSet s d = false →
    let h : BitVec 6 := BitVec.twoPow 6 n.val
    let r := s.district d
    let held := fun u => Host.Outcome.next (φ := Fault) (ρ := Refusal)
      (answered s u src 0x20#8 .ok [districtByte0 u d, holdersByte h, 0#8])
    (r.st = .off →
      exec (.hold src [byte d.val]) s =
        held (markDistrict [.isolation] d (s.setDistrict d { r with holders := h }))) ∧
    (r.st = .cooling .merging →
      exec (.hold src [byte d.val]) s = held (markDistrict [.isolation] d
        (s.setDistrict d { r with st := .isolated .coolPending, holders := h }))) ∧
    (r.st = .cooling .counting →
      exec (.hold src [byte d.val]) s = held (markDistrict [.isolation] d
        ((s.setDistrict d { r with st := .isolated .coolRetained, holders := h }).setTimer d
          { s.timer d with running := false, boundary := false }))) ∧
    (r.st = .awaitingGrant →
      exec (.hold src [byte d.val]) s = held (markDistrict [.isolation] d
        ((s.setDistrict d { r with st := .isolated .awaitingGrant, holders := h }).setTimer d Timer.empty))) ∧
    (r.st = .queued → ∃ u, u = arbitrate s (markDistrict [.isolation] d
        ((s.setDistrict d { r with st := .isolated .queued, holders := h }).setQueue (s.dcfg d).feed
          ((s.queue (s.dcfg d).feed).filter (fun e => e.district != d)))) ∧
      exec (.hold src [byte d.val]) s = .next (answered s u src 0x20#8 .ok
        [districtByte0 u d, holdersByte (u.district d).holders, jointPart u d])) ∧
    (∀ cause, r.st = .locked cause .noLook →
      exec (.hold src [byte d.val]) s = held (markDistrict [.isolation] d
        ((s.setDistrict d { r with holders := h }).setTimer d Timer.empty))) ∧
    (∀ cause, r.st = .locked cause .queued → ∃ u, u = arbitrate s (markDistrict [.isolation] d
        (((s.setDistrict d { r with st := .locked cause .noLook, holders := h }).setTimer d Timer.empty).setQueue
          (s.dcfg d).feed ((s.queue (s.dcfg d).feed).filter (fun e => e.district != d)))) ∧
      exec (.hold src [byte d.val]) s = .next (answered s u src 0x20#8 .ok
        [districtByte0 u d, holdersByte (u.district d).holders, jointPart u d])) ∧
    (∀ c, channelOf s d = some c →
      let e := endProbe c s
      (r.st = .probing → ∃ u, u = arbitrate s (markDistrict [.isolation] d
          (e.setDistrict d { e.district d with st := .isolated .queued, holders := h })) ∧
        exec (.hold src [byte d.val]) s = .next (answered s u src 0x20#8 .ok
          [districtByte0 u d, holdersByte (u.district d).holders, jointPart u d])) ∧
      (∀ cause, r.st = .locked cause .inFlight → ∃ u, u = arbitrate s (markDistrict [.isolation] d
          ((e.setDistrict d { e.district d with st := .locked cause .noLook, holders := h }).setTimer d
            Timer.empty)) ∧
        exec (.hold src [byte d.val]) s = .next (answered s u src 0x20#8 .ok
          [districtByte0 u d, holdersByte (u.district d).holders, jointPart u d])))

/-- R14, R164 to R166: a change within a set that stays non-empty changes the holders and no state; a second HOLD of
one slot changes nothing, RELEASE of a slot that does not hold is refused, and BREAK_HOLD empties the holders and tells
the former ones. A RELEASE that empties the set shows the district before the Arbiter's look, in its resume-to state
(R165); that BREAK_HOLD shows it after the look is the model's choice (log entry 10). -/
def Obligations.HoldersChangeWithinTheSet : Prop :=
  ∀ (s : State) (src : Byte), Taken s src [] →
    DistrictChecked Instr.hold 0x20#8 s src ∧ DistrictChecked Instr.release 0x21#8 s src ∧
    DistrictChecked Instr.breakHold 0x22#8 s src ∧
    ∀ (d : DistrictId) (n : SlotId), slotOf s src = some n →
    let r := s.district d
    let changed := fun h => markDistrict [.isolation] d (s.setDistrict d { r with holders := h })
    (r.holders.getLsbD n.val = false → isolationSet s d = true →
      let u := changed (r.holders ||| BitVec.twoPow 6 n.val)
      exec (.hold src [byte d.val]) s = .next (answered s u src 0x20#8 .ok
        [districtByte0 s d, holdersByte (r.holders ||| BitVec.twoPow 6 n.val), jointPart s d])) ∧
    (r.holders.getLsbD n.val = true →
      exec (.hold src [byte d.val]) s = .next (answered s s src 0x20#8 .ok
        [districtByte0 s d, holdersByte r.holders, jointPart s d])) ∧
    (r.holders.getLsbD n.val = false →
      exec (.release src [byte d.val]) s = .next (answered s s src 0x21#8 .notHolder
        [districtByte0 s d, holdersByte r.holders, jointPart s d])) ∧
    (r.holders.getLsbD n.val = true →
      (r.holders &&& ~~~(BitVec.twoPow 6 n.val) ≠ 0#6 ∨ jointPart s d ≠ 0#8) →
      let u := changed (r.holders &&& ~~~(BitVec.twoPow 6 n.val))
      exec (.release src [byte d.val]) s = .next (answered s u src 0x21#8 .ok
        [districtByte0 s d, holdersByte (r.holders &&& ~~~(BitVec.twoPow 6 n.val)), jointPart s d])) ∧
    (r.holders = 0#6 →
      exec (.breakHold src [byte d.val]) s = .next (answered s s src 0x22#8 .ok
        [districtByte0 s d, 0#8, jointPart s d, 0#8])) ∧
    (r.holders ≠ 0#6 → jointPart s d = 0#8 →
      let v := isolationChange s (s.setDistrict d { r with holders := 0#6 })
      let u := arbitrate s v
      let told := { u with slots := Vector.ofFn (fun m => (u.slot m).map (fun x =>
        if r.holders.getLsbD m.val then
          { x with changedDistricts := x.changedDistricts ||| BitVec.twoPow 16 d.val } else x)) }
      exec (.breakHold src [byte d.val]) s = .next (answered s told src 0x22#8 .ok
        [districtByte0 u d, 0#8, 0#8, holdersByte r.holders]) ∧
      (r.holders = BitVec.twoPow 6 n.val → exec (.release src [byte d.val]) s =
        .next (answered s u src 0x21#8 .ok [districtByte0 v d, 0#8, 0#8]))) ∧
    (r.holders ≠ 0#6 → jointPart s d ≠ 0#8 → ∃ u,
      exec (.breakHold src [byte d.val]) s = .next (answered s u src 0x22#8 .ok
        [districtByte0 s d, 0#8, jointPart s d, holdersByte r.holders]) ∧
      (∀ m, u.slot m = (s.slot m).map (fun x =>
        if x.subscription.getLsbD 5 || r.holders.getLsbD m.val then
          { x with changedDistricts := x.changedDistricts ||| BitVec.twoPow 16 d.val } else x)) ∧
      { u with slots := s.slots } = s.setDistrict d { r with holders := 0#6 })

/-- R20, R165, R166: the RELEASE of the last isolator returns the district to its resume-to state, which the reply
shows: a retained count runs on, a pending count waits for its close, a queue entry is placed anew, a grant window is
renewed.
BREAK_HOLD of that isolator does the same and tells it; that its reply is taken after the Arbiter's look is the model's
choice (log entry 10). -/
def Obligations.ReleaseReturnsTheDistrict : Prop :=
  ∀ (s : State) (src : Byte) (d : DistrictId) (n : SlotId), Taken s src [] → slotOf s src = some n →
    (s.district d).holders = BitVec.twoPow 6 n.val → jointPart s d = 0#8 →
    let r := s.district d
    let free := fun x => s.setDistrict d { r with st := x, holders := 0#6 }
    let released := fun (v w : State) =>
      exec (.release src [byte d.val]) s = .next (answered s w src 0x21#8 .ok [districtByte0 v d, 0#8, 0#8]) ∧
      exec (.breakHold src [byte d.val]) s = .next (answered s
        (w.setSlot n ((w.slot n).map (fun x =>
          { x with changedDistricts := x.changedDistricts ||| BitVec.twoPow 16 d.val })))
        src 0x22#8 .ok [districtByte0 w d, 0#8, 0#8, holdersByte (BitVec.twoPow 6 n.val)])
    let marked := fun u => released (markDistrict [.isolation] d u) (markDistrict [.isolation] d u)
    (r.st = .isolated .coolRetained →
      marked ((free (.cooling .counting)).setTimer d (loaded .cool (s.timer d).count))) ∧
    (r.st = .isolated .coolPending → marked (free (.cooling .merging))) ∧
    (r.st = .isolated .awaitingGrant →
      marked ((free .awaitingGrant).setTimer d (loaded .grant s.cfg.globals.grantWindow))) ∧
    (r.st = .isolated .queued →
      let v := markDistrict [.isolation] d ((free .queued).setQueue (s.dcfg d).feed (queueWith s d .full))
      released v (arbitrate s v) ∧ (districtByte0 v d).toNat % 8 = 4) ∧
    (r.st = .off → marked (free .off)) ∧
    (∀ cause, r.st = .locked cause .noLook →
      let u := free (.locked cause .noLook)
      marked (if (s.dcfg d).patrol ∧ s.mode = .run then
        u.setTimer d (loaded .patrol s.cfg.globals.patrol) else u))

/-- R155, R153: ACCEPT_JOINT makes a FAULT joint that stands coupled COUPLED, ends its isolation and marks it; in any
other condition it is refused with REFUSED_STATE. -/
def Obligations.AcceptJointCouplesAFault : Prop :=
  ∀ (s : State) (src : Byte), Taken s src [] → JointChecked Instr.acceptJoint 0x23#8 s src ∧
    ∀ (j : JointId) (n : SlotId), slotOf s src = some n →
    let x := s.joint j
    (x.st = .fault → x.input = true → ∃ u,
      u = arbitrate s (isolationChange s (markJoint j
        (s.setJoint j { x with st := .coupled, settle := none, docking := none }))) ∧
      exec (.acceptJoint src [byte j.val]) s =
        .next (answered s u src 0x23#8 .ok [jointByte0 u j])) ∧
    ((x.st ≠ .fault ∨ x.input = false) →
      exec (.acceptJoint src [byte j.val]) s = .next (answered s s src 0x23#8 .refusedState [jointByte0 s j]))

/-- R168: GRANT by the number, the sender and the district's state. That the OK reply shows the state after the
Arbiter's look is the model's choice (log entry 10). -/
def Obligations.GrantByState : Prop :=
  ∀ (s : State) (src : Byte), Taken s src [] → DistrictChecked Instr.grant 0x30#8 s src ∧
    ∀ (d : DistrictId) (n : SlotId), slotOf s src = some n →
    let refused := fun st => Host.Outcome.next (φ := Fault) (ρ := Refusal)
      (answered s s src 0x30#8 st [districtByte0 s d])
    ((s.district d).st = .awaitingGrant →
      exec (.grant src [byte d.val]) s =
        .next (answered s (retried s d) src 0x30#8 .ok [districtByte0 (retried s d) d])) ∧
    (∀ p, (s.district d).st = .cooling p → exec (.grant src [byte d.val]) s = refused .notDue) ∧
    (∀ r, (s.district d).st = .isolated r → exec (.grant src [byte d.val]) s = refused .isolated) ∧
    (((s.district d).st = .off ∨ (s.district d).st = .live ∨ (s.district d).st = .queued ∨
        (s.district d).st = .probing ∨ isLocked (s.district d).st = true) →
      exec (.grant src [byte d.val]) s = refused .refusedState)

/-- R94: RETRY_NOW by the number, the sender and the district's state. That the OK reply shows the state after the
Arbiter's look is the model's choice (log entry 10). -/
def Obligations.RetryNowByState : Prop :=
  ∀ (s : State) (src : Byte), Taken s src [] → DistrictChecked Instr.retryNow 0x31#8 s src ∧
    ∀ (d : DistrictId) (n : SlotId), slotOf s src = some n →
    let refused := fun st => Host.Outcome.next (φ := Fault) (ρ := Refusal)
      (answered s s src 0x31#8 st [districtByte0 s d])
    (((s.district d).st = .awaitingGrant ∨ (s.district d).st = .cooling .counting) →
      exec (.retryNow src [byte d.val]) s =
        .next (answered s (retried s d) src 0x31#8 .ok [districtByte0 (retried s d) d])) ∧
    ((s.district d).st = .cooling .merging → exec (.retryNow src [byte d.val]) s = refused .busy) ∧
    (((s.district d).st = .off ∨ (s.district d).st = .live ∨ (s.district d).st = .queued ∨
        (s.district d).st = .probing ∨ isLocked (s.district d).st = true ∨
        (∃ r, (s.district d).st = .isolated r)) →
      exec (.retryNow src [byte d.val]) s = refused .refusedState)

/-- R169: CLEAR ends a lockout, with any look of the district: F is 0, the PATROL timer is emptied, and the district
is QUEUED, ISOLATED or OFF; a district that is not LOCKED is refused. That the OK reply shows the state after the
Arbiter's look is the model's choice (log entry 10). -/
def Obligations.ClearEndsALockout : Prop :=
  ∀ (s : State) (src : Byte), Taken s src [] → DistrictChecked Instr.clear 0x32#8 s src ∧
    ∀ (d : DistrictId) (n : SlotId), slotOf s src = some n →
    let cleared := fun (e : State) =>
      let c := fun x => (e.setDistrict d { e.district d with st := x, failures := 0 }).setTimer d Timer.empty
      arbitrate s (markDistrict [.locked] d
        (if s.mode = .run then
          if isolationSet s d then c (.isolated .queued)
          else (c .queued).setQueue (s.dcfg d).feed (queueWith s d .full)
        else c .off))
    (∀ cause, (s.district d).st = .locked cause .noLook →
      exec (.clear src [byte d.val]) s =
        .next (answered s (cleared s) src 0x32#8 .ok [districtByte0 (cleared s) d])) ∧
    (∀ cause, (s.district d).st = .locked cause .queued →
      let e := s.setQueue (s.dcfg d).feed ((s.queue (s.dcfg d).feed).filter (fun x => x.district != d))
      exec (.clear src [byte d.val]) s =
        .next (answered s (cleared e) src 0x32#8 .ok [districtByte0 (cleared e) d])) ∧
    (∀ cause c, (s.district d).st = .locked cause .inFlight → channelOf s d = some c →
      exec (.clear src [byte d.val]) s = .next
        (answered s (cleared (endProbe c s)) src 0x32#8 .ok [districtByte0 (cleared (endProbe c s)) d])) ∧
    (isLocked (s.district d).st = false →
      exec (.clear src [byte d.val]) s = .next (answered s s src 0x32#8 .refusedState [districtByte0 s d]))

/-! ### Configuration writes (R21 to R25, R58, R92, R154, R156, R187) -/

/-- R21, R187: SET_DISTRICT is checked in the order of the rule, and one that passes is taken whole; R187: a payload of
field entries is read exactly where it is the bytes of entries with ids of the record, each once, in their widths. R179,
R184: an empty payload is refused with BAD_ARG. -/
def Obligations.SetDistrictChecksInOrder : Prop :=
  (∀ (s : State) (src : Byte), Taken s src [] →
    exec (.setDistrict src []) s = .next (answered s s src 0x40#8 .badArg [])) ∧
  (∀ (width : Nat → Option Width) (payload : List Byte) (es : List FieldEntry),
    width = districtWidth ∨ width = feedWidth ∨ width = jointWidth ∨ width = globalsWidth →
    (parseEntries width payload = some es ↔
      payload = es.flatMap (fun e =>
        if width e.1 = some .two then [byte e.1, byte (e.2 / 256), byte e.2] else [byte e.1, byte e.2]) ∧
      (∀ e ∈ es, (width e.1 = some .one ∧ e.2 < 256) ∨ (width e.1 = some .two ∧ e.2 < 65536)) ∧
      (es.map Prod.fst).Nodup)) ∧
  (∀ id : Nat,
    let widths := fun (last : Nat) (two : List Nat) =>
      if id = 0 ∨ last < id then none else some (if id ∈ two then Width.two else .one)
    districtWidth id = widths 18 [7, 8, 9, 11, 13, 16] ∧ feedWidth id = widths 8 [4, 5, 6] ∧
      jointWidth id = widths 6 [2] ∧ globalsWidth id = widths 6 [2, 3, 4, 5, 6]) ∧
  ∀ (s : State) (src b : Byte) (entries : List Byte), Taken s src (b :: entries) →
    let refused := fun st => Host.Outcome.next (φ := Fault) (ρ := Refusal) (answered s s src 0x40#8 st [])
    (16 ≤ b.toNat → exec (.setDistrict src (b :: entries)) s = refused .badArg) ∧
    (∀ d : DistrictId, b = byte d.val →
      (parseEntries districtWidth entries = none →
        exec (.setDistrict src (b :: entries)) s = refused .badArg) ∧
      (∀ es, parseEntries districtWidth entries = some es →
        exec (.setDistrict src (b :: entries)) s =
          match takeDistrict (s.dcfg d) es with
          | none => refused .badArg
          | some k =>
            if districtBusy s d es then refused .busy
            else if slotOf s src = none then refused .notJoined
            else if s.writing.isSome then refused .busy
            else .next (answered s (arbitrate s (writeDistrict d es k s)) src 0x40#8 .ok
              (echo districtWidth (districtField k) es)))) ∧
    (∀ (d : DistrictId) (es : List FieldEntry), districtBusy s d es = true ↔
      let st := (s.district d).st
      let lookQueued := ∃ cause, st = .locked cause .queued
      ((∃ e ∈ es, e.1 ∉ ([7, 8, 9, 10, 18] : List Nat)) ∧ s.mode = .run ∧ st ≠ .off ∧
        (∀ r, st ≠ .isolated r) ∧ isLocked st = false) ∨
      ((∃ v, es.lookup 1 = some v) ∧
        (episodeMember s d = true ∨ lookQueued ∨ ∃ cause, st = .locked cause .inFlight)) ∨
      ((∃ v, es.lookup 5 = some v) ∧ lookQueued))

/-- R2, R21, R22, R187: when a district write is refused for its values, and what each field becomes otherwise. -/
def Obligations.SetDistrictTakesClampedValues : Prop :=
  ∀ (k : DistrictConfig) (es : List FieldEntry),
    let num := fun (id lo hi old : Nat) =>
      match es.lookup id with
      | some v => max lo (min hi v)
      | none => old
    let tooLow := match es.lookup 8, es.lookup 7 with
      | some h, _ => max 20 (min 1000 h) ≤ num 7 10 900 k.trip
      | none, some _ => k.hard < num 7 10 900 k.trip + 10
      | none, none => False
    let codeOut := (∃ v, es.lookup 1 = some v ∧ 4 ≤ v) ∨ (∃ v, es.lookup 2 = some v ∧ 4 ≤ v) ∨
      (∃ v, es.lookup 3 = some v ∧ 2 ≤ v) ∨ (∃ v, es.lookup 4 = some v ∧ 2 ≤ v)
    (takeDistrict k es = none ↔ codeOut ∨ tooLow) ∧
    ∀ c, takeDistrict k es = some c →
      c.feed.val = (es.lookup 1).getD k.feed.val ∧
      policyCode c.policy = (es.lookup 2).getD (policyCode k.policy) ∧
      (if c.reversing then 1 else 0) = (es.lookup 3).getD (if k.reversing then 1 else 0) ∧
      (if c.patrol then 1 else 0) = (es.lookup 4).getD (if k.patrol then 1 else 0) ∧
      c.priority.val = num 5 0 3 k.priority.val ∧ c.weight = num 6 1 15 k.weight ∧
      c.trip = num 7 10 900 k.trip ∧
      c.hard = (match es.lookup 8 with
        | some v => max (max 20 (min 1000 v)) (c.trip + 10)
        | none => k.hard) ∧
      c.allowance = num 9 1 65535 k.allowance ∧ c.leak = num 10 0 255 k.leak ∧
      c.probeAllowance = num 11 1 65535 k.probeAllowance ∧ c.preLimit = num 12 1 200 k.preLimit ∧
      c.preTime = num 13 10 500 k.preTime ∧ c.rampSteps = num 14 1 8 k.rampSteps ∧
      c.stepTime = num 15 5 100 k.stepTime ∧ c.confirmTime = num 16 20 1000 k.confirmTime ∧
      c.lockoutLimit = num 17 1 15 k.lockoutLimit ∧ c.swapWindow = num 18 4 64 k.swapWindow

/-- R22 to R25: the effects of a district write. One that names no field of lockout limit, reversing, policy and patrol
stores the configuration taken and marks the district CONFIG, and nothing else changes; one that names several of them
takes their effects in this order, which is log entry 28. Then what a write that names one field does: lockout limit,
feed, reversing, policy or patrol. -/
def Obligations.SetDistrictEffects : Prop :=
  (∀ (s : State) (d : DistrictId) (es : List FieldEntry) (c : DistrictConfig),
    let named := fun id => (es.lookup id).isSome
    let limit := fun (u : State) =>
      let r := u.district d
      let bound := if isLocked r.st then c.lockoutLimit else c.lockoutLimit - 1
      if named 17 then u.setDistrict d { r with failures := min r.failures bound } else u
    let reversing := fun (u : State) =>
      if named 3 = true ∧ c.reversing = false then u.setDistrict d { u.district d with polarity := .normal } else u
    let policy := fun (u : State) =>
      let becomes := fun (x : DistrictState) => u.setDistrict d { u.district d with st := x }
      let off := fun (w : State) =>
        (w.setDistrict d { w.district d with st := .off, failures := 0 }).setTimer d Timer.empty
      if named 2 = false then u
      else if c.policy = .dark then
        match (u.district d).st with
        | .isolated _ | .locked _ .noLook => off u
        | .locked _ .queued => off (u.setQueue c.feed ((u.queue c.feed).filter (fun e => e.district != d)))
        | .locked _ .inFlight => off (match channelOf u d with
          | some b => endProbe b u
          | none => u)
        | _ => u
      else
        match (u.district d).st with
        | .off =>
          if s.mode = .standby then u
          else if isolationSet s d = true then becomes (.isolated .queued)
          else (becomes .queued).setQueue c.feed (queueWith u d .full)
        | .isolated .awaitingGrant => if c.policy = .auto then becomes (.isolated .queued) else u
        | _ => u
    let patrol := fun (u : State) =>
      if named 4 = true ∧ isLocked (u.district d).st = true then
        if c.patrol = false then u.setTimer d Timer.empty
        else if s.mode = .run ∧ isolationSet s d = false ∧
            ¬((u.timer d).purpose = some .patrol ∧ (u.timer d).running = true) then
          u.setTimer d (loaded .patrol s.cfg.globals.patrol)
        else u
      else u
    writeDistrict d es c s = markDistrict [.config] d (patrol (policy (reversing (limit (s.setDcfg d c))))) ∧
    ((∀ e ∈ es, e.1 ∉ ([2, 3, 4, 17] : List Nat)) →
      writeDistrict d es c s = markDistrict [.config] d (s.setDcfg d c))) ∧
  ∀ (s : State) (src v : Byte) (d : DistrictId) (n : SlotId), Taken s src [] → slotOf s src = some n →
    s.writing = none → standsStill s d = true →
    let k := s.dcfg d
    let r := s.district d
    let written := fun (id : Byte) (w : Byte) (u : State) =>
      exec (.setDistrict src [byte d.val, id, w]) s = .next (answered s u src 0x40#8 .ok
        [id, byte (if id = 17#8 then max 1 (min 15 w.toNat) else w.toNat)])
    let mark := markDistrict [.config] d
    (let limit := max 1 (min 15 v.toNat)
     written 17#8 v (mark ((s.setDcfg d { k with lockoutLimit := limit }).setDistrict d
       { r with failures := if isLocked r.st then min r.failures limit else min r.failures (limit - 1) }))) ∧
    (∀ f : FeedId, episodeMember s d = false → probeKindOf r.st = none → entryOf r.st = none →
      written 1#8 (byte f.val) (mark (s.setDcfg d { k with feed := f }))) ∧
    written 3#8 0#8 (mark ((s.setDcfg d { k with reversing := false }).setDistrict d
      { r with polarity := .normal })) ∧
    written 3#8 1#8 (mark (s.setDcfg d { k with reversing := true })) ∧
    (let dark := s.setDcfg d { k with policy := .dark }
     let off := fun (u : State) =>
       mark ((u.setDistrict d { u.district d with st := .off, failures := 0 }).setTimer d Timer.empty)
     (r.st = .off → written 2#8 0#8 (mark dark)) ∧
     ((∃ x, r.st = .isolated x) ∨ (∃ cause, r.st = .locked cause .noLook) → written 2#8 0#8 (off dark)) ∧
     (∀ cause, r.st = .locked cause .queued → written 2#8 0#8 (arbitrate s (off
       (dark.setQueue k.feed ((s.queue k.feed).filter (fun e => e.district != d)))))) ∧
     (∀ cause c, r.st = .locked cause .inFlight → channelOf s d = some c →
       written 2#8 0#8 (arbitrate s (off (endProbe c dark))))) ∧
    (∀ p : Policy, p ≠ .dark →
      let u := s.setDcfg d { k with policy := p }
      let w := written 2#8 (byte (policyCode p))
      (r.st = .off → s.mode = .standby → w (mark u)) ∧
      (r.st = .off → s.mode = .run → isolationSet s d = true →
        w (mark (u.setDistrict d { r with st := .isolated .queued }))) ∧
      (r.st = .off → s.mode = .run → isolationSet s d = false →
        w (arbitrate s (mark ((u.setDistrict d { r with st := .queued }).setQueue k.feed
          (queueWith s d .full))))) ∧
      (r.st = .isolated .awaitingGrant →
        w (mark (if p = .auto then u.setDistrict d { r with st := .isolated .queued } else u))) ∧
      (∀ x, r.st = .isolated x → x ≠ .awaitingGrant → w (mark u)) ∧
      (isLocked r.st = true → w (mark u))) ∧
    (isLocked r.st = true →
      written 4#8 0#8 (mark ((s.setDcfg d { k with patrol := false }).setTimer d Timer.empty)) ∧
      (let u := s.setDcfg d { k with patrol := true }
       written 4#8 1#8 (mark (if s.mode = .run ∧ isolationSet s d = false ∧
           ¬((s.timer d).purpose = some .patrol ∧ (s.timer d).running = true) then
         u.setTimer d (loaded .patrol s.cfg.globals.patrol) else u)))) ∧
    (isLocked r.st = false → written 4#8 1#8 (mark (s.setDcfg d { k with patrol := true })) ∧
      written 4#8 0#8 (mark (s.setDcfg d { k with patrol := false })))

/-- R58, R92, R93, R187: SET_FEED and SET_GLOBALS are checked in the order of their rules, and take the values of
their ranges; a polarity or filter write restarts the filter run, a budget write makes the Arbiter look, a write of k
restarts the prescaler, and C is raised to B. That the quarter of the running ms is set to 0 with the prescaler is the
model's choice (log entry 25). -/
def Obligations.FeedAndGlobalsWrites : Prop :=
  ∀ (s : State) (src b : Byte) (entries : List Byte) (es : List FieldEntry),
    let num := fun (id lo hi old : Nat) =>
      match es.lookup id with
      | some v => max lo (min hi v)
      | none => old
    let named := fun id => (es.lookup id).isSome
    (Taken s src (b :: entries) → 4 ≤ b.toNat ∨ parseEntries feedWidth entries = none →
      exec (.setFeed src (b :: entries)) s = .next (answered s s src 0x41#8 .badArg [])) ∧
    (Taken s src [] → exec (.setFeed src []) s = .next (answered s s src 0x41#8 .badArg [])) ∧
    (Taken s src entries → entries = [] ∨ parseEntries globalsWidth entries = none →
      exec (.setGlobals src entries) s = .next (answered s s src 0x43#8 .badArg [])) ∧
    (∀ f : FeedId, b = byte f.val → Taken s src (b :: entries) → parseEntries feedWidth entries = some es →
      let refused := fun st => Host.Outcome.next (φ := Fault) (ρ := Refusal) (answered s s src 0x41#8 st [])
      let k := s.fcfg f
      ((takeFeed k es).isNone = true ↔ (∃ v, es.lookup 3 = some v ∧ 4 ≤ v) ∨
        (∃ v, es.lookup 7 = some v ∧ 2 ≤ v) ∨ (∃ v, es.lookup 8 = some v ∧ 4 ≤ v)) ∧
      (takeFeed k es = none → exec (.setFeed src (b :: entries)) s = refused .badArg) ∧
      (∀ c, takeFeed k es = some c →
        c.budget = num 1 1 63 k.budget ∧ c.massThreshold = num 2 2 16 k.massThreshold ∧
        mergeWindowCode c.mergeWindow = (es.lookup 3).getD (mergeWindowCode k.mergeWindow) ∧
        c.massCool = num 4 1 65535 k.massCool ∧ c.stagger = num 5 0 4095 k.stagger ∧
        c.shedDelay = num 6 0 2000 k.shedDelay ∧
        (if c.stallHigh then 1 else 0) = (es.lookup 7).getD (if k.stallHigh then 1 else 0) ∧
        stallFilterCode c.stallFilter = (es.lookup 8).getD (stallFilterCode k.stallFilter) ∧
        exec (.setFeed src (b :: entries)) s =
          (if slotOf s src = none then refused .notJoined
           else if s.writing.isSome then refused .busy
           else
             let u := markFeed f ((s.setFcfg f c).setFeed f
               { s.feed f with filterRun := if named 7 || named 8 then 0 else (s.feed f).filterRun })
             .next (answered s (if named 1 then arbiterLook u else u) src 0x41#8 .ok
               (echo feedWidth (feedField c) es))))) ∧
    (Taken s src entries → entries ≠ [] → parseEntries globalsWidth entries = some es →
      let refused := fun st => Host.Outcome.next (φ := Fault) (ρ := Refusal) (answered s s src 0x43#8 st [])
      let g := s.cfg.globals
      let base := num 2 1 65535 g.base
      let h : Globals :=
        { k := num 1 0 7 g.k, base := base, ceiling := max (num 3 1 65535 g.ceiling) base,
          probation := num 4 1 65535 g.probation, grantWindow := num 5 1 65535 g.grantWindow,
          patrol := num 6 1 65535 g.patrol }
      exec (.setGlobals src entries) s =
        (if named 1 = true ∧ s.mode = .run then refused .busy
         else if slotOf s src = none then refused .notJoined
         else if s.writing.isSome then refused .busy
         else
           let u := s.setGlobals h
           .next (answered s (if named 1 then u.setClock 0 0 else u) src 0x43#8 .ok
             ([byte h.k] ++ word h.base ++ word h.ceiling ++ word h.probation ++ word h.grantWindow ++
               word h.patrol))))

/-- R154, R156, R187: SET_JOINT is refused for a payload that does not parse, a code out of range or a settle time not
below the docking timeout, and otherwise taken whole, with one recompute of the joint's isolation. -/
def Obligations.SetJointTakesTheWrite : Prop :=
  (∀ (s : State) (src : Byte), Taken s src [] →
    exec (.setJoint src []) s = .next (answered s s src 0x42#8 .badArg [])) ∧
  ∀ (s : State) (src b : Byte) (entries : List Byte) (es : List FieldEntry), Taken s src (b :: entries) →
    let refused := fun st => Host.Outcome.next (φ := Fault) (ρ := Refusal) (answered s s src 0x42#8 st [])
    (8 ≤ b.toNat ∨ parseEntries jointWidth entries = none →
      exec (.setJoint src (b :: entries)) s = refused .badArg) ∧
    ∀ j : JointId, b = byte j.val → parseEntries jointWidth entries = some es →
      let k := s.jcfg j
      let codeOut := (∃ v, es.lookup 1 = some v ∧ 2 ≤ v) ∨ (∃ v, es.lookup 3 = some v ∧ 2 ≤ v) ∨
        (∃ v, es.lookup 4 = some v ∧ 4 ≤ v) ∨ (∃ v, es.lookup 5 = some v ∧ 5 ≤ v) ∨
        (∃ v, es.lookup 6 = some v ∧ 5 ≤ v)
      (codeOut → exec (.setJoint src (b :: entries)) s = refused .badArg) ∧
      (∀ (c : JointConfig), ¬codeOut →
        (if c.enabled then 1 else 0) = (es.lookup 1).getD (if k.enabled then 1 else 0) →
        c.cover = (match es.lookup 2 with
          | some v => BitVec.ofNat 16 v
          | none => k.cover) →
        (if c.coupledHigh then 1 else 0) = (es.lookup 3).getD (if k.coupledHigh then 1 else 0) →
        debounceCode c.debounce = (es.lookup 4).getD (debounceCode k.debounce) →
        settleCode c.settle = (es.lookup 5).getD (settleCode k.settle) →
        dockingCode c.docking = (es.lookup 6).getD (dockingCode k.docking) →
        exec (.setJoint src (b :: entries)) s =
          if c.docking.samples ≤ c.settle.samples then refused .badArg
          else if slotOf s src = none then refused .notJoined
          else if s.writing.isSome then refused .busy
          else
            let u := (s.setJcfg j c).setJoint j
              { s.joint j with
                filterRun := if (es.lookup 3).isSome || (es.lookup 4).isSome then 0
                  else (s.joint j).filterRun }
            .next (answered s (arbitrate s (isolationChange s (markJoint j u))) src 0x42#8 .ok
              (echo jointWidth (jointField c) es)))

/-! ### Modes and the Profile Store (R170 to R177) -/

/-- R176, R177: STORE_PROFILE starts a write of the configuration in force and leaves the image invalid; the end of
the write validates it, or leaves it invalid with PROFILE_LOST set. R179: a STORE_PROFILE with a payload is refused with
BAD_ARG. -/
def Obligations.ProfileWrites : Prop :=
  (∀ (s : State) (src : Byte) (payload : List Byte), Taken s src payload → payload ≠ [] →
    exec (.storeProfile src payload) s = .next (answered s s src 0x44#8 .badArg [])) ∧
  ∀ (s : State) (src : Byte), Taken s src [] →
    let refused := fun st => Host.Outcome.next (φ := Fault) (ρ := Refusal) (answered s s src 0x44#8 st [])
    (exec (.storeProfile src []) s =
      if slotOf s src = none then refused .notJoined
      else if s.mode = .run then refused .mode
      else if s.writing.isSome then refused .busy
      else .next (answered s { s with image := none, writing := some s.cfg } src 0x44#8 .ok [])) ∧
    (∀ p, s.writing = some p →
      exec (.profileWriteEnd true) s =
        .next { s with image := some p, profileLost := false, writing := none } ∧
      exec (.profileWriteEnd false) s =
        .next { s with image := none, profileLost := true, writing := none }) ∧
    (s.writing = none → ∀ agrees, exec (.profileWriteEnd agrees) s = .next s)

/-- R170, R171: SET_MODE RUN from STANDBY queues or isolates every district that is not DARK and not LOCKED, in
ascending number, starts the patrols of R88, and ends in one look; a mode that stands already changes nothing; a payload
that is no mode, and then a node that is not joined, is refused. -/
def Obligations.EnteringRun : Prop :=
  (∀ (s : State) (src : Byte) (payload : List Byte), Taken s src payload →
    (payload ≠ [0#8] → payload ≠ [1#8] →
      exec (.setMode src payload) s = .next (answered s s src 0x45#8 .badArg [])) ∧
    (payload = [0#8] ∨ payload = [1#8] → slotOf s src = none →
      exec (.setMode src payload) s = .next (answered s s src 0x45#8 .notJoined []))) ∧
  ∀ (s : State) (src : Byte) (n : SlotId), Taken s src [] → slotOf s src = some n →
    (s.mode = .run → exec (.setMode src [1#8]) s = .next (answered s s src 0x45#8 .ok [1#8])) ∧
    (s.mode = .standby → exec (.setMode src [0#8]) s = .next (answered s s src 0x45#8 .ok [0#8])) ∧
    (s.mode = .standby → s.writing.isSome →
      exec (.setMode src [1#8]) s = .next (answered s s src 0x45#8 .busy [0#8])) ∧
    (s.mode = .standby → s.writing = none → RecoverySound s → (∀ f, s.queue f = []) → ∃ u,
      exec (.setMode src [1#8]) s = .next (answered s (arbiterLook u) src 0x45#8 .ok [1#8]) ∧
      { u with mode := s.mode, districts := s.districts, timers := s.timers, queues := s.queues } = s ∧
      u.mode = .run ∧
      let enters := fun d => (s.dcfg d).policy ≠ .dark ∧ isLocked (s.district d).st = false
      (∀ d, ¬enters d → u.district d = s.district d) ∧
      (∀ d, enters d → u.district d = { s.district d with
        st := if isolationSet s d then .isolated .queued else .queued }) ∧
      (∀ d, isLocked (s.district d).st = true →
        u.timer d = if (s.dcfg d).patrol = true ∧ isolationSet s d = false then
          loaded .patrol s.cfg.globals.patrol else Timer.empty) ∧
      (∀ d, isLocked (s.district d).st = false → u.timer d = s.timer d) ∧
      (∀ f, u.queue f = ([0, 1, 2, 3] : List (Fin 4)).flatMap (fun p =>
        (allDistricts.filter (fun d => (s.dcfg d).feed == f && (s.dcfg d).priority == p &&
          decide ((s.dcfg d).policy ≠ .dark) && !isLocked (s.district d).st && !isolationSet s d)).map
          (fun d => { district := d, kind := .full, priority := p }))))

/-- R173, R174, R8, R53: SET_MODE STANDBY from RUN, as one state. -/
def Obligations.LeavingRun : Prop :=
  ∀ (s : State) (src : Byte) (n : SlotId), Taken s src [] → slotOf s src = some n → s.mode = .run →
    exec (.setMode src [0#8]) s = .next (answered s
      { s with
        mode := .standby
        districts := Vector.ofFn (fun d =>
          let r := s.district d
          match r.st with
          | .off => { r with polarity := .normal }
          | .locked cause _ => { r with st := .locked cause .noLook, polarity := .normal }
          | _ => { r with st := .off, failures := 0, probation := false, polarity := .normal })
        monitors := Vector.ofFn (fun d =>
          { s.monitor d with integrator := 0, window := none, confirmSwapUsed := false })
        timers := Vector.replicate 16 Timer.empty
        feeds := Vector.ofFn (fun f => { s.feed f with phase := .idle })
        episodes := Vector.replicate 4 none
        queues := Vector.replicate 4 []
        channels := Vector.replicate 4 none
        lastGranted := 3 } src 0x45#8 .ok [0#8])

/-! ### Timers (R77 to R89) -/

/-- R77, R80: a tick boundary first takes what the last one left due, in ascending district number, and then steps
every running timer; a count that reaches 0 is marked due (log entry 5). R53, R62, R77, R127: a step with no command
waiting is a period of 250 µs, the model's choice (log entries 1, 6 and 21): it takes what stands due, ends the sample
period, lowers the lifetimes, looks once for those that expired, lowers the shed timers, and moves the prescaler. -/
def Obligations.TickBoundarySteps : Prop :=
  (∀ s : State,
    let u := allDistricts.foldl (fun s d => timerExpiry d s) s
    exec .tickBoundary s = .next
      { u with
        timers := Vector.ofFn (fun d =>
          let t := u.timer d
          if t.running then
            if t.count ≤ 1 then { t with boundary := true } else { t with count := t.count - 1 }
          else t)
        prescaler := 0
        quarter := 0 } ∧
    ((∀ d, (s.timer d).boundary = false) → u = s)) ∧
  ∀ s : State, s.pending = [] →
    let a := settleAll s
    let b := { a with sampled := 0#16, episodes := Vector.ofFn (fun f => (a.episode f).map advanced) }
    let lived := ([0, 1, 2, 3] : List ChannelId).foldl (fun t c => match t.channel c with
      | some p =>
        if p.lifetime ≤ 1 then expireProbe c p t else t.setChannel c (some { p with lifetime := p.lifetime - 1 })
      | none => t) b
    let e := ([0, 1, 2, 3] : List FeedId).foldl (fun t f => match (t.feed f).phase with
      | .pending q =>
        if q ≤ 1 then shedExpiry f t else t.setFeed f { t.feed f with phase := .pending (q - 1) }
      | _ => t) (arbitrate b lived)
    step s = (if e.quarter < 3 then .next (e.setClock e.prescaler (e.quarter + 1))
      else if e.prescaler + 1 < 2 ^ s.cfg.globals.k then .next (e.setClock (e.prescaler + 1) 0)
      else exec .tickBoundary e) ∧
    (∀ c p, b.channel c = some p →
      exec (.probeLifetimeExpiry c) b = .next (arbitrate b (expireProbe c p b))) ∧
    (∀ t f, exec (.shed f) t = .next (shedExpiry f t)) ∧
    ((∀ d, swapSuccessDue s d = false ∧ (s.timer d).boundary = false) →
      (∀ c p, s.channel c = some p → stageDue s p = false) →
      (∀ f, closeDue s f = none ∧ filterFull s f = false) →
      (∀ j, debounceFull s j = false ∧ settleDue s j = false ∧ dockingDue s j = false) → a = s)

/-- R82, R84, R86, R89: what each expiry does when it is due; one that is not due changes nothing (log entry 2).
An expiry that places an entry finds the due COOL expiries under AUTO and the due PATROL expiries of lower-numbered
districts of its feed taken, in ascending number: R80 and R98 order the expiries that place entries, and that the row of
one expiry takes the others with it, also a PATROL expiry that finds a look queued or in flight and places no entry, is
the model's choice (log entry 3). -/
def Obligations.TimerExpiries : Prop :=
  ∀ (s : State) (d : DistrictId),
    let r := s.district d
    let k := s.dcfg d
    let due := fun p => timerDue (s.timer d) p = true
    let u := earlierTaken s d
    ((∀ e, e < d → (s.dcfg e).feed = k.feed → (s.timer e).boundary = false) → u = s) ∧
    (r.st = .cooling .counting → due .cool →
      (k.policy = .auto → (u.district d).st = .cooling .counting → u.timer d = s.timer d →
        exec (.coolExpiry d) s = .next (arbitrate u
          (((u.setTimer d Timer.empty).setDistrict d { u.district d with st := .queued }).setQueue k.feed
            (queueWith u d .full)))) ∧
      (k.policy = .supervised ∨ k.policy = .manual → exec (.coolExpiry d) s = .next (markDistrict [.grant] d
        ((s.setTimer d (loaded .grant s.cfg.globals.grantWindow)).setDistrict d
          { r with st := .awaitingGrant })))) ∧
    (r.st = .awaitingGrant → due .grant →
      exec (.grantExpiry d) s = .next (markDistrict [.locked, .grant] d
        ((s.setTimer d (if k.patrol = true ∧ isolationSet s d = false ∧ s.mode = .run then
            loaded .patrol s.cfg.globals.patrol else Timer.empty)).setDistrict d
          { r with st := .locked .grantLapsed .noLook }))) ∧
    (r.st = .live → r.probation = true → due .probation →
      exec (.probationExpiry d) s = .next ((s.setTimer d Timer.empty).setDistrict d
        { r with failures := 0, probation := false })) ∧
    (∀ cause, r.st = .locked cause .noLook → isolationSet s d = false → due .patrol →
      (u.district d).st = .locked cause .noLook → u.timer d = s.timer d →
      exec (.patrolExpiry d) s = .next (arbitrate u
        (((u.setTimer d (loaded .patrol s.cfg.globals.patrol)).setDistrict d
          { u.district d with st := .locked cause .queued }).setQueue k.feed (queueWith u d .look)))) ∧
    (∀ cause look, r.st = .locked cause look → look ≠ .noLook → due .patrol →
      exec (.patrolExpiry d) s = .next (s.setTimer d (loaded .patrol s.cfg.globals.patrol))) ∧
    (¬due .cool → exec (.coolExpiry d) s = .next s) ∧ (¬due .grant → exec (.grantExpiry d) s = .next s) ∧
    (¬due .probation → exec (.probationExpiry d) s = .next s) ∧
    (¬due .patrol → exec (.patrolExpiry d) s = .next s)

/-! ### The probe (R107, R113 to R128) -/

/-- R115, R116, R124, R125, R133: the ends of SENSE and PRECHARGE. A failed check fails the probe, a waiting probe
pauses, a FULL probe enters RAMP, and a look passes. That policy DARK, which R24 keeps from a look that passes, goes
with SUPERVISED and MANUAL in the last arm is the model's choice (log entry 18). -/
def Obligations.SenseAndPrechargeEnds : Prop :=
  ∀ (s : State) (c : ChannelId) (p : Probe), s.channel c = some p → p.pause = none →
    let d := p.district
    let becomes := fun q => Host.Outcome.next (φ := Fault) (ρ := Refusal) (s.setChannel c (some q))
    let failed := fun cause => Host.Outcome.next (φ := Fault) (ρ := Refusal) (arbitrate s (failProbe c p cause s))
    (p.stage = .sense → 8 ≤ p.elapsed →
      exec (.senseEnd c) s = if (s.monitor d).voltage then failed .backfeed
        else becomes { p with stage := .precharge, elapsed := 0 }) ∧
    (p.stage = .precharge → 4 * p.profile.preTime ≤ p.elapsed →
      let mean := (s.monitor d).history.toList.sum / 8
      let resumePoint : ResumePoint := match p.kind with
        | .full => .ramp p.entryStep
        | .look => .lookPass
      (p.profile.preLimit < mean → exec (.prechargeEnd c) s = failed .shortPersists) ∧
      (mean ≤ p.profile.preLimit → waits s p.feed c = true →
        exec (.prechargeEnd c) s = becomes { p with elapsed := 0, pause := some ⟨.sibling, resumePoint⟩ }) ∧
      (mean ≤ p.profile.preLimit → waits s p.feed c = false → p.kind = .full →
        exec (.prechargeEnd c) s = .next
          ((s.setChannel c (some { p with stage := .ramp p.entryStep, elapsed := 0, entryStep := 1 })).setMonitor d
            { s.monitor d with integrator := 0 })) ∧
      (mean ≤ p.profile.preLimit → waits s p.feed c = false → p.kind = .look →
        let e := endProbe c s
        let passed := fun x => e.setDistrict d
          { e.district d with st := x, failures := (s.dcfg d).lockoutLimit - 1 }
        exec (.prechargeEnd c) s = .next (arbitrate s
          (if (s.dcfg d).policy = .auto then
            markDistrict [.locked] d (((passed .queued).setTimer d Timer.empty).setQueue (s.dcfg d).feed
              (queueWith s d .full))
          else markDistrict [.locked, .grant] d
            ((passed .awaitingGrant).setTimer d (loaded .grant s.cfg.globals.grantWindow)))))) ∧
    (stageDue s p = false → exec (.senseEnd c) s = .next s ∧ exec (.prechargeEnd c) s = .next s)

/-- R117, R118, R120, R133: the ends of a RAMP step and of CONFIRM. Absent voltage fails the probe; otherwise the ramp
rises, CONFIRM begins, or the probe succeeds into probation. -/
def Obligations.RampAndConfirmEnds : Prop :=
  ∀ (s : State) (c : ChannelId) (p : Probe), s.channel c = some p → p.pause = none →
    let d := p.district
    let n := p.profile.rampSteps
    let becomes := fun q => Host.Outcome.next (φ := Fault) (ρ := Refusal) (s.setChannel c (some q))
    let failed := Host.Outcome.next (φ := Fault) (ρ := Refusal) (arbitrate s (failProbe c p .noVoltage s))
    (∀ k, p.stage = .ramp k → 4 * p.profile.stepTime ≤ p.elapsed →
      ((s.monitor d).voltage = false → exec (.rampStepEnd c) s = failed) ∧
      ((s.monitor d).voltage = true → waits s p.feed c = true →
        exec (.rampStepEnd c) s = becomes
          { p with elapsed := 0, pause := some ⟨.sibling, if k < n then .ramp (k + 1) else .confirm⟩ }) ∧
      ((s.monitor d).voltage = true → waits s p.feed c = false → k < n →
        exec (.rampStepEnd c) s = becomes { p with stage := .ramp (k + 1), elapsed := 0 }) ∧
      ((s.monitor d).voltage = true → waits s p.feed c = false → n ≤ k →
        exec (.rampStepEnd c) s = .next
          ((s.setChannel c (some { p with stage := .confirm true, elapsed := 0 })).setMonitor d
            { s.monitor d with integrator := 0, confirmSwapUsed := false }))) ∧
    (∀ b, p.stage = .confirm b → 4 * p.profile.confirmTime ≤ p.elapsed → (s.monitor d).window = none →
      ((s.monitor d).voltage = false → exec (.confirmEnd c) s = failed) ∧
      ((s.monitor d).voltage = true →
        let e := endProbe c s
        exec (.confirmEnd c) s = .next (arbitrate s (markDistrict [.recovered] d
          ((e.setDistrict d { e.district d with st := .live, probation := true }).setTimer d
            (loaded .probation s.cfg.globals.probation)))))) ∧
    (stageDue s p = false → exec (.rampStepEnd c) s = .next s ∧ exec (.confirmEnd c) s = .next s)

/-- R39, R107, R121 to R123, R126, R128: what every end of a probe does, what a failure does to the district of a FULL
probe and of a look, and what a lifetime expiry does. R122 says that F rises by one; that F is held at the lockout
limit, in states that the law of R4 shuts out, is the model's choice (log entry 17). -/
def Obligations.EndsAndFailuresOfProbes : Prop :=
  ∀ (s : State) (c : ChannelId) (p : Probe) (cause : FailCause), s.channel c = some p →
    let d := p.district
    let m := s.monitor d
    let e := endProbe c s
    let r := e.district d
    let k := s.dcfg d
    e = (((s.setEpisode p.feed ((s.episode p.feed).map (fun x =>
        { x with waiting := x.waiting &&& ~~~(BitVec.twoPow 4 c.val) }))).setMonitor d
          { m with window := none, integrator := 0 }).setDistrict d { s.district d with
            polarity := match m.window with
              | some w => w.before
              | none => (s.district d).polarity }).setChannel c none ∧
    (p.kind = .full →
      let f := min k.lockoutLimit ((s.district d).failures + 1)
      let becomes := fun x => e.setDistrict d { r with st := x, failures := f, lastFail := some cause }
      let locked := fun why => markDistrict [.failed, .locked] d ((becomes (.locked why .noLook)).setTimer d
        (if k.patrol = true ∧ isolationSet s d = false ∧ s.mode = .run then
          loaded .patrol s.cfg.globals.patrol else Timer.empty))
      failProbe c p cause s =
        (if k.lockoutLimit ≤ f then locked .limit
         else if k.policy = .manual then locked .manualPolicy
         else if episodeMember s d then
           markDistrict [.failed] d ((becomes (.cooling .merging)).setTimer d Timer.empty)
         else markDistrict [.failed] d ((becomes (.cooling .counting)).setTimer d
           (loaded .cool (min s.cfg.globals.ceiling (s.cfg.globals.base * 2 ^ f))))) ∧
      exec (.probeLifetimeExpiry c) s = .next (arbitrate s (markDistrict [.failed] d
        ((e.setDistrict d { r with st := .queued, lastFail := some .lifetime }).setQueue k.feed
          (queueWith s d .full))))) ∧
    (p.kind = .look → ∀ why look, (s.district d).st = .locked why look →
      failProbe c p cause s = markDistrict [.failed] d
        (e.setDistrict d { r with st := .locked why .noLook, lastFail := some cause }) ∧
      exec (.probeLifetimeExpiry c) s = .next (arbitrate s (markDistrict [.failed] d
        (e.setDistrict d { r with st := .locked why .noLook, lastFail := some .lifetime }))))

/-! ### Joints (R146 to R153) -/

/-- R148 to R151: the joint events that are due. Changes between OPEN, DOCKING and FAULT leave every district alone;
the others take one recompute of isolation. R153, R14 to R20, R141: the recompute takes the districts whose sets differ
in ascending number, each with its own onset, release or change within the set. -/
def Obligations.JointEvents : Prop :=
  (∀ before after : State, isolationChange before after =
    allDistricts.foldl (fun t d =>
      let r := t.district d
      let f := (t.dcfg d).feed
      let becomes := fun (x : DistrictState) => t.setDistrict d { r with st := x }
      let left := (t.queue f).filter (fun e => e.district != d)
      let ended := match channelOf t d with
        | some c => endProbe c t
        | none => t
      let opened : State := match r.st with
        | .live =>
          let u := (t.setMonitor d { t.monitor d with window := none, integrator := 0 }).setDistrict d
            { r with st := .isolated .queued, probation := false, polarity := match (t.monitor d).window with
              | some w => w.before
              | none => r.polarity }
          if r.probation then u.setTimer d Timer.empty else u
        | .cooling .counting =>
          (becomes (.isolated .coolRetained)).setTimer d { t.timer d with running := false, boundary := false }
        | .cooling .merging => becomes (.isolated .coolPending)
        | .queued => (becomes (.isolated .queued)).setQueue f left
        | .awaitingGrant => (becomes (.isolated .awaitingGrant)).setTimer d Timer.empty
        | .probing => ended.setDistrict d { ended.district d with st := .isolated .queued }
        | .locked _ .noLook => t.setTimer d Timer.empty
        | .locked cause .queued => ((becomes (.locked cause .noLook)).setTimer d Timer.empty).setQueue f left
        | .locked cause .inFlight =>
          (ended.setDistrict d { ended.district d with st := .locked cause .noLook }).setTimer d Timer.empty
        | .off | .isolated _ => t
      let freed : State := match r.st with
        | .isolated .coolRetained => (becomes (.cooling .counting)).setTimer d (loaded .cool (t.timer d).count)
        | .isolated .coolPending => becomes (.cooling .merging)
        | .isolated .queued => (becomes .queued).setQueue f (queueWith t d .full)
        | .isolated .awaitingGrant =>
          (becomes .awaitingGrant).setTimer d (loaded .grant t.cfg.globals.grantWindow)
        | .locked _ _ =>
          if (t.dcfg d).patrol = true ∧ t.mode = .run then t.setTimer d (loaded .patrol t.cfg.globals.patrol) else t
        | _ => t
      let held := fun (x : State) => (x.district d).holders ≠ 0#6 ∨ jointPart x d ≠ 0#8
      if (before.district d).holders = (after.district d).holders ∧ jointPart before d = jointPart after d then t
      else markDistrict [.isolation] d
        (if held before then if held after then t else freed else if held after then opened else t)) after) ∧
  ∀ (s : State) (j : JointId),
    let x := s.joint j
    let k := s.jcfg j
    let alone := fun y => Host.Outcome.next (φ := Fault) (ρ := Refusal) (markJoint j (s.setJoint j y))
    let recomputed := fun y => Host.Outcome.next (φ := Fault) (ρ := Refusal)
      (arbitrate s (isolationChange s (markJoint j (s.setJoint j y))))
    let full := k.debounce.samples ≤ x.filterRun
    let change := fun y => { y with input := !x.input, filterRun := 0 }
    let ranOut := fun (t : Option JointTimer) => ∃ w, t = some w ∧ w.ended = true
    (x.decided = false → full →
      (x.lastShown = true → exec (.jointFirstDecision j) s =
        recomputed { x with st := .coupled, decided := true, input := true, filterRun := 0 }) ∧
      (x.lastShown = false → exec (.jointFirstDecision j) s =
        alone { x with decided := true, input := false, filterRun := 0 })) ∧
    (x.decided = true → full →
      (x.st = .coupled → x.input = true → exec (.debouncedInputChange j) s =
        recomputed (change { x with st := .opened })) ∧
      (x.st = .opened → x.input = false → exec (.debouncedInputChange j) s = alone (change
        { x with st := .docking, settle := some { remaining := k.settle.samples, ended := false },
                 docking := some (x.docking.getD { remaining := k.docking.samples, ended := false }) })) ∧
      (x.st = .docking → x.input = true → exec (.debouncedInputChange j) s =
        alone (change { x with st := .opened, settle := none })) ∧
      (x.st = .fault → exec (.debouncedInputChange j) s = alone (change x))) ∧
    (x.st = .docking → ranOut x.settle → exec (.settleExpiry j) s =
      recomputed { x with st := .coupled, settle := none, docking := none }) ∧
    (x.st = .opened ∨ x.st = .docking → ranOut x.docking → exec (.dockingExpiry j) s =
      alone { x with st := .fault, settle := none, docking := none }) ∧
    (¬full → exec (.jointFirstDecision j) s = .next s ∧ exec (.debouncedInputChange j) s = .next s) ∧
    (¬ranOut x.settle → exec (.settleExpiry j) s = .next s) ∧
    (¬ranOut x.docking → exec (.dockingExpiry j) s = .next s)

/-- R47, R48, R147, R148, R152: a sample of a stall or sense line, with nothing due of the sample before, counts the
filter run and advances the joint's timers. -/
def Obligations.LineSamplesCount : Prop :=
  ∀ (s : State) (f : FeedId) (j : JointId) (high : Bool),
    (let x := s.feed f
     let shown := high == (s.fcfg f).stallHigh
     x.filterRun < (s.fcfg f).stallFilter.samples →
      exec (.stallLineSample f high) s = .next (s.setFeed f { x with
        lastShown := shown
        filterRun :=
          if x.decided then (if shown = x.stalled then 0 else x.filterRun + 1)
          else if x.filterRun = 0 ∨ shown = x.lastShown then x.filterRun + 1 else 1 })) ∧
    (let x := s.joint j
     let shown := high == (s.jcfg j).coupledHigh
     let step := fun (t : JointTimer) =>
      if t.remaining ≤ 1 then { t with ended := true } else { t with remaining := t.remaining - 1 }
     x.filterRun < (s.jcfg j).debounce.samples →
     (∀ t, x.settle = some t → t.ended = false) → (∀ t, x.docking = some t → t.ended = false) →
      exec (.jointSenseSample j high) s = .next (s.setJoint j { x with
        lastShown := shown
        filterRun :=
          if x.decided then (if shown = x.input then 0 else x.filterRun + 1)
          else if x.filterRun = 0 ∨ shown = x.lastShown then x.filterRun + 1 else 1
        settle := x.settle.map step
        docking := x.docking.map step }))

/-! ### Stalls, sheds and episodes (R48 to R76) -/

/-- R49 to R51, R66, R138: a stall assertion pauses every probe of the feed, ends detection of its LIVE districts
outside a swap window, sets the episode's stall flag, and starts the shed timer in RUN. With a shed delay of 0 the shed
follows at once, as it would follow a delay that has run out. -/
def Obligations.StallAssertionPausesTheFeed : Prop :=
  ∀ (s : State) (f : FeedId), RecoverySound s → assertionDue s f = true →
    (s.mode = .run → (s.fcfg f).shedDelay = 0 → ∃ t w,
      exec (.stallAssertion f) (s.setFcfg f { s.fcfg f with shedDelay := 1 }) = .next t ∧
      exec (.shed f) t = .next w ∧ exec (.stallAssertion f) s = .next (w.setFcfg f (s.fcfg f))) ∧
    ((s.mode = .run → (s.fcfg f).shedDelay ≠ 0) → ∃ t, exec (.stallAssertion f) s = .next t ∧
    (∀ g, t.feed g = if g = f then
      { s.feed f with
        stalled := true, filterRun := 0,
        phase := if s.mode = .run then .pending (4 * (s.fcfg f).shedDelay) else (s.feed f).phase } else s.feed g) ∧
    (∀ c p, s.channel c = some p →
      let steps := p.profile.rampSteps
      let resumePoint : ResumePoint :=
        match p.pause, p.stage with
        | some ⟨.sibling, .confirm⟩, _ => .precharge steps
        | some ⟨.sibling, .ramp next⟩, .ramp _ => .precharge next
        | _, .sense => .sense
        | _, .precharge => .precharge p.entryStep
        | _, .ramp k => .precharge k
        | _, .confirm _ => .precharge steps
      t.channel c = some (if p.feed = f ∧ stallPaused p = false then
        { p with pause := some ⟨.stall, resumePoint⟩, elapsed := 0 } else p)) ∧
    (∀ c, s.channel c = none → t.channel c = none) ∧
    (∀ g, t.episode g = if g = f then
      (s.episode f).map (fun e => { e with stallFlag := true, waiting := 0#4 }) else s.episode g) ∧
    (∀ d,
      let paused := ∃ c p, s.channel c = some p ∧ p.district = d ∧ p.feed = f ∧ stallPaused p = false
      let quiet := (s.dcfg d).feed = f ∧ (s.district d).st = .live ∧ (s.monitor d).window = none
      (paused → t.monitor d = { s.monitor d with window := none, integrator := 0 } ∧
        t.district d = { s.district d with polarity := match (s.monitor d).window with
          | some w => w.before
          | none => (s.district d).polarity }) ∧
      (quiet → t.monitor d = { s.monitor d with integrator := 0 } ∧ t.district d = s.district d) ∧
      (¬paused → ¬quiet → t.monitor d = s.monitor d ∧ t.district d = s.district d)) ∧
    (∀ n, t.slot n = (markFeed f s).slot n) ∧
    { t with feeds := s.feeds, channels := s.channels, episodes := s.episodes, monitors := s.monitors,
             districts := s.districts, slots := s.slots } = s)

/-- R48, R52, R53, R139: a stall clear, or a first decision of CLEAR, ends a pending shed, restarts detection from an
integrator of 0, resumes the probes of the feed, and makes the Arbiter look; a first decision of STALLED changes no
state. -/
def Obligations.StallClearResumesTheFeed : Prop :=
  ∀ (s : State) (f : FeedId), (s.feed f).stalled = true → filterFull s f = true →
    let cleared := fun (i : Instr) (x : Feed) => ∃ u, exec i s = .next (arbiterLook u) ∧
      (∀ g, u.feed g = if g = f then x else s.feed g) ∧
      (∀ c p, s.channel c = some p → u.channel c = some
        (match p.pause with
          | some ⟨.stall, .sense⟩ =>
            if p.feed = f then { p with stage := .sense, entryStep := 1, elapsed := 0, pause := none } else p
          | some ⟨.stall, .precharge k⟩ =>
            if p.feed = f then { p with stage := .precharge, entryStep := k, elapsed := 0, pause := none } else p
          | some ⟨.stall, r⟩ => if p.feed = f then resumedAt r p else p
          | _ => p)) ∧
      (∀ c, s.channel c = none → u.channel c = none) ∧
      (∀ d, u.monitor d =
        if (s.dcfg d).feed = f ∧ (s.district d).st = .live ∧ (s.monitor d).window = none then
          { s.monitor d with integrator := 0 } else s.monitor d) ∧
      (∀ n, u.slot n = (markFeed f s).slot n) ∧
      { u with feeds := s.feeds, channels := s.channels, monitors := s.monitors, slots := s.slots } = s
    ((s.feed f).decided = true → (s.feed f).phase ≠ .shed →
      cleared (.stallClear f) { s.feed f with stalled := false, filterRun := 0, phase := .idle }) ∧
    ((s.feed f).decided = true → (s.feed f).phase = .shed →
      let u := (closeEpisode f .stallClear (s.setFeed f { s.feed f with stalled := false, filterRun := 0 })).setFeed
        f { s.feed f with stalled := false, filterRun := 0, phase := .idle }
      exec (.stallClear f) s = .next (arbiterLook
        (forChannels (stallContinue f) (clearLiveIntegrators f (markFeed f u))))) ∧
    ((s.feed f).decided = false → (s.feed f).lastShown = false → (s.feed f).phase = .idle →
      cleared (.feedFirstDecision f) { s.feed f with stalled := false, decided := true, filterRun := 0 }) ∧
    ((s.feed f).decided = false → (s.feed f).lastShown = true →
      exec (.feedFirstDecision f) s =
        .next (markFeed f (s.setFeed f { s.feed f with decided := true, filterRun := 0 })))

/-- R54 to R56, R61, R67: the shed takes every LIVE district and every probe of the feed, and opens its episode with
the members in the order of the rule. -/
def Obligations.ShedTakesTheFeed : Prop :=
  ∀ (s : State) (f : FeedId), RecoverySound s → shedPending s f = true → ∃ u,
    exec (.shed f) s = .next (arbitrate s u) ∧
    let live := allDistricts.filter (fun d => (s.dcfg d).feed == f && (s.district d).st == .live)
    let probed := allChannels.filterMap (fun c => match s.channel c with
      | some p => if p.feed = f ∧ p.kind = .full then some p.district else none
      | none => none)
    let looked := allChannels.filterMap (fun c => match s.channel c with
      | some p => if p.feed = f ∧ p.kind = .look then some p.district else none
      | none => none)
    let folded := match s.episode f with
      | some e => e.members
      | none => []
    let members := (live ++ probed).foldl (fun ms d => if ms.contains d then ms else ms ++ [d]) folded
    (∀ g, u.episode g = if g = f then
      if members = [] then none else some { members := members, kind := .shed, stallFlag := true, waiting := 0#4 }
      else s.episode g) ∧
    (∀ g, u.feed g = if g = f then { s.feed f with phase := .shed } else s.feed g) ∧
    (∀ c, u.channel c = match s.channel c with
      | some p => if p.feed = f then none else some p
      | none => none) ∧
    (∀ d, u.timer d = if d ∈ live ++ probed then Timer.empty else s.timer d) ∧
    (∀ d, d ∈ live ++ probed → u.district d =
      { s.district d with
        st := .cooling .merging
        probation := if d ∈ live then false else (s.district d).probation
        polarity := match (s.monitor d).window with
          | some w => w.before
          | none => (s.district d).polarity }) ∧
    (∀ d cause, d ∈ looked → (s.district d).st = .locked cause .inFlight →
      u.district d = { s.district d with
        st := .locked cause .noLook
        polarity := match (s.monitor d).window with
          | some w => w.before
          | none => (s.district d).polarity }) ∧
    (∀ d, d ∉ live ++ probed ++ looked → u.district d = s.district d ∧ u.monitor d = s.monitor d) ∧
    (∀ d, d ∈ live ++ probed ++ looked →
      u.monitor d = { s.monitor d with window := none, integrator := 0 }) ∧
    (∀ n, u.slot n = (s.slot n).map (fun x => { x with
      changedDistricts := if x.subscription.getLsbD 0 then
        (live ++ probed).foldl (fun ds d => ds ||| BitVec.twoPow 16 d.val) x.changedDistricts else x.changedDistricts
      changedFeeds := if x.feedEnable then x.changedFeeds ||| BitVec.twoPow 4 f.val else x.changedFeeds })) ∧
    { u with episodes := s.episodes, feeds := s.feeds, channels := s.channels, timers := s.timers,
             districts := s.districts, monitors := s.monitors, slots := s.slots } = s

/-- R62, R67, R69 to R76: the close of an episode on which no probe waits, by its window, its cap or a stall clear.
LOCAL gives each member that receives a count its backoff; MASS gives M and a stagger by the close order. -/
def Obligations.EpisodeClosesGiveCounts : Prop :=
  ∀ (s : State) (f : FeedId) (e : Episode) (cause : CloseCause), s.episode f = some e → e.waiting = 0#4 →
    e.members.Nodup →
    let t := closeEpisode f cause s
    (closeDue s f = some .window → cause = .window →
      exec (.episodeWindowExpiry f) s = .next t ∧ exec (.episodeCapExpiry f) s = .next s) ∧
    (closeDue s f = some .cap → cause = .cap →
      exec (.episodeCapExpiry f) s = .next t ∧ exec (.episodeWindowExpiry f) s = .next s) ∧
    let mass := e.kind = .shed ∨ e.stallFlag = true ∨ (s.fcfg f).massThreshold ≤ e.members.length
    let order := (([0, 1, 2, 3] : List (Fin 4)).flatMap (fun p =>
      e.members.filter (fun d => (s.dcfg d).priority == p))).filter (receivesCount s)
    let count := fun d => if mass then min 65535 ((s.fcfg f).massCool + order.idxOf d * (s.fcfg f).stagger)
      else min s.cfg.globals.ceiling (s.cfg.globals.base * 2 ^ (s.district d).failures)
    (∀ g, t.episode g = if g = f then none else s.episode g) ∧
    (∀ g, t.summary g = if g = f then
      { cls := some (if mass then .massClass else .localClass), count := e.members.length, cause := some cause }
      else s.summary g) ∧
    (∀ d, t.district d = if d ∈ e.members then
      { s.district d with st := match (s.district d).st with
        | .cooling .merging => .cooling .counting
        | .isolated .coolPending => .isolated .coolRetained
        | x => x } else s.district d) ∧
    (∀ d, t.timer d = if d ∈ e.members then
      match (s.district d).st with
        | .cooling .merging => loaded .cool (count d)
        | .isolated .coolPending => { loaded .cool (count d) with running := false }
        | _ => s.timer d else s.timer d) ∧
    (∀ n, t.slot n = if mass then (markFeed f s).slot n else s.slot n) ∧
    { t with episodes := s.episodes, summaries := s.summaries, districts := s.districts, timers := s.timers,
             slots := s.slots } = s

/-- R70, R71, R135, R136: the close takes the waiting probes by its class, in ascending channel number, before it
gives counts. LOCAL: a running probe runs on, a paused one resumes, a paused look passes; MASS: the probe ends, and a
FULL probe's district is COOLING and a member of the episode. That policy DARK, which R24 keeps from a look that passes,
goes with SUPERVISED and MANUAL is the model's choice (log entry 18). -/
def Obligations.WaitingProbesTakeTheClass : Prop :=
  ∀ (s : State) (f : FeedId) (e : Episode), s.episode f = some e →
    (∀ (cls : EpisodeClass), resolveWaiting f cls e.waiting s =
      ([0, 1, 2, 3] : List ChannelId).foldl (fun s b => if e.waiting.getLsbD b.val = false then s else
        match cls with
        | .localClass => localResume f b s
        | .massClass => abandonProbe f b s) s) ∧
    ((∀ c : ChannelId, e.waiting.getLsbD c.val = true → ∃ p, s.channel c = some p ∧ p.feed = f) →
      let cls : EpisodeClass :=
        if e.stallFlag = true ∨ (s.fcfg f).massThreshold ≤ e.members.length then .massClass else .localClass
      let t := fun cause => arbitrate s (closeEpisode f cause (resolveWaiting f cls e.waiting s))
      (closeDue s f = some .window → exec (.episodeWindowExpiry f) s = .next (t .window)) ∧
      (closeDue s f = some .cap → exec (.episodeCapExpiry f) s = .next (t .cap))) ∧
    ∀ (c : ChannelId) (p : Probe), s.channel c = some p → p.feed = f →
      let d := p.district
      let k := s.dcfg d
      let ended := endProbe c s
      let free := s.setEpisode f (some { e with waiting := e.waiting &&& ~~~(BitVec.twoPow 4 c.val) })
      (p.pause = none → localResume f c s = free) ∧
      (∀ j, p.pause = some ⟨.sibling, .ramp j⟩ → p.stage = .precharge →
        localResume f c s = (free.setChannel c (some
          { p with stage := .ramp j, elapsed := 0, pause := none, entryStep := 1 })).setMonitor d
          { s.monitor d with integrator := 0 }) ∧
      (∀ j i, p.pause = some ⟨.sibling, .ramp j⟩ → p.stage = .ramp i →
        localResume f c s = free.setChannel c (some { p with stage := .ramp j, elapsed := 0, pause := none })) ∧
      (p.pause = some ⟨.sibling, .confirm⟩ →
        localResume f c s = (free.setChannel c (some
          { p with stage := .confirm true, elapsed := 0, pause := none })).setMonitor d
          { s.monitor d with integrator := 0, confirmSwapUsed := false }) ∧
      (p.pause = some ⟨.sibling, .lookPass⟩ →
        let passed := fun x => ended.setDistrict d { ended.district d with st := x, failures := k.lockoutLimit - 1 }
        localResume f c s = if k.policy = .auto then
          markDistrict [.locked] d (((passed .queued).setTimer d Timer.empty).setQueue k.feed (queueWith s d .full))
        else markDistrict [.locked, .grant] d
          ((passed .awaitingGrant).setTimer d (loaded .grant s.cfg.globals.grantWindow))) ∧
      (p.kind = .full → (s.monitor d).window = none →
        abandonProbe f c s = markDistrict [.trip] d
          (((((s.setEpisode f (some { e with
            waiting := e.waiting &&& ~~~(BitVec.twoPow 4 c.val)
            members := if e.members.contains d then e.members else e.members ++ [d] })).setMonitor d
              { s.monitor d with integrator := 0 }).setDistrict d
                { s.district d with st := .cooling .merging }).setTimer d Timer.empty).setChannel c none)) ∧
      (∀ cause look, p.kind = .look → (s.district d).st = .locked cause look →
        abandonProbe f c s = ended.setDistrict d { ended.district d with st := .locked cause .noLook })

/-! ### Samples, trips and swaps (R27 to R44, R62) -/

/-- R27 to R32, R35 to R37, R41 to R43, R63, R64: a sample of a district in no channel, with nothing due of the sample
before. With detection inactive it is recorded alone; otherwise the integrator moves, or the trip becomes a swap, the
failure of a swap window, or a trip report. Two things are the model's choices, in cases that the spec shuts out: a
report joins an open shed episode without a window or waiting probes (R56, R64; log entry 18), and F is held at the
lockout limit (R4; log entry 17). -/
def Obligations.SamplesOutsideProbes : Prop :=
  ∀ (s : State) (d : DistrictId) (units : Nat) (voltage : Bool),
    swapSuccessDue s d = false → channelOf s d = none →
    (s.sampled.getLsbD d.val = true → ∀ f, closeDue s f = none) →
    let b := recorded s d units voltage
    let m := b.monitor d
    let r := s.district d
    let k := s.dcfg d
    let sampled := exec (.currentSample d units voltage) s
    let less := fun (w : SwapWindow) =>
      if w.remaining ≤ 1 then { w with ended := true } else { w with remaining := w.remaining - 1 }
    let hit := trippedBy k m.integrator (min 1000 units) k.allowance
    let counted := integrated k m.integrator (min 1000 units)
    let report := fun (cause : TripCause) (polarity : Polarity) =>
      let failures := if r.probation then min k.lockoutLimit (r.failures + 1) else r.failures
      let x : DistrictState := if k.policy = .manual then .locked .manualPolicy .noLook
        else if k.lockoutLimit ≤ failures then .locked .limit .noLook else .cooling .merging
      let window := (s.fcfg k.feed).mergeWindow.samples
      let siblings := siblingProbes s k.feed
      (markDistrict (if isLocked x then [.trip, .locked] else [.trip]) d
        (((b.setMonitor d { m with integrator := 0, window := none }).setDistrict d
          { r with st := x, failures := failures, probation := false, trips := min 65535 (r.trips + 1),
                   lastTrip := some cause, polarity := polarity }).setTimer d
          (if isLocked x = true ∧ k.patrol = true ∧ isolationSet s d = false ∧ s.mode = .run then
            loaded .patrol s.cfg.globals.patrol else Timer.empty))).setEpisode k.feed (some
        (match b.episode k.feed with
          | none =>
            { members := [d], stallFlag := (s.feed k.feed).stalled, waiting := siblings,
              kind := .ordinary { remaining := window, opening := window, total := 0, out := false } }
          | some e =>
            { e with
              members := if e.members.contains d then e.members else e.members ++ [d]
              kind := match e.kind with
                | .ordinary w => .ordinary { w with remaining := window, out := false }
                | .shed => .shed
              waiting := match e.kind with
                | .ordinary _ => e.waiting ||| siblings
                | .shed => e.waiting }))
    (detection s d = none → sampled = .next b) ∧
    (detection s d = if m.window.isSome = true ∨ (r.st = .live ∧ (s.feed k.feed).stalled = false) then
      some k.allowance else none) ∧
    (r.st = .live → m.window = none → (s.feed k.feed).stalled = false →
      (hit = none → sampled = .next (b.setMonitor d { m with integrator := counted })) ∧
      (∀ cause, hit = some cause → k.reversing = true → sampled = .next
        ((b.setMonitor d
          { m with integrator := 0, window := some ⟨k.swapWindow, r.polarity, .live, false⟩ }).setDistrict d
            { r with polarity := if r.polarity = .normal then .swapped else .normal })) ∧
      (∀ cause, hit = some cause → k.reversing = false → sampled = .next (report cause r.polarity))) ∧
    (∀ w, r.st = .live → m.window = some w →
      (hit = none → sampled = .next (b.setMonitor d { m with integrator := counted, window := some (less w) })) ∧
      (∀ cause, hit = some cause → sampled = .next (report .reversalFailed w.before))) ∧
    (∀ (f : FeedId) (c : ChannelId), (siblingProbes s f).getLsbD c.val = true ↔
      ∃ p, s.channel c = some p ∧ p.feed = f ∧
        ((p.pause = none ∧ p.stage.isConfirm = false) ∨ ∃ x, p.pause = some ⟨.sibling, x⟩))

/-- R27, R28, R34, R40, R44, R114, R117 to R119, R134: a sample of a district in a channel, with nothing due of the
sample before: it counts towards the stage, CONFIRM makes its start check, and a trip fails the probe or starts the
one swap of CONFIRM. -/
def Obligations.SamplesInProbes : Prop :=
  ∀ (s : State) (d : DistrictId) (units : Nat) (voltage : Bool) (c : ChannelId) (p : Probe),
    RecoverySound s → s.channel c = some p → p.district = d → stageDue s p = false →
    swapSuccessDue s d = false → (s.sampled.getLsbD d.val = true → ∀ f, closeDue s f = none) →
    let b := recorded s d units voltage
    let m := b.monitor d
    let r := s.district d
    let k := s.dcfg d
    let sampled := exec (.currentSample d units voltage) s
    let less := fun (w : SwapWindow) =>
      if w.remaining ≤ 1 then { w with ended := true } else { w with remaining := w.remaining - 1 }
    let hit := trippedBy k m.integrator (min 1000 units)
    let counted := integrated k m.integrator (min 1000 units)
    let going := { p with elapsed := p.elapsed + 1 }
    let failed := fun (why : FailCause) (u : State) => Host.Outcome.next (φ := Fault) (ρ := Refusal)
      (arbitrate s (failProbe c p why u))
    let tripped := fun (cause : TripCause) =>
      (b.setMonitor d { m with integrator := 0, window := none }).setDistrict d
        { r with lastTrip := some cause, polarity := match m.window with
          | some w => w.before
          | none => r.polarity }
    (detection s d =
      if m.window.isSome then some k.allowance
      else match p.pause.map Pause.cause, p.stage with
        | some .sibling, _ => some p.profile.allowance
        | none, .ramp _ => some p.profile.allowance
        | none, .confirm _ => some k.allowance
        | _, _ => none) ∧
    (p.pause = none → p.stage = .sense ∨ p.stage = .precharge → m.window = none →
      sampled = .next (b.setChannel c (some going))) ∧
    (∀ step, p.pause = none → p.stage = .ramp step → m.window = none →
      (hit p.profile.allowance = none →
        sampled = .next ((b.setMonitor d { m with integrator := counted }).setChannel c (some going))) ∧
      (∀ cause, hit p.profile.allowance = some cause → sampled = failed .rampTrip (tripped cause))) ∧
    (∀ pending, p.pause = none → p.stage = .confirm pending →
      let passed := b.setMonitor d { m with integrator := counted }
      (hit k.allowance = none → m.window = none → voltage = true ∨ pending = false →
        sampled = .next (passed.setChannel c (some { going with stage := .confirm false }))) ∧
      (hit k.allowance = none → m.window = none → voltage = false → pending = true →
        sampled = failed .noVoltage (passed.setChannel c (some going))) ∧
      (∀ w, hit k.allowance = none → m.window = some w → sampled = .next ((b.setMonitor d
        { m with integrator := counted, window := some (less w) }).setChannel c (some going))) ∧
      (∀ cause, hit k.allowance = some cause → m.window = none → k.reversing = true →
        m.confirmSwapUsed = false → sampled = .next (((b.setMonitor d
          { m with integrator := 0, confirmSwapUsed := true,
                   window := some ⟨k.swapWindow, r.polarity, .confirm, false⟩ }).setDistrict d
          { r with polarity := if r.polarity = .normal then .swapped else .normal }).setChannel c (some going))) ∧
      (∀ cause, hit k.allowance = some cause → m.window = none →
        k.reversing = false ∨ m.confirmSwapUsed = true → sampled = failed .confirmTrip (tripped cause)) ∧
      (∀ cause, hit k.allowance = some cause → m.window.isSome →
        sampled = failed .confirmTrip (tripped .reversalFailed))) ∧
    (∀ x, p.pause = some ⟨.sibling, x⟩ → p.stage.isConfirm = false → m.window = none →
      (hit p.profile.allowance = none → sampled = .next (b.setMonitor d { m with integrator := counted })) ∧
      (∀ cause, hit p.profile.allowance = some cause → sampled =
        failed (if p.kind = .look then .shortPersists else .rampTrip) (tripped cause))) ∧
    (∀ x, p.pause = some ⟨.stall, x⟩ → m.window = none → sampled = .next b)

/-- R38, R36, R118: the success of a swap window removes it, counts and marks the swap, presets a probation, keeps the
integrator while detection is active, and takes an end of CONFIRM that the window held. -/
def Obligations.SwapWindowSucceeds : Prop :=
  ∀ (s : State) (d : DistrictId) (w : SwapWindow), (s.monitor d).window = some w →
    let m := s.monitor d
    let r := s.district d
    let ended := fun (integrator : Nat) (t : Timer) => markDistrict [.reversal] d
      (((s.setMonitor d { m with window := none, integrator := integrator }).setDistrict d
        { r with swaps := min 255 (r.swaps + 1) }).setTimer d t)
    (w.ended = false → exec (.swapWindowSuccess d) s = .next s) ∧
    (w.ended = true → r.st = .live → channelOf s d = none →
      exec (.swapWindowSuccess d) s = .next (ended
        (if (s.feed (s.dcfg d).feed).stalled then 0 else m.integrator)
        (if r.probation then loaded .probation s.cfg.globals.probation else s.timer d))) ∧
    (∀ c p, w.ended = true → r.st = .probing → r.probation = false → channelOf s d = some c →
      s.channel c = some p → p.pause = none → p.stage = .confirm false →
      let u := ended m.integrator (s.timer d)
      (p.elapsed < 4 * p.profile.confirmTime → exec (.swapWindowSuccess d) s = .next u) ∧
      (4 * p.profile.confirmTime ≤ p.elapsed → exec (.swapWindowSuccess d) s =
        .next (arbitrate s (if m.voltage then succeed c d u else failProbe c p .noVoltage u)))) ∧
    (∀ c p, w.ended = true → r.st = .probing → r.probation = false → channelOf s d = some c →
      s.channel c = some p → p.pause = none → p.stage = .confirm true →
      let u := ended m.integrator (s.timer d)
      let checked := u.setChannel c (some { p with stage := .confirm false })
      (m.voltage = false →
        exec (.swapWindowSuccess d) s = .next (arbitrate s (failProbe c p .noVoltage u))) ∧
      (m.voltage = true → p.elapsed < 4 * p.profile.confirmTime →
        exec (.swapWindowSuccess d) s = .next checked) ∧
      (m.voltage = true → 4 * p.profile.confirmTime ≤ p.elapsed →
        exec (.swapWindowSuccess d) s = .next (arbitrate s (succeed c d checked))))
end

