-- ==== Sys2Proof/Laws/State.lean ====
section
/-! SUPPORT. The lemmas of the named updates of State: what each leaves in every field, and what each record reads
afterwards. -/

namespace Sys2Proof.Machine

namespace State

variable (s : State)

/-! ### setDistrict -/

@[simp] theorem setDistrict_pending (d : DistrictId) (x : District) : (s.setDistrict d x).pending = s.pending := rfl
@[simp] theorem setDistrict_mode (d : DistrictId) (x : District) : (s.setDistrict d x).mode = s.mode := rfl
@[simp] theorem setDistrict_lineAddress (d : DistrictId) (x : District) : (s.setDistrict d x).lineAddress = s.lineAddress := rfl
@[simp] theorem setDistrict_cfg (d : DistrictId) (x : District) : (s.setDistrict d x).cfg = s.cfg := rfl
@[simp] theorem setDistrict_monitors (d : DistrictId) (x : District) : (s.setDistrict d x).monitors = s.monitors := rfl
@[simp] theorem setDistrict_timers (d : DistrictId) (x : District) : (s.setDistrict d x).timers = s.timers := rfl
@[simp] theorem setDistrict_prescaler (d : DistrictId) (x : District) : (s.setDistrict d x).prescaler = s.prescaler := rfl
@[simp] theorem setDistrict_quarter (d : DistrictId) (x : District) : (s.setDistrict d x).quarter = s.quarter := rfl
@[simp] theorem setDistrict_sampled (d : DistrictId) (x : District) : (s.setDistrict d x).sampled = s.sampled := rfl
@[simp] theorem setDistrict_feeds (d : DistrictId) (x : District) : (s.setDistrict d x).feeds = s.feeds := rfl
@[simp] theorem setDistrict_episodes (d : DistrictId) (x : District) : (s.setDistrict d x).episodes = s.episodes := rfl
@[simp] theorem setDistrict_summaries (d : DistrictId) (x : District) : (s.setDistrict d x).summaries = s.summaries := rfl
@[simp] theorem setDistrict_queues (d : DistrictId) (x : District) : (s.setDistrict d x).queues = s.queues := rfl
@[simp] theorem setDistrict_channels (d : DistrictId) (x : District) : (s.setDistrict d x).channels = s.channels := rfl
@[simp] theorem setDistrict_lastGranted (d : DistrictId) (x : District) : (s.setDistrict d x).lastGranted = s.lastGranted := rfl
@[simp] theorem setDistrict_joints (d : DistrictId) (x : District) : (s.setDistrict d x).joints = s.joints := rfl
@[simp] theorem setDistrict_slots (d : DistrictId) (x : District) : (s.setDistrict d x).slots = s.slots := rfl
@[simp] theorem setDistrict_line (d : DistrictId) (x : District) : (s.setDistrict d x).line = s.line := rfl
@[simp] theorem setDistrict_image (d : DistrictId) (x : District) : (s.setDistrict d x).image = s.image := rfl
@[simp] theorem setDistrict_profileLost (d : DistrictId) (x : District) : (s.setDistrict d x).profileLost = s.profileLost := rfl
@[simp] theorem setDistrict_writing (d : DistrictId) (x : District) : (s.setDistrict d x).writing = s.writing := rfl
@[simp] theorem setDistrict_districts (d : DistrictId) (x : District) :
    (s.setDistrict d x).districts = s.districts.set d x := rfl
@[simp] theorem setDistrict_dcfg (d : DistrictId) (x : District) (k : DistrictId) :
    (s.setDistrict d x).dcfg k = s.dcfg k := rfl
@[simp] theorem setDistrict_fcfg (d : DistrictId) (x : District) (k : FeedId) :
    (s.setDistrict d x).fcfg k = s.fcfg k := rfl
@[simp] theorem setDistrict_jcfg (d : DistrictId) (x : District) (k : JointId) :
    (s.setDistrict d x).jcfg k = s.jcfg k := rfl
@[simp] theorem setDistrict_monitor (d : DistrictId) (x : District) (k : DistrictId) :
    (s.setDistrict d x).monitor k = s.monitor k := rfl
@[simp] theorem setDistrict_timer (d : DistrictId) (x : District) (k : DistrictId) :
    (s.setDistrict d x).timer k = s.timer k := rfl
@[simp] theorem setDistrict_feed (d : DistrictId) (x : District) (k : FeedId) :
    (s.setDistrict d x).feed k = s.feed k := rfl
@[simp] theorem setDistrict_episode (d : DistrictId) (x : District) (k : FeedId) :
    (s.setDistrict d x).episode k = s.episode k := rfl
@[simp] theorem setDistrict_summary (d : DistrictId) (x : District) (k : FeedId) :
    (s.setDistrict d x).summary k = s.summary k := rfl
@[simp] theorem setDistrict_queue (d : DistrictId) (x : District) (k : FeedId) :
    (s.setDistrict d x).queue k = s.queue k := rfl
@[simp] theorem setDistrict_channel (d : DistrictId) (x : District) (k : ChannelId) :
    (s.setDistrict d x).channel k = s.channel k := rfl
@[simp] theorem setDistrict_joint (d : DistrictId) (x : District) (k : JointId) :
    (s.setDistrict d x).joint k = s.joint k := rfl
@[simp] theorem setDistrict_slot (d : DistrictId) (x : District) (k : SlotId) :
    (s.setDistrict d x).slot k = s.slot k := rfl
theorem setDistrict_district (d k : DistrictId) (x : District) :
    (s.setDistrict d x).district k = if d = k then x else s.district k := by
  simp [setDistrict, district, Vector.getElem_set, Fin.ext_iff]
@[simp] theorem setDistrict_district_self (d : DistrictId) (x : District) : (s.setDistrict d x).district d = x := by
  simp [setDistrict_district]
theorem setDistrict_district_ne {d k : DistrictId} (h : k ≠ d) (x : District) : (s.setDistrict d x).district k = s.district k := by
  simp [setDistrict_district, h.symm]

/-! ### setMonitor -/

@[simp] theorem setMonitor_pending (d : DistrictId) (x : Monitor) : (s.setMonitor d x).pending = s.pending := rfl
@[simp] theorem setMonitor_mode (d : DistrictId) (x : Monitor) : (s.setMonitor d x).mode = s.mode := rfl
@[simp] theorem setMonitor_lineAddress (d : DistrictId) (x : Monitor) : (s.setMonitor d x).lineAddress = s.lineAddress := rfl
@[simp] theorem setMonitor_cfg (d : DistrictId) (x : Monitor) : (s.setMonitor d x).cfg = s.cfg := rfl
@[simp] theorem setMonitor_districts (d : DistrictId) (x : Monitor) : (s.setMonitor d x).districts = s.districts := rfl
@[simp] theorem setMonitor_timers (d : DistrictId) (x : Monitor) : (s.setMonitor d x).timers = s.timers := rfl
@[simp] theorem setMonitor_prescaler (d : DistrictId) (x : Monitor) : (s.setMonitor d x).prescaler = s.prescaler := rfl
@[simp] theorem setMonitor_quarter (d : DistrictId) (x : Monitor) : (s.setMonitor d x).quarter = s.quarter := rfl
@[simp] theorem setMonitor_sampled (d : DistrictId) (x : Monitor) : (s.setMonitor d x).sampled = s.sampled := rfl
@[simp] theorem setMonitor_feeds (d : DistrictId) (x : Monitor) : (s.setMonitor d x).feeds = s.feeds := rfl
@[simp] theorem setMonitor_episodes (d : DistrictId) (x : Monitor) : (s.setMonitor d x).episodes = s.episodes := rfl
@[simp] theorem setMonitor_summaries (d : DistrictId) (x : Monitor) : (s.setMonitor d x).summaries = s.summaries := rfl
@[simp] theorem setMonitor_queues (d : DistrictId) (x : Monitor) : (s.setMonitor d x).queues = s.queues := rfl
@[simp] theorem setMonitor_channels (d : DistrictId) (x : Monitor) : (s.setMonitor d x).channels = s.channels := rfl
@[simp] theorem setMonitor_lastGranted (d : DistrictId) (x : Monitor) : (s.setMonitor d x).lastGranted = s.lastGranted := rfl
@[simp] theorem setMonitor_joints (d : DistrictId) (x : Monitor) : (s.setMonitor d x).joints = s.joints := rfl
@[simp] theorem setMonitor_slots (d : DistrictId) (x : Monitor) : (s.setMonitor d x).slots = s.slots := rfl
@[simp] theorem setMonitor_line (d : DistrictId) (x : Monitor) : (s.setMonitor d x).line = s.line := rfl
@[simp] theorem setMonitor_image (d : DistrictId) (x : Monitor) : (s.setMonitor d x).image = s.image := rfl
@[simp] theorem setMonitor_profileLost (d : DistrictId) (x : Monitor) : (s.setMonitor d x).profileLost = s.profileLost := rfl
@[simp] theorem setMonitor_writing (d : DistrictId) (x : Monitor) : (s.setMonitor d x).writing = s.writing := rfl
@[simp] theorem setMonitor_monitors (d : DistrictId) (x : Monitor) :
    (s.setMonitor d x).monitors = s.monitors.set d x := rfl
@[simp] theorem setMonitor_dcfg (d : DistrictId) (x : Monitor) (k : DistrictId) :
    (s.setMonitor d x).dcfg k = s.dcfg k := rfl
@[simp] theorem setMonitor_fcfg (d : DistrictId) (x : Monitor) (k : FeedId) :
    (s.setMonitor d x).fcfg k = s.fcfg k := rfl
@[simp] theorem setMonitor_jcfg (d : DistrictId) (x : Monitor) (k : JointId) :
    (s.setMonitor d x).jcfg k = s.jcfg k := rfl
@[simp] theorem setMonitor_district (d : DistrictId) (x : Monitor) (k : DistrictId) :
    (s.setMonitor d x).district k = s.district k := rfl
@[simp] theorem setMonitor_timer (d : DistrictId) (x : Monitor) (k : DistrictId) :
    (s.setMonitor d x).timer k = s.timer k := rfl
@[simp] theorem setMonitor_feed (d : DistrictId) (x : Monitor) (k : FeedId) :
    (s.setMonitor d x).feed k = s.feed k := rfl
@[simp] theorem setMonitor_episode (d : DistrictId) (x : Monitor) (k : FeedId) :
    (s.setMonitor d x).episode k = s.episode k := rfl
@[simp] theorem setMonitor_summary (d : DistrictId) (x : Monitor) (k : FeedId) :
    (s.setMonitor d x).summary k = s.summary k := rfl
@[simp] theorem setMonitor_queue (d : DistrictId) (x : Monitor) (k : FeedId) :
    (s.setMonitor d x).queue k = s.queue k := rfl
@[simp] theorem setMonitor_channel (d : DistrictId) (x : Monitor) (k : ChannelId) :
    (s.setMonitor d x).channel k = s.channel k := rfl
@[simp] theorem setMonitor_joint (d : DistrictId) (x : Monitor) (k : JointId) :
    (s.setMonitor d x).joint k = s.joint k := rfl
@[simp] theorem setMonitor_slot (d : DistrictId) (x : Monitor) (k : SlotId) :
    (s.setMonitor d x).slot k = s.slot k := rfl
theorem setMonitor_monitor (d k : DistrictId) (x : Monitor) :
    (s.setMonitor d x).monitor k = if d = k then x else s.monitor k := by
  simp [setMonitor, monitor, Vector.getElem_set, Fin.ext_iff]
@[simp] theorem setMonitor_monitor_self (d : DistrictId) (x : Monitor) : (s.setMonitor d x).monitor d = x := by
  simp [setMonitor_monitor]
theorem setMonitor_monitor_ne {d k : DistrictId} (h : k ≠ d) (x : Monitor) : (s.setMonitor d x).monitor k = s.monitor k := by
  simp [setMonitor_monitor, h.symm]

/-! ### setTimer -/

@[simp] theorem setTimer_pending (d : DistrictId) (x : Timer) : (s.setTimer d x).pending = s.pending := rfl
@[simp] theorem setTimer_mode (d : DistrictId) (x : Timer) : (s.setTimer d x).mode = s.mode := rfl
@[simp] theorem setTimer_lineAddress (d : DistrictId) (x : Timer) : (s.setTimer d x).lineAddress = s.lineAddress := rfl
@[simp] theorem setTimer_cfg (d : DistrictId) (x : Timer) : (s.setTimer d x).cfg = s.cfg := rfl
@[simp] theorem setTimer_districts (d : DistrictId) (x : Timer) : (s.setTimer d x).districts = s.districts := rfl
@[simp] theorem setTimer_monitors (d : DistrictId) (x : Timer) : (s.setTimer d x).monitors = s.monitors := rfl
@[simp] theorem setTimer_prescaler (d : DistrictId) (x : Timer) : (s.setTimer d x).prescaler = s.prescaler := rfl
@[simp] theorem setTimer_quarter (d : DistrictId) (x : Timer) : (s.setTimer d x).quarter = s.quarter := rfl
@[simp] theorem setTimer_sampled (d : DistrictId) (x : Timer) : (s.setTimer d x).sampled = s.sampled := rfl
@[simp] theorem setTimer_feeds (d : DistrictId) (x : Timer) : (s.setTimer d x).feeds = s.feeds := rfl
@[simp] theorem setTimer_episodes (d : DistrictId) (x : Timer) : (s.setTimer d x).episodes = s.episodes := rfl
@[simp] theorem setTimer_summaries (d : DistrictId) (x : Timer) : (s.setTimer d x).summaries = s.summaries := rfl
@[simp] theorem setTimer_queues (d : DistrictId) (x : Timer) : (s.setTimer d x).queues = s.queues := rfl
@[simp] theorem setTimer_channels (d : DistrictId) (x : Timer) : (s.setTimer d x).channels = s.channels := rfl
@[simp] theorem setTimer_lastGranted (d : DistrictId) (x : Timer) : (s.setTimer d x).lastGranted = s.lastGranted := rfl
@[simp] theorem setTimer_joints (d : DistrictId) (x : Timer) : (s.setTimer d x).joints = s.joints := rfl
@[simp] theorem setTimer_slots (d : DistrictId) (x : Timer) : (s.setTimer d x).slots = s.slots := rfl
@[simp] theorem setTimer_line (d : DistrictId) (x : Timer) : (s.setTimer d x).line = s.line := rfl
@[simp] theorem setTimer_image (d : DistrictId) (x : Timer) : (s.setTimer d x).image = s.image := rfl
@[simp] theorem setTimer_profileLost (d : DistrictId) (x : Timer) : (s.setTimer d x).profileLost = s.profileLost := rfl
@[simp] theorem setTimer_writing (d : DistrictId) (x : Timer) : (s.setTimer d x).writing = s.writing := rfl
@[simp] theorem setTimer_timers (d : DistrictId) (x : Timer) :
    (s.setTimer d x).timers = s.timers.set d x := rfl
@[simp] theorem setTimer_dcfg (d : DistrictId) (x : Timer) (k : DistrictId) :
    (s.setTimer d x).dcfg k = s.dcfg k := rfl
@[simp] theorem setTimer_fcfg (d : DistrictId) (x : Timer) (k : FeedId) :
    (s.setTimer d x).fcfg k = s.fcfg k := rfl
@[simp] theorem setTimer_jcfg (d : DistrictId) (x : Timer) (k : JointId) :
    (s.setTimer d x).jcfg k = s.jcfg k := rfl
@[simp] theorem setTimer_district (d : DistrictId) (x : Timer) (k : DistrictId) :
    (s.setTimer d x).district k = s.district k := rfl
@[simp] theorem setTimer_monitor (d : DistrictId) (x : Timer) (k : DistrictId) :
    (s.setTimer d x).monitor k = s.monitor k := rfl
@[simp] theorem setTimer_feed (d : DistrictId) (x : Timer) (k : FeedId) :
    (s.setTimer d x).feed k = s.feed k := rfl
@[simp] theorem setTimer_episode (d : DistrictId) (x : Timer) (k : FeedId) :
    (s.setTimer d x).episode k = s.episode k := rfl
@[simp] theorem setTimer_summary (d : DistrictId) (x : Timer) (k : FeedId) :
    (s.setTimer d x).summary k = s.summary k := rfl
@[simp] theorem setTimer_queue (d : DistrictId) (x : Timer) (k : FeedId) :
    (s.setTimer d x).queue k = s.queue k := rfl
@[simp] theorem setTimer_channel (d : DistrictId) (x : Timer) (k : ChannelId) :
    (s.setTimer d x).channel k = s.channel k := rfl
@[simp] theorem setTimer_joint (d : DistrictId) (x : Timer) (k : JointId) :
    (s.setTimer d x).joint k = s.joint k := rfl
@[simp] theorem setTimer_slot (d : DistrictId) (x : Timer) (k : SlotId) :
    (s.setTimer d x).slot k = s.slot k := rfl
theorem setTimer_timer (d k : DistrictId) (x : Timer) :
    (s.setTimer d x).timer k = if d = k then x else s.timer k := by
  simp [setTimer, timer, Vector.getElem_set, Fin.ext_iff]
@[simp] theorem setTimer_timer_self (d : DistrictId) (x : Timer) : (s.setTimer d x).timer d = x := by
  simp [setTimer_timer]
theorem setTimer_timer_ne {d k : DistrictId} (h : k ≠ d) (x : Timer) : (s.setTimer d x).timer k = s.timer k := by
  simp [setTimer_timer, h.symm]

/-! ### setFeed -/

@[simp] theorem setFeed_pending (f : FeedId) (x : Feed) : (s.setFeed f x).pending = s.pending := rfl
@[simp] theorem setFeed_mode (f : FeedId) (x : Feed) : (s.setFeed f x).mode = s.mode := rfl
@[simp] theorem setFeed_lineAddress (f : FeedId) (x : Feed) : (s.setFeed f x).lineAddress = s.lineAddress := rfl
@[simp] theorem setFeed_cfg (f : FeedId) (x : Feed) : (s.setFeed f x).cfg = s.cfg := rfl
@[simp] theorem setFeed_districts (f : FeedId) (x : Feed) : (s.setFeed f x).districts = s.districts := rfl
@[simp] theorem setFeed_monitors (f : FeedId) (x : Feed) : (s.setFeed f x).monitors = s.monitors := rfl
@[simp] theorem setFeed_timers (f : FeedId) (x : Feed) : (s.setFeed f x).timers = s.timers := rfl
@[simp] theorem setFeed_prescaler (f : FeedId) (x : Feed) : (s.setFeed f x).prescaler = s.prescaler := rfl
@[simp] theorem setFeed_quarter (f : FeedId) (x : Feed) : (s.setFeed f x).quarter = s.quarter := rfl
@[simp] theorem setFeed_sampled (f : FeedId) (x : Feed) : (s.setFeed f x).sampled = s.sampled := rfl
@[simp] theorem setFeed_episodes (f : FeedId) (x : Feed) : (s.setFeed f x).episodes = s.episodes := rfl
@[simp] theorem setFeed_summaries (f : FeedId) (x : Feed) : (s.setFeed f x).summaries = s.summaries := rfl
@[simp] theorem setFeed_queues (f : FeedId) (x : Feed) : (s.setFeed f x).queues = s.queues := rfl
@[simp] theorem setFeed_channels (f : FeedId) (x : Feed) : (s.setFeed f x).channels = s.channels := rfl
@[simp] theorem setFeed_lastGranted (f : FeedId) (x : Feed) : (s.setFeed f x).lastGranted = s.lastGranted := rfl
@[simp] theorem setFeed_joints (f : FeedId) (x : Feed) : (s.setFeed f x).joints = s.joints := rfl
@[simp] theorem setFeed_slots (f : FeedId) (x : Feed) : (s.setFeed f x).slots = s.slots := rfl
@[simp] theorem setFeed_line (f : FeedId) (x : Feed) : (s.setFeed f x).line = s.line := rfl
@[simp] theorem setFeed_image (f : FeedId) (x : Feed) : (s.setFeed f x).image = s.image := rfl
@[simp] theorem setFeed_profileLost (f : FeedId) (x : Feed) : (s.setFeed f x).profileLost = s.profileLost := rfl
@[simp] theorem setFeed_writing (f : FeedId) (x : Feed) : (s.setFeed f x).writing = s.writing := rfl
@[simp] theorem setFeed_feeds (f : FeedId) (x : Feed) :
    (s.setFeed f x).feeds = s.feeds.set f x := rfl
@[simp] theorem setFeed_dcfg (f : FeedId) (x : Feed) (k : DistrictId) :
    (s.setFeed f x).dcfg k = s.dcfg k := rfl
@[simp] theorem setFeed_fcfg (f : FeedId) (x : Feed) (k : FeedId) :
    (s.setFeed f x).fcfg k = s.fcfg k := rfl
@[simp] theorem setFeed_jcfg (f : FeedId) (x : Feed) (k : JointId) :
    (s.setFeed f x).jcfg k = s.jcfg k := rfl
@[simp] theorem setFeed_district (f : FeedId) (x : Feed) (k : DistrictId) :
    (s.setFeed f x).district k = s.district k := rfl
@[simp] theorem setFeed_monitor (f : FeedId) (x : Feed) (k : DistrictId) :
    (s.setFeed f x).monitor k = s.monitor k := rfl
@[simp] theorem setFeed_timer (f : FeedId) (x : Feed) (k : DistrictId) :
    (s.setFeed f x).timer k = s.timer k := rfl
@[simp] theorem setFeed_episode (f : FeedId) (x : Feed) (k : FeedId) :
    (s.setFeed f x).episode k = s.episode k := rfl
@[simp] theorem setFeed_summary (f : FeedId) (x : Feed) (k : FeedId) :
    (s.setFeed f x).summary k = s.summary k := rfl
@[simp] theorem setFeed_queue (f : FeedId) (x : Feed) (k : FeedId) :
    (s.setFeed f x).queue k = s.queue k := rfl
@[simp] theorem setFeed_channel (f : FeedId) (x : Feed) (k : ChannelId) :
    (s.setFeed f x).channel k = s.channel k := rfl
@[simp] theorem setFeed_joint (f : FeedId) (x : Feed) (k : JointId) :
    (s.setFeed f x).joint k = s.joint k := rfl
@[simp] theorem setFeed_slot (f : FeedId) (x : Feed) (k : SlotId) :
    (s.setFeed f x).slot k = s.slot k := rfl
theorem setFeed_feed (f k : FeedId) (x : Feed) :
    (s.setFeed f x).feed k = if f = k then x else s.feed k := by
  simp [setFeed, feed, Vector.getElem_set, Fin.ext_iff]
@[simp] theorem setFeed_feed_self (f : FeedId) (x : Feed) : (s.setFeed f x).feed f = x := by
  simp [setFeed_feed]
theorem setFeed_feed_ne {f k : FeedId} (h : k ≠ f) (x : Feed) : (s.setFeed f x).feed k = s.feed k := by
  simp [setFeed_feed, h.symm]

/-! ### setEpisode -/

@[simp] theorem setEpisode_pending (f : FeedId) (x : Option Episode) : (s.setEpisode f x).pending = s.pending := rfl
@[simp] theorem setEpisode_mode (f : FeedId) (x : Option Episode) : (s.setEpisode f x).mode = s.mode := rfl
@[simp] theorem setEpisode_lineAddress (f : FeedId) (x : Option Episode) : (s.setEpisode f x).lineAddress = s.lineAddress := rfl
@[simp] theorem setEpisode_cfg (f : FeedId) (x : Option Episode) : (s.setEpisode f x).cfg = s.cfg := rfl
@[simp] theorem setEpisode_districts (f : FeedId) (x : Option Episode) : (s.setEpisode f x).districts = s.districts := rfl
@[simp] theorem setEpisode_monitors (f : FeedId) (x : Option Episode) : (s.setEpisode f x).monitors = s.monitors := rfl
@[simp] theorem setEpisode_timers (f : FeedId) (x : Option Episode) : (s.setEpisode f x).timers = s.timers := rfl
@[simp] theorem setEpisode_prescaler (f : FeedId) (x : Option Episode) : (s.setEpisode f x).prescaler = s.prescaler := rfl
@[simp] theorem setEpisode_quarter (f : FeedId) (x : Option Episode) : (s.setEpisode f x).quarter = s.quarter := rfl
@[simp] theorem setEpisode_sampled (f : FeedId) (x : Option Episode) : (s.setEpisode f x).sampled = s.sampled := rfl
@[simp] theorem setEpisode_feeds (f : FeedId) (x : Option Episode) : (s.setEpisode f x).feeds = s.feeds := rfl
@[simp] theorem setEpisode_summaries (f : FeedId) (x : Option Episode) : (s.setEpisode f x).summaries = s.summaries := rfl
@[simp] theorem setEpisode_queues (f : FeedId) (x : Option Episode) : (s.setEpisode f x).queues = s.queues := rfl
@[simp] theorem setEpisode_channels (f : FeedId) (x : Option Episode) : (s.setEpisode f x).channels = s.channels := rfl
@[simp] theorem setEpisode_lastGranted (f : FeedId) (x : Option Episode) : (s.setEpisode f x).lastGranted = s.lastGranted := rfl
@[simp] theorem setEpisode_joints (f : FeedId) (x : Option Episode) : (s.setEpisode f x).joints = s.joints := rfl
@[simp] theorem setEpisode_slots (f : FeedId) (x : Option Episode) : (s.setEpisode f x).slots = s.slots := rfl
@[simp] theorem setEpisode_line (f : FeedId) (x : Option Episode) : (s.setEpisode f x).line = s.line := rfl
@[simp] theorem setEpisode_image (f : FeedId) (x : Option Episode) : (s.setEpisode f x).image = s.image := rfl
@[simp] theorem setEpisode_profileLost (f : FeedId) (x : Option Episode) : (s.setEpisode f x).profileLost = s.profileLost := rfl
@[simp] theorem setEpisode_writing (f : FeedId) (x : Option Episode) : (s.setEpisode f x).writing = s.writing := rfl
@[simp] theorem setEpisode_episodes (f : FeedId) (x : Option Episode) :
    (s.setEpisode f x).episodes = s.episodes.set f x := rfl
@[simp] theorem setEpisode_dcfg (f : FeedId) (x : Option Episode) (k : DistrictId) :
    (s.setEpisode f x).dcfg k = s.dcfg k := rfl
@[simp] theorem setEpisode_fcfg (f : FeedId) (x : Option Episode) (k : FeedId) :
    (s.setEpisode f x).fcfg k = s.fcfg k := rfl
@[simp] theorem setEpisode_jcfg (f : FeedId) (x : Option Episode) (k : JointId) :
    (s.setEpisode f x).jcfg k = s.jcfg k := rfl
@[simp] theorem setEpisode_district (f : FeedId) (x : Option Episode) (k : DistrictId) :
    (s.setEpisode f x).district k = s.district k := rfl
@[simp] theorem setEpisode_monitor (f : FeedId) (x : Option Episode) (k : DistrictId) :
    (s.setEpisode f x).monitor k = s.monitor k := rfl
@[simp] theorem setEpisode_timer (f : FeedId) (x : Option Episode) (k : DistrictId) :
    (s.setEpisode f x).timer k = s.timer k := rfl
@[simp] theorem setEpisode_feed (f : FeedId) (x : Option Episode) (k : FeedId) :
    (s.setEpisode f x).feed k = s.feed k := rfl
@[simp] theorem setEpisode_summary (f : FeedId) (x : Option Episode) (k : FeedId) :
    (s.setEpisode f x).summary k = s.summary k := rfl
@[simp] theorem setEpisode_queue (f : FeedId) (x : Option Episode) (k : FeedId) :
    (s.setEpisode f x).queue k = s.queue k := rfl
@[simp] theorem setEpisode_channel (f : FeedId) (x : Option Episode) (k : ChannelId) :
    (s.setEpisode f x).channel k = s.channel k := rfl
@[simp] theorem setEpisode_joint (f : FeedId) (x : Option Episode) (k : JointId) :
    (s.setEpisode f x).joint k = s.joint k := rfl
@[simp] theorem setEpisode_slot (f : FeedId) (x : Option Episode) (k : SlotId) :
    (s.setEpisode f x).slot k = s.slot k := rfl
theorem setEpisode_episode (f k : FeedId) (x : Option Episode) :
    (s.setEpisode f x).episode k = if f = k then x else s.episode k := by
  simp [setEpisode, episode, Vector.getElem_set, Fin.ext_iff]
@[simp] theorem setEpisode_episode_self (f : FeedId) (x : Option Episode) : (s.setEpisode f x).episode f = x := by
  simp [setEpisode_episode]
theorem setEpisode_episode_ne {f k : FeedId} (h : k ≠ f) (x : Option Episode) : (s.setEpisode f x).episode k = s.episode k := by
  simp [setEpisode_episode, h.symm]

/-! ### setSummary -/

@[simp] theorem setSummary_pending (f : FeedId) (x : Summary) : (s.setSummary f x).pending = s.pending := rfl
@[simp] theorem setSummary_mode (f : FeedId) (x : Summary) : (s.setSummary f x).mode = s.mode := rfl
@[simp] theorem setSummary_lineAddress (f : FeedId) (x : Summary) : (s.setSummary f x).lineAddress = s.lineAddress := rfl
@[simp] theorem setSummary_cfg (f : FeedId) (x : Summary) : (s.setSummary f x).cfg = s.cfg := rfl
@[simp] theorem setSummary_districts (f : FeedId) (x : Summary) : (s.setSummary f x).districts = s.districts := rfl
@[simp] theorem setSummary_monitors (f : FeedId) (x : Summary) : (s.setSummary f x).monitors = s.monitors := rfl
@[simp] theorem setSummary_timers (f : FeedId) (x : Summary) : (s.setSummary f x).timers = s.timers := rfl
@[simp] theorem setSummary_prescaler (f : FeedId) (x : Summary) : (s.setSummary f x).prescaler = s.prescaler := rfl
@[simp] theorem setSummary_quarter (f : FeedId) (x : Summary) : (s.setSummary f x).quarter = s.quarter := rfl
@[simp] theorem setSummary_sampled (f : FeedId) (x : Summary) : (s.setSummary f x).sampled = s.sampled := rfl
@[simp] theorem setSummary_feeds (f : FeedId) (x : Summary) : (s.setSummary f x).feeds = s.feeds := rfl
@[simp] theorem setSummary_episodes (f : FeedId) (x : Summary) : (s.setSummary f x).episodes = s.episodes := rfl
@[simp] theorem setSummary_queues (f : FeedId) (x : Summary) : (s.setSummary f x).queues = s.queues := rfl
@[simp] theorem setSummary_channels (f : FeedId) (x : Summary) : (s.setSummary f x).channels = s.channels := rfl
@[simp] theorem setSummary_lastGranted (f : FeedId) (x : Summary) : (s.setSummary f x).lastGranted = s.lastGranted := rfl
@[simp] theorem setSummary_joints (f : FeedId) (x : Summary) : (s.setSummary f x).joints = s.joints := rfl
@[simp] theorem setSummary_slots (f : FeedId) (x : Summary) : (s.setSummary f x).slots = s.slots := rfl
@[simp] theorem setSummary_line (f : FeedId) (x : Summary) : (s.setSummary f x).line = s.line := rfl
@[simp] theorem setSummary_image (f : FeedId) (x : Summary) : (s.setSummary f x).image = s.image := rfl
@[simp] theorem setSummary_profileLost (f : FeedId) (x : Summary) : (s.setSummary f x).profileLost = s.profileLost := rfl
@[simp] theorem setSummary_writing (f : FeedId) (x : Summary) : (s.setSummary f x).writing = s.writing := rfl
@[simp] theorem setSummary_summaries (f : FeedId) (x : Summary) :
    (s.setSummary f x).summaries = s.summaries.set f x := rfl
@[simp] theorem setSummary_dcfg (f : FeedId) (x : Summary) (k : DistrictId) :
    (s.setSummary f x).dcfg k = s.dcfg k := rfl
@[simp] theorem setSummary_fcfg (f : FeedId) (x : Summary) (k : FeedId) :
    (s.setSummary f x).fcfg k = s.fcfg k := rfl
@[simp] theorem setSummary_jcfg (f : FeedId) (x : Summary) (k : JointId) :
    (s.setSummary f x).jcfg k = s.jcfg k := rfl
@[simp] theorem setSummary_district (f : FeedId) (x : Summary) (k : DistrictId) :
    (s.setSummary f x).district k = s.district k := rfl
@[simp] theorem setSummary_monitor (f : FeedId) (x : Summary) (k : DistrictId) :
    (s.setSummary f x).monitor k = s.monitor k := rfl
@[simp] theorem setSummary_timer (f : FeedId) (x : Summary) (k : DistrictId) :
    (s.setSummary f x).timer k = s.timer k := rfl
@[simp] theorem setSummary_feed (f : FeedId) (x : Summary) (k : FeedId) :
    (s.setSummary f x).feed k = s.feed k := rfl
@[simp] theorem setSummary_episode (f : FeedId) (x : Summary) (k : FeedId) :
    (s.setSummary f x).episode k = s.episode k := rfl
@[simp] theorem setSummary_queue (f : FeedId) (x : Summary) (k : FeedId) :
    (s.setSummary f x).queue k = s.queue k := rfl
@[simp] theorem setSummary_channel (f : FeedId) (x : Summary) (k : ChannelId) :
    (s.setSummary f x).channel k = s.channel k := rfl
@[simp] theorem setSummary_joint (f : FeedId) (x : Summary) (k : JointId) :
    (s.setSummary f x).joint k = s.joint k := rfl
@[simp] theorem setSummary_slot (f : FeedId) (x : Summary) (k : SlotId) :
    (s.setSummary f x).slot k = s.slot k := rfl
theorem setSummary_summary (f k : FeedId) (x : Summary) :
    (s.setSummary f x).summary k = if f = k then x else s.summary k := by
  simp [setSummary, summary, Vector.getElem_set, Fin.ext_iff]
@[simp] theorem setSummary_summary_self (f : FeedId) (x : Summary) : (s.setSummary f x).summary f = x := by
  simp [setSummary_summary]
theorem setSummary_summary_ne {f k : FeedId} (h : k ≠ f) (x : Summary) : (s.setSummary f x).summary k = s.summary k := by
  simp [setSummary_summary, h.symm]

/-! ### setQueue -/

@[simp] theorem setQueue_pending (f : FeedId) (x : List Entry) : (s.setQueue f x).pending = s.pending := rfl
@[simp] theorem setQueue_mode (f : FeedId) (x : List Entry) : (s.setQueue f x).mode = s.mode := rfl
@[simp] theorem setQueue_lineAddress (f : FeedId) (x : List Entry) : (s.setQueue f x).lineAddress = s.lineAddress := rfl
@[simp] theorem setQueue_cfg (f : FeedId) (x : List Entry) : (s.setQueue f x).cfg = s.cfg := rfl
@[simp] theorem setQueue_districts (f : FeedId) (x : List Entry) : (s.setQueue f x).districts = s.districts := rfl
@[simp] theorem setQueue_monitors (f : FeedId) (x : List Entry) : (s.setQueue f x).monitors = s.monitors := rfl
@[simp] theorem setQueue_timers (f : FeedId) (x : List Entry) : (s.setQueue f x).timers = s.timers := rfl
@[simp] theorem setQueue_prescaler (f : FeedId) (x : List Entry) : (s.setQueue f x).prescaler = s.prescaler := rfl
@[simp] theorem setQueue_quarter (f : FeedId) (x : List Entry) : (s.setQueue f x).quarter = s.quarter := rfl
@[simp] theorem setQueue_sampled (f : FeedId) (x : List Entry) : (s.setQueue f x).sampled = s.sampled := rfl
@[simp] theorem setQueue_feeds (f : FeedId) (x : List Entry) : (s.setQueue f x).feeds = s.feeds := rfl
@[simp] theorem setQueue_episodes (f : FeedId) (x : List Entry) : (s.setQueue f x).episodes = s.episodes := rfl
@[simp] theorem setQueue_summaries (f : FeedId) (x : List Entry) : (s.setQueue f x).summaries = s.summaries := rfl
@[simp] theorem setQueue_channels (f : FeedId) (x : List Entry) : (s.setQueue f x).channels = s.channels := rfl
@[simp] theorem setQueue_lastGranted (f : FeedId) (x : List Entry) : (s.setQueue f x).lastGranted = s.lastGranted := rfl
@[simp] theorem setQueue_joints (f : FeedId) (x : List Entry) : (s.setQueue f x).joints = s.joints := rfl
@[simp] theorem setQueue_slots (f : FeedId) (x : List Entry) : (s.setQueue f x).slots = s.slots := rfl
@[simp] theorem setQueue_line (f : FeedId) (x : List Entry) : (s.setQueue f x).line = s.line := rfl
@[simp] theorem setQueue_image (f : FeedId) (x : List Entry) : (s.setQueue f x).image = s.image := rfl
@[simp] theorem setQueue_profileLost (f : FeedId) (x : List Entry) : (s.setQueue f x).profileLost = s.profileLost := rfl
@[simp] theorem setQueue_writing (f : FeedId) (x : List Entry) : (s.setQueue f x).writing = s.writing := rfl
@[simp] theorem setQueue_queues (f : FeedId) (x : List Entry) :
    (s.setQueue f x).queues = s.queues.set f x := rfl
@[simp] theorem setQueue_dcfg (f : FeedId) (x : List Entry) (k : DistrictId) :
    (s.setQueue f x).dcfg k = s.dcfg k := rfl
@[simp] theorem setQueue_fcfg (f : FeedId) (x : List Entry) (k : FeedId) :
    (s.setQueue f x).fcfg k = s.fcfg k := rfl
@[simp] theorem setQueue_jcfg (f : FeedId) (x : List Entry) (k : JointId) :
    (s.setQueue f x).jcfg k = s.jcfg k := rfl
@[simp] theorem setQueue_district (f : FeedId) (x : List Entry) (k : DistrictId) :
    (s.setQueue f x).district k = s.district k := rfl
@[simp] theorem setQueue_monitor (f : FeedId) (x : List Entry) (k : DistrictId) :
    (s.setQueue f x).monitor k = s.monitor k := rfl
@[simp] theorem setQueue_timer (f : FeedId) (x : List Entry) (k : DistrictId) :
    (s.setQueue f x).timer k = s.timer k := rfl
@[simp] theorem setQueue_feed (f : FeedId) (x : List Entry) (k : FeedId) :
    (s.setQueue f x).feed k = s.feed k := rfl
@[simp] theorem setQueue_episode (f : FeedId) (x : List Entry) (k : FeedId) :
    (s.setQueue f x).episode k = s.episode k := rfl
@[simp] theorem setQueue_summary (f : FeedId) (x : List Entry) (k : FeedId) :
    (s.setQueue f x).summary k = s.summary k := rfl
@[simp] theorem setQueue_channel (f : FeedId) (x : List Entry) (k : ChannelId) :
    (s.setQueue f x).channel k = s.channel k := rfl
@[simp] theorem setQueue_joint (f : FeedId) (x : List Entry) (k : JointId) :
    (s.setQueue f x).joint k = s.joint k := rfl
@[simp] theorem setQueue_slot (f : FeedId) (x : List Entry) (k : SlotId) :
    (s.setQueue f x).slot k = s.slot k := rfl
theorem setQueue_queue (f k : FeedId) (x : List Entry) :
    (s.setQueue f x).queue k = if f = k then x else s.queue k := by
  simp [setQueue, queue, Vector.getElem_set, Fin.ext_iff]
@[simp] theorem setQueue_queue_self (f : FeedId) (x : List Entry) : (s.setQueue f x).queue f = x := by
  simp [setQueue_queue]
theorem setQueue_queue_ne {f k : FeedId} (h : k ≠ f) (x : List Entry) : (s.setQueue f x).queue k = s.queue k := by
  simp [setQueue_queue, h.symm]

/-! ### setChannel -/

@[simp] theorem setChannel_pending (c : ChannelId) (x : Option Probe) : (s.setChannel c x).pending = s.pending := rfl
@[simp] theorem setChannel_mode (c : ChannelId) (x : Option Probe) : (s.setChannel c x).mode = s.mode := rfl
@[simp] theorem setChannel_lineAddress (c : ChannelId) (x : Option Probe) : (s.setChannel c x).lineAddress = s.lineAddress := rfl
@[simp] theorem setChannel_cfg (c : ChannelId) (x : Option Probe) : (s.setChannel c x).cfg = s.cfg := rfl
@[simp] theorem setChannel_districts (c : ChannelId) (x : Option Probe) : (s.setChannel c x).districts = s.districts := rfl
@[simp] theorem setChannel_monitors (c : ChannelId) (x : Option Probe) : (s.setChannel c x).monitors = s.monitors := rfl
@[simp] theorem setChannel_timers (c : ChannelId) (x : Option Probe) : (s.setChannel c x).timers = s.timers := rfl
@[simp] theorem setChannel_prescaler (c : ChannelId) (x : Option Probe) : (s.setChannel c x).prescaler = s.prescaler := rfl
@[simp] theorem setChannel_quarter (c : ChannelId) (x : Option Probe) : (s.setChannel c x).quarter = s.quarter := rfl
@[simp] theorem setChannel_sampled (c : ChannelId) (x : Option Probe) : (s.setChannel c x).sampled = s.sampled := rfl
@[simp] theorem setChannel_feeds (c : ChannelId) (x : Option Probe) : (s.setChannel c x).feeds = s.feeds := rfl
@[simp] theorem setChannel_episodes (c : ChannelId) (x : Option Probe) : (s.setChannel c x).episodes = s.episodes := rfl
@[simp] theorem setChannel_summaries (c : ChannelId) (x : Option Probe) : (s.setChannel c x).summaries = s.summaries := rfl
@[simp] theorem setChannel_queues (c : ChannelId) (x : Option Probe) : (s.setChannel c x).queues = s.queues := rfl
@[simp] theorem setChannel_lastGranted (c : ChannelId) (x : Option Probe) : (s.setChannel c x).lastGranted = s.lastGranted := rfl
@[simp] theorem setChannel_joints (c : ChannelId) (x : Option Probe) : (s.setChannel c x).joints = s.joints := rfl
@[simp] theorem setChannel_slots (c : ChannelId) (x : Option Probe) : (s.setChannel c x).slots = s.slots := rfl
@[simp] theorem setChannel_line (c : ChannelId) (x : Option Probe) : (s.setChannel c x).line = s.line := rfl
@[simp] theorem setChannel_image (c : ChannelId) (x : Option Probe) : (s.setChannel c x).image = s.image := rfl
@[simp] theorem setChannel_profileLost (c : ChannelId) (x : Option Probe) : (s.setChannel c x).profileLost = s.profileLost := rfl
@[simp] theorem setChannel_writing (c : ChannelId) (x : Option Probe) : (s.setChannel c x).writing = s.writing := rfl
@[simp] theorem setChannel_channels (c : ChannelId) (x : Option Probe) :
    (s.setChannel c x).channels = s.channels.set c x := rfl
@[simp] theorem setChannel_dcfg (c : ChannelId) (x : Option Probe) (k : DistrictId) :
    (s.setChannel c x).dcfg k = s.dcfg k := rfl
@[simp] theorem setChannel_fcfg (c : ChannelId) (x : Option Probe) (k : FeedId) :
    (s.setChannel c x).fcfg k = s.fcfg k := rfl
@[simp] theorem setChannel_jcfg (c : ChannelId) (x : Option Probe) (k : JointId) :
    (s.setChannel c x).jcfg k = s.jcfg k := rfl
@[simp] theorem setChannel_district (c : ChannelId) (x : Option Probe) (k : DistrictId) :
    (s.setChannel c x).district k = s.district k := rfl
@[simp] theorem setChannel_monitor (c : ChannelId) (x : Option Probe) (k : DistrictId) :
    (s.setChannel c x).monitor k = s.monitor k := rfl
@[simp] theorem setChannel_timer (c : ChannelId) (x : Option Probe) (k : DistrictId) :
    (s.setChannel c x).timer k = s.timer k := rfl
@[simp] theorem setChannel_feed (c : ChannelId) (x : Option Probe) (k : FeedId) :
    (s.setChannel c x).feed k = s.feed k := rfl
@[simp] theorem setChannel_episode (c : ChannelId) (x : Option Probe) (k : FeedId) :
    (s.setChannel c x).episode k = s.episode k := rfl
@[simp] theorem setChannel_summary (c : ChannelId) (x : Option Probe) (k : FeedId) :
    (s.setChannel c x).summary k = s.summary k := rfl
@[simp] theorem setChannel_queue (c : ChannelId) (x : Option Probe) (k : FeedId) :
    (s.setChannel c x).queue k = s.queue k := rfl
@[simp] theorem setChannel_joint (c : ChannelId) (x : Option Probe) (k : JointId) :
    (s.setChannel c x).joint k = s.joint k := rfl
@[simp] theorem setChannel_slot (c : ChannelId) (x : Option Probe) (k : SlotId) :
    (s.setChannel c x).slot k = s.slot k := rfl
theorem setChannel_channel (c k : ChannelId) (x : Option Probe) :
    (s.setChannel c x).channel k = if c = k then x else s.channel k := by
  simp [setChannel, channel, Vector.getElem_set, Fin.ext_iff]
@[simp] theorem setChannel_channel_self (c : ChannelId) (x : Option Probe) : (s.setChannel c x).channel c = x := by
  simp [setChannel_channel]
theorem setChannel_channel_ne {c k : ChannelId} (h : k ≠ c) (x : Option Probe) : (s.setChannel c x).channel k = s.channel k := by
  simp [setChannel_channel, h.symm]

/-! ### setJoint -/

@[simp] theorem setJoint_pending (j : JointId) (x : Joint) : (s.setJoint j x).pending = s.pending := rfl
@[simp] theorem setJoint_mode (j : JointId) (x : Joint) : (s.setJoint j x).mode = s.mode := rfl
@[simp] theorem setJoint_lineAddress (j : JointId) (x : Joint) : (s.setJoint j x).lineAddress = s.lineAddress := rfl
@[simp] theorem setJoint_cfg (j : JointId) (x : Joint) : (s.setJoint j x).cfg = s.cfg := rfl
@[simp] theorem setJoint_districts (j : JointId) (x : Joint) : (s.setJoint j x).districts = s.districts := rfl
@[simp] theorem setJoint_monitors (j : JointId) (x : Joint) : (s.setJoint j x).monitors = s.monitors := rfl
@[simp] theorem setJoint_timers (j : JointId) (x : Joint) : (s.setJoint j x).timers = s.timers := rfl
@[simp] theorem setJoint_prescaler (j : JointId) (x : Joint) : (s.setJoint j x).prescaler = s.prescaler := rfl
@[simp] theorem setJoint_quarter (j : JointId) (x : Joint) : (s.setJoint j x).quarter = s.quarter := rfl
@[simp] theorem setJoint_sampled (j : JointId) (x : Joint) : (s.setJoint j x).sampled = s.sampled := rfl
@[simp] theorem setJoint_feeds (j : JointId) (x : Joint) : (s.setJoint j x).feeds = s.feeds := rfl
@[simp] theorem setJoint_episodes (j : JointId) (x : Joint) : (s.setJoint j x).episodes = s.episodes := rfl
@[simp] theorem setJoint_summaries (j : JointId) (x : Joint) : (s.setJoint j x).summaries = s.summaries := rfl
@[simp] theorem setJoint_queues (j : JointId) (x : Joint) : (s.setJoint j x).queues = s.queues := rfl
@[simp] theorem setJoint_channels (j : JointId) (x : Joint) : (s.setJoint j x).channels = s.channels := rfl
@[simp] theorem setJoint_lastGranted (j : JointId) (x : Joint) : (s.setJoint j x).lastGranted = s.lastGranted := rfl
@[simp] theorem setJoint_slots (j : JointId) (x : Joint) : (s.setJoint j x).slots = s.slots := rfl
@[simp] theorem setJoint_line (j : JointId) (x : Joint) : (s.setJoint j x).line = s.line := rfl
@[simp] theorem setJoint_image (j : JointId) (x : Joint) : (s.setJoint j x).image = s.image := rfl
@[simp] theorem setJoint_profileLost (j : JointId) (x : Joint) : (s.setJoint j x).profileLost = s.profileLost := rfl
@[simp] theorem setJoint_writing (j : JointId) (x : Joint) : (s.setJoint j x).writing = s.writing := rfl
@[simp] theorem setJoint_joints (j : JointId) (x : Joint) :
    (s.setJoint j x).joints = s.joints.set j x := rfl
@[simp] theorem setJoint_dcfg (j : JointId) (x : Joint) (k : DistrictId) :
    (s.setJoint j x).dcfg k = s.dcfg k := rfl
@[simp] theorem setJoint_fcfg (j : JointId) (x : Joint) (k : FeedId) :
    (s.setJoint j x).fcfg k = s.fcfg k := rfl
@[simp] theorem setJoint_jcfg (j : JointId) (x : Joint) (k : JointId) :
    (s.setJoint j x).jcfg k = s.jcfg k := rfl
@[simp] theorem setJoint_district (j : JointId) (x : Joint) (k : DistrictId) :
    (s.setJoint j x).district k = s.district k := rfl
@[simp] theorem setJoint_monitor (j : JointId) (x : Joint) (k : DistrictId) :
    (s.setJoint j x).monitor k = s.monitor k := rfl
@[simp] theorem setJoint_timer (j : JointId) (x : Joint) (k : DistrictId) :
    (s.setJoint j x).timer k = s.timer k := rfl
@[simp] theorem setJoint_feed (j : JointId) (x : Joint) (k : FeedId) :
    (s.setJoint j x).feed k = s.feed k := rfl
@[simp] theorem setJoint_episode (j : JointId) (x : Joint) (k : FeedId) :
    (s.setJoint j x).episode k = s.episode k := rfl
@[simp] theorem setJoint_summary (j : JointId) (x : Joint) (k : FeedId) :
    (s.setJoint j x).summary k = s.summary k := rfl
@[simp] theorem setJoint_queue (j : JointId) (x : Joint) (k : FeedId) :
    (s.setJoint j x).queue k = s.queue k := rfl
@[simp] theorem setJoint_channel (j : JointId) (x : Joint) (k : ChannelId) :
    (s.setJoint j x).channel k = s.channel k := rfl
@[simp] theorem setJoint_slot (j : JointId) (x : Joint) (k : SlotId) :
    (s.setJoint j x).slot k = s.slot k := rfl
theorem setJoint_joint (j k : JointId) (x : Joint) :
    (s.setJoint j x).joint k = if j = k then x else s.joint k := by
  simp [setJoint, joint, Vector.getElem_set, Fin.ext_iff]
@[simp] theorem setJoint_joint_self (j : JointId) (x : Joint) : (s.setJoint j x).joint j = x := by
  simp [setJoint_joint]
theorem setJoint_joint_ne {j k : JointId} (h : k ≠ j) (x : Joint) : (s.setJoint j x).joint k = s.joint k := by
  simp [setJoint_joint, h.symm]

/-! ### setSlot -/

@[simp] theorem setSlot_pending (n : SlotId) (x : Option Slot) : (s.setSlot n x).pending = s.pending := rfl
@[simp] theorem setSlot_mode (n : SlotId) (x : Option Slot) : (s.setSlot n x).mode = s.mode := rfl
@[simp] theorem setSlot_lineAddress (n : SlotId) (x : Option Slot) : (s.setSlot n x).lineAddress = s.lineAddress := rfl
@[simp] theorem setSlot_cfg (n : SlotId) (x : Option Slot) : (s.setSlot n x).cfg = s.cfg := rfl
@[simp] theorem setSlot_districts (n : SlotId) (x : Option Slot) : (s.setSlot n x).districts = s.districts := rfl
@[simp] theorem setSlot_monitors (n : SlotId) (x : Option Slot) : (s.setSlot n x).monitors = s.monitors := rfl
@[simp] theorem setSlot_timers (n : SlotId) (x : Option Slot) : (s.setSlot n x).timers = s.timers := rfl
@[simp] theorem setSlot_prescaler (n : SlotId) (x : Option Slot) : (s.setSlot n x).prescaler = s.prescaler := rfl
@[simp] theorem setSlot_quarter (n : SlotId) (x : Option Slot) : (s.setSlot n x).quarter = s.quarter := rfl
@[simp] theorem setSlot_sampled (n : SlotId) (x : Option Slot) : (s.setSlot n x).sampled = s.sampled := rfl
@[simp] theorem setSlot_feeds (n : SlotId) (x : Option Slot) : (s.setSlot n x).feeds = s.feeds := rfl
@[simp] theorem setSlot_episodes (n : SlotId) (x : Option Slot) : (s.setSlot n x).episodes = s.episodes := rfl
@[simp] theorem setSlot_summaries (n : SlotId) (x : Option Slot) : (s.setSlot n x).summaries = s.summaries := rfl
@[simp] theorem setSlot_queues (n : SlotId) (x : Option Slot) : (s.setSlot n x).queues = s.queues := rfl
@[simp] theorem setSlot_channels (n : SlotId) (x : Option Slot) : (s.setSlot n x).channels = s.channels := rfl
@[simp] theorem setSlot_lastGranted (n : SlotId) (x : Option Slot) : (s.setSlot n x).lastGranted = s.lastGranted := rfl
@[simp] theorem setSlot_joints (n : SlotId) (x : Option Slot) : (s.setSlot n x).joints = s.joints := rfl
@[simp] theorem setSlot_line (n : SlotId) (x : Option Slot) : (s.setSlot n x).line = s.line := rfl
@[simp] theorem setSlot_image (n : SlotId) (x : Option Slot) : (s.setSlot n x).image = s.image := rfl
@[simp] theorem setSlot_profileLost (n : SlotId) (x : Option Slot) : (s.setSlot n x).profileLost = s.profileLost := rfl
@[simp] theorem setSlot_writing (n : SlotId) (x : Option Slot) : (s.setSlot n x).writing = s.writing := rfl
@[simp] theorem setSlot_slots (n : SlotId) (x : Option Slot) :
    (s.setSlot n x).slots = s.slots.set n x := rfl
@[simp] theorem setSlot_dcfg (n : SlotId) (x : Option Slot) (k : DistrictId) :
    (s.setSlot n x).dcfg k = s.dcfg k := rfl
@[simp] theorem setSlot_fcfg (n : SlotId) (x : Option Slot) (k : FeedId) :
    (s.setSlot n x).fcfg k = s.fcfg k := rfl
@[simp] theorem setSlot_jcfg (n : SlotId) (x : Option Slot) (k : JointId) :
    (s.setSlot n x).jcfg k = s.jcfg k := rfl
@[simp] theorem setSlot_district (n : SlotId) (x : Option Slot) (k : DistrictId) :
    (s.setSlot n x).district k = s.district k := rfl
@[simp] theorem setSlot_monitor (n : SlotId) (x : Option Slot) (k : DistrictId) :
    (s.setSlot n x).monitor k = s.monitor k := rfl
@[simp] theorem setSlot_timer (n : SlotId) (x : Option Slot) (k : DistrictId) :
    (s.setSlot n x).timer k = s.timer k := rfl
@[simp] theorem setSlot_feed (n : SlotId) (x : Option Slot) (k : FeedId) :
    (s.setSlot n x).feed k = s.feed k := rfl
@[simp] theorem setSlot_episode (n : SlotId) (x : Option Slot) (k : FeedId) :
    (s.setSlot n x).episode k = s.episode k := rfl
@[simp] theorem setSlot_summary (n : SlotId) (x : Option Slot) (k : FeedId) :
    (s.setSlot n x).summary k = s.summary k := rfl
@[simp] theorem setSlot_queue (n : SlotId) (x : Option Slot) (k : FeedId) :
    (s.setSlot n x).queue k = s.queue k := rfl
@[simp] theorem setSlot_channel (n : SlotId) (x : Option Slot) (k : ChannelId) :
    (s.setSlot n x).channel k = s.channel k := rfl
@[simp] theorem setSlot_joint (n : SlotId) (x : Option Slot) (k : JointId) :
    (s.setSlot n x).joint k = s.joint k := rfl
theorem setSlot_slot (n k : SlotId) (x : Option Slot) :
    (s.setSlot n x).slot k = if n = k then x else s.slot k := by
  simp [setSlot, slot, Vector.getElem_set, Fin.ext_iff]
@[simp] theorem setSlot_slot_self (n : SlotId) (x : Option Slot) : (s.setSlot n x).slot n = x := by
  simp [setSlot_slot]
theorem setSlot_slot_ne {n k : SlotId} (h : k ≠ n) (x : Option Slot) : (s.setSlot n x).slot k = s.slot k := by
  simp [setSlot_slot, h.symm]

/-! ### setDcfg -/

@[simp] theorem setDcfg_pending (d : DistrictId) (x : DistrictConfig) : (s.setDcfg d x).pending = s.pending := rfl
@[simp] theorem setDcfg_mode (d : DistrictId) (x : DistrictConfig) : (s.setDcfg d x).mode = s.mode := rfl
@[simp] theorem setDcfg_lineAddress (d : DistrictId) (x : DistrictConfig) : (s.setDcfg d x).lineAddress = s.lineAddress := rfl
@[simp] theorem setDcfg_districts (d : DistrictId) (x : DistrictConfig) : (s.setDcfg d x).districts = s.districts := rfl
@[simp] theorem setDcfg_monitors (d : DistrictId) (x : DistrictConfig) : (s.setDcfg d x).monitors = s.monitors := rfl
@[simp] theorem setDcfg_timers (d : DistrictId) (x : DistrictConfig) : (s.setDcfg d x).timers = s.timers := rfl
@[simp] theorem setDcfg_prescaler (d : DistrictId) (x : DistrictConfig) : (s.setDcfg d x).prescaler = s.prescaler := rfl
@[simp] theorem setDcfg_quarter (d : DistrictId) (x : DistrictConfig) : (s.setDcfg d x).quarter = s.quarter := rfl
@[simp] theorem setDcfg_sampled (d : DistrictId) (x : DistrictConfig) : (s.setDcfg d x).sampled = s.sampled := rfl
@[simp] theorem setDcfg_feeds (d : DistrictId) (x : DistrictConfig) : (s.setDcfg d x).feeds = s.feeds := rfl
@[simp] theorem setDcfg_episodes (d : DistrictId) (x : DistrictConfig) : (s.setDcfg d x).episodes = s.episodes := rfl
@[simp] theorem setDcfg_summaries (d : DistrictId) (x : DistrictConfig) : (s.setDcfg d x).summaries = s.summaries := rfl
@[simp] theorem setDcfg_queues (d : DistrictId) (x : DistrictConfig) : (s.setDcfg d x).queues = s.queues := rfl
@[simp] theorem setDcfg_channels (d : DistrictId) (x : DistrictConfig) : (s.setDcfg d x).channels = s.channels := rfl
@[simp] theorem setDcfg_lastGranted (d : DistrictId) (x : DistrictConfig) : (s.setDcfg d x).lastGranted = s.lastGranted := rfl
@[simp] theorem setDcfg_joints (d : DistrictId) (x : DistrictConfig) : (s.setDcfg d x).joints = s.joints := rfl
@[simp] theorem setDcfg_slots (d : DistrictId) (x : DistrictConfig) : (s.setDcfg d x).slots = s.slots := rfl
@[simp] theorem setDcfg_line (d : DistrictId) (x : DistrictConfig) : (s.setDcfg d x).line = s.line := rfl
@[simp] theorem setDcfg_image (d : DistrictId) (x : DistrictConfig) : (s.setDcfg d x).image = s.image := rfl
@[simp] theorem setDcfg_profileLost (d : DistrictId) (x : DistrictConfig) : (s.setDcfg d x).profileLost = s.profileLost := rfl
@[simp] theorem setDcfg_writing (d : DistrictId) (x : DistrictConfig) : (s.setDcfg d x).writing = s.writing := rfl
@[simp] theorem setDcfg_fcfg (d : DistrictId) (x : DistrictConfig) (k : FeedId) :
    (s.setDcfg d x).fcfg k = s.fcfg k := rfl
@[simp] theorem setDcfg_jcfg (d : DistrictId) (x : DistrictConfig) (k : JointId) :
    (s.setDcfg d x).jcfg k = s.jcfg k := rfl
@[simp] theorem setDcfg_district (d : DistrictId) (x : DistrictConfig) (k : DistrictId) :
    (s.setDcfg d x).district k = s.district k := rfl
@[simp] theorem setDcfg_monitor (d : DistrictId) (x : DistrictConfig) (k : DistrictId) :
    (s.setDcfg d x).monitor k = s.monitor k := rfl
@[simp] theorem setDcfg_timer (d : DistrictId) (x : DistrictConfig) (k : DistrictId) :
    (s.setDcfg d x).timer k = s.timer k := rfl
@[simp] theorem setDcfg_feed (d : DistrictId) (x : DistrictConfig) (k : FeedId) :
    (s.setDcfg d x).feed k = s.feed k := rfl
@[simp] theorem setDcfg_episode (d : DistrictId) (x : DistrictConfig) (k : FeedId) :
    (s.setDcfg d x).episode k = s.episode k := rfl
@[simp] theorem setDcfg_summary (d : DistrictId) (x : DistrictConfig) (k : FeedId) :
    (s.setDcfg d x).summary k = s.summary k := rfl
@[simp] theorem setDcfg_queue (d : DistrictId) (x : DistrictConfig) (k : FeedId) :
    (s.setDcfg d x).queue k = s.queue k := rfl
@[simp] theorem setDcfg_channel (d : DistrictId) (x : DistrictConfig) (k : ChannelId) :
    (s.setDcfg d x).channel k = s.channel k := rfl
@[simp] theorem setDcfg_joint (d : DistrictId) (x : DistrictConfig) (k : JointId) :
    (s.setDcfg d x).joint k = s.joint k := rfl
@[simp] theorem setDcfg_slot (d : DistrictId) (x : DistrictConfig) (k : SlotId) :
    (s.setDcfg d x).slot k = s.slot k := rfl
@[simp] theorem setDcfg_globals (d : DistrictId) (x : DistrictConfig) : (s.setDcfg d x).cfg.globals = s.cfg.globals := rfl
theorem setDcfg_dcfg (d k : DistrictId) (x : DistrictConfig) :
    (s.setDcfg d x).dcfg k = if d = k then x else s.dcfg k := by
  simp [setDcfg, dcfg, Vector.getElem_set, Fin.ext_iff]
@[simp] theorem setDcfg_dcfg_self (d : DistrictId) (x : DistrictConfig) : (s.setDcfg d x).dcfg d = x := by
  simp [setDcfg_dcfg]
theorem setDcfg_dcfg_ne {d k : DistrictId} (h : k ≠ d) (x : DistrictConfig) : (s.setDcfg d x).dcfg k = s.dcfg k := by
  simp [setDcfg_dcfg, h.symm]

/-! ### setFcfg -/

@[simp] theorem setFcfg_pending (f : FeedId) (x : FeedConfig) : (s.setFcfg f x).pending = s.pending := rfl
@[simp] theorem setFcfg_mode (f : FeedId) (x : FeedConfig) : (s.setFcfg f x).mode = s.mode := rfl
@[simp] theorem setFcfg_lineAddress (f : FeedId) (x : FeedConfig) : (s.setFcfg f x).lineAddress = s.lineAddress := rfl
@[simp] theorem setFcfg_districts (f : FeedId) (x : FeedConfig) : (s.setFcfg f x).districts = s.districts := rfl
@[simp] theorem setFcfg_monitors (f : FeedId) (x : FeedConfig) : (s.setFcfg f x).monitors = s.monitors := rfl
@[simp] theorem setFcfg_timers (f : FeedId) (x : FeedConfig) : (s.setFcfg f x).timers = s.timers := rfl
@[simp] theorem setFcfg_prescaler (f : FeedId) (x : FeedConfig) : (s.setFcfg f x).prescaler = s.prescaler := rfl
@[simp] theorem setFcfg_quarter (f : FeedId) (x : FeedConfig) : (s.setFcfg f x).quarter = s.quarter := rfl
@[simp] theorem setFcfg_sampled (f : FeedId) (x : FeedConfig) : (s.setFcfg f x).sampled = s.sampled := rfl
@[simp] theorem setFcfg_feeds (f : FeedId) (x : FeedConfig) : (s.setFcfg f x).feeds = s.feeds := rfl
@[simp] theorem setFcfg_episodes (f : FeedId) (x : FeedConfig) : (s.setFcfg f x).episodes = s.episodes := rfl
@[simp] theorem setFcfg_summaries (f : FeedId) (x : FeedConfig) : (s.setFcfg f x).summaries = s.summaries := rfl
@[simp] theorem setFcfg_queues (f : FeedId) (x : FeedConfig) : (s.setFcfg f x).queues = s.queues := rfl
@[simp] theorem setFcfg_channels (f : FeedId) (x : FeedConfig) : (s.setFcfg f x).channels = s.channels := rfl
@[simp] theorem setFcfg_lastGranted (f : FeedId) (x : FeedConfig) : (s.setFcfg f x).lastGranted = s.lastGranted := rfl
@[simp] theorem setFcfg_joints (f : FeedId) (x : FeedConfig) : (s.setFcfg f x).joints = s.joints := rfl
@[simp] theorem setFcfg_slots (f : FeedId) (x : FeedConfig) : (s.setFcfg f x).slots = s.slots := rfl
@[simp] theorem setFcfg_line (f : FeedId) (x : FeedConfig) : (s.setFcfg f x).line = s.line := rfl
@[simp] theorem setFcfg_image (f : FeedId) (x : FeedConfig) : (s.setFcfg f x).image = s.image := rfl
@[simp] theorem setFcfg_profileLost (f : FeedId) (x : FeedConfig) : (s.setFcfg f x).profileLost = s.profileLost := rfl
@[simp] theorem setFcfg_writing (f : FeedId) (x : FeedConfig) : (s.setFcfg f x).writing = s.writing := rfl
@[simp] theorem setFcfg_dcfg (f : FeedId) (x : FeedConfig) (k : DistrictId) :
    (s.setFcfg f x).dcfg k = s.dcfg k := rfl
@[simp] theorem setFcfg_jcfg (f : FeedId) (x : FeedConfig) (k : JointId) :
    (s.setFcfg f x).jcfg k = s.jcfg k := rfl
@[simp] theorem setFcfg_district (f : FeedId) (x : FeedConfig) (k : DistrictId) :
    (s.setFcfg f x).district k = s.district k := rfl
@[simp] theorem setFcfg_monitor (f : FeedId) (x : FeedConfig) (k : DistrictId) :
    (s.setFcfg f x).monitor k = s.monitor k := rfl
@[simp] theorem setFcfg_timer (f : FeedId) (x : FeedConfig) (k : DistrictId) :
    (s.setFcfg f x).timer k = s.timer k := rfl
@[simp] theorem setFcfg_feed (f : FeedId) (x : FeedConfig) (k : FeedId) :
    (s.setFcfg f x).feed k = s.feed k := rfl
@[simp] theorem setFcfg_episode (f : FeedId) (x : FeedConfig) (k : FeedId) :
    (s.setFcfg f x).episode k = s.episode k := rfl
@[simp] theorem setFcfg_summary (f : FeedId) (x : FeedConfig) (k : FeedId) :
    (s.setFcfg f x).summary k = s.summary k := rfl
@[simp] theorem setFcfg_queue (f : FeedId) (x : FeedConfig) (k : FeedId) :
    (s.setFcfg f x).queue k = s.queue k := rfl
@[simp] theorem setFcfg_channel (f : FeedId) (x : FeedConfig) (k : ChannelId) :
    (s.setFcfg f x).channel k = s.channel k := rfl
@[simp] theorem setFcfg_joint (f : FeedId) (x : FeedConfig) (k : JointId) :
    (s.setFcfg f x).joint k = s.joint k := rfl
@[simp] theorem setFcfg_slot (f : FeedId) (x : FeedConfig) (k : SlotId) :
    (s.setFcfg f x).slot k = s.slot k := rfl
@[simp] theorem setFcfg_globals (f : FeedId) (x : FeedConfig) : (s.setFcfg f x).cfg.globals = s.cfg.globals := rfl
theorem setFcfg_fcfg (f k : FeedId) (x : FeedConfig) :
    (s.setFcfg f x).fcfg k = if f = k then x else s.fcfg k := by
  simp [setFcfg, fcfg, Vector.getElem_set, Fin.ext_iff]
@[simp] theorem setFcfg_fcfg_self (f : FeedId) (x : FeedConfig) : (s.setFcfg f x).fcfg f = x := by
  simp [setFcfg_fcfg]
theorem setFcfg_fcfg_ne {f k : FeedId} (h : k ≠ f) (x : FeedConfig) : (s.setFcfg f x).fcfg k = s.fcfg k := by
  simp [setFcfg_fcfg, h.symm]

/-! ### setJcfg -/

@[simp] theorem setJcfg_pending (j : JointId) (x : JointConfig) : (s.setJcfg j x).pending = s.pending := rfl
@[simp] theorem setJcfg_mode (j : JointId) (x : JointConfig) : (s.setJcfg j x).mode = s.mode := rfl
@[simp] theorem setJcfg_lineAddress (j : JointId) (x : JointConfig) : (s.setJcfg j x).lineAddress = s.lineAddress := rfl
@[simp] theorem setJcfg_districts (j : JointId) (x : JointConfig) : (s.setJcfg j x).districts = s.districts := rfl
@[simp] theorem setJcfg_monitors (j : JointId) (x : JointConfig) : (s.setJcfg j x).monitors = s.monitors := rfl
@[simp] theorem setJcfg_timers (j : JointId) (x : JointConfig) : (s.setJcfg j x).timers = s.timers := rfl
@[simp] theorem setJcfg_prescaler (j : JointId) (x : JointConfig) : (s.setJcfg j x).prescaler = s.prescaler := rfl
@[simp] theorem setJcfg_quarter (j : JointId) (x : JointConfig) : (s.setJcfg j x).quarter = s.quarter := rfl
@[simp] theorem setJcfg_sampled (j : JointId) (x : JointConfig) : (s.setJcfg j x).sampled = s.sampled := rfl
@[simp] theorem setJcfg_feeds (j : JointId) (x : JointConfig) : (s.setJcfg j x).feeds = s.feeds := rfl
@[simp] theorem setJcfg_episodes (j : JointId) (x : JointConfig) : (s.setJcfg j x).episodes = s.episodes := rfl
@[simp] theorem setJcfg_summaries (j : JointId) (x : JointConfig) : (s.setJcfg j x).summaries = s.summaries := rfl
@[simp] theorem setJcfg_queues (j : JointId) (x : JointConfig) : (s.setJcfg j x).queues = s.queues := rfl
@[simp] theorem setJcfg_channels (j : JointId) (x : JointConfig) : (s.setJcfg j x).channels = s.channels := rfl
@[simp] theorem setJcfg_lastGranted (j : JointId) (x : JointConfig) : (s.setJcfg j x).lastGranted = s.lastGranted := rfl
@[simp] theorem setJcfg_joints (j : JointId) (x : JointConfig) : (s.setJcfg j x).joints = s.joints := rfl
@[simp] theorem setJcfg_slots (j : JointId) (x : JointConfig) : (s.setJcfg j x).slots = s.slots := rfl
@[simp] theorem setJcfg_line (j : JointId) (x : JointConfig) : (s.setJcfg j x).line = s.line := rfl
@[simp] theorem setJcfg_image (j : JointId) (x : JointConfig) : (s.setJcfg j x).image = s.image := rfl
@[simp] theorem setJcfg_profileLost (j : JointId) (x : JointConfig) : (s.setJcfg j x).profileLost = s.profileLost := rfl
@[simp] theorem setJcfg_writing (j : JointId) (x : JointConfig) : (s.setJcfg j x).writing = s.writing := rfl
@[simp] theorem setJcfg_dcfg (j : JointId) (x : JointConfig) (k : DistrictId) :
    (s.setJcfg j x).dcfg k = s.dcfg k := rfl
@[simp] theorem setJcfg_fcfg (j : JointId) (x : JointConfig) (k : FeedId) :
    (s.setJcfg j x).fcfg k = s.fcfg k := rfl
@[simp] theorem setJcfg_district (j : JointId) (x : JointConfig) (k : DistrictId) :
    (s.setJcfg j x).district k = s.district k := rfl
@[simp] theorem setJcfg_monitor (j : JointId) (x : JointConfig) (k : DistrictId) :
    (s.setJcfg j x).monitor k = s.monitor k := rfl
@[simp] theorem setJcfg_timer (j : JointId) (x : JointConfig) (k : DistrictId) :
    (s.setJcfg j x).timer k = s.timer k := rfl
@[simp] theorem setJcfg_feed (j : JointId) (x : JointConfig) (k : FeedId) :
    (s.setJcfg j x).feed k = s.feed k := rfl
@[simp] theorem setJcfg_episode (j : JointId) (x : JointConfig) (k : FeedId) :
    (s.setJcfg j x).episode k = s.episode k := rfl
@[simp] theorem setJcfg_summary (j : JointId) (x : JointConfig) (k : FeedId) :
    (s.setJcfg j x).summary k = s.summary k := rfl
@[simp] theorem setJcfg_queue (j : JointId) (x : JointConfig) (k : FeedId) :
    (s.setJcfg j x).queue k = s.queue k := rfl
@[simp] theorem setJcfg_channel (j : JointId) (x : JointConfig) (k : ChannelId) :
    (s.setJcfg j x).channel k = s.channel k := rfl
@[simp] theorem setJcfg_joint (j : JointId) (x : JointConfig) (k : JointId) :
    (s.setJcfg j x).joint k = s.joint k := rfl
@[simp] theorem setJcfg_slot (j : JointId) (x : JointConfig) (k : SlotId) :
    (s.setJcfg j x).slot k = s.slot k := rfl
@[simp] theorem setJcfg_globals (j : JointId) (x : JointConfig) : (s.setJcfg j x).cfg.globals = s.cfg.globals := rfl
theorem setJcfg_jcfg (j k : JointId) (x : JointConfig) :
    (s.setJcfg j x).jcfg k = if j = k then x else s.jcfg k := by
  simp [setJcfg, jcfg, Vector.getElem_set, Fin.ext_iff]
@[simp] theorem setJcfg_jcfg_self (j : JointId) (x : JointConfig) : (s.setJcfg j x).jcfg j = x := by
  simp [setJcfg_jcfg]
theorem setJcfg_jcfg_ne {j k : JointId} (h : k ≠ j) (x : JointConfig) : (s.setJcfg j x).jcfg k = s.jcfg k := by
  simp [setJcfg_jcfg, h.symm]

/-! ### setGlobals -/

@[simp] theorem setGlobals_pending (g : Globals) : (s.setGlobals g).pending = s.pending := rfl
@[simp] theorem setGlobals_mode (g : Globals) : (s.setGlobals g).mode = s.mode := rfl
@[simp] theorem setGlobals_lineAddress (g : Globals) : (s.setGlobals g).lineAddress = s.lineAddress := rfl
@[simp] theorem setGlobals_cfg (g : Globals) : (s.setGlobals g).cfg = { s.cfg with globals := g } := rfl
@[simp] theorem setGlobals_districts (g : Globals) : (s.setGlobals g).districts = s.districts := rfl
@[simp] theorem setGlobals_monitors (g : Globals) : (s.setGlobals g).monitors = s.monitors := rfl
@[simp] theorem setGlobals_timers (g : Globals) : (s.setGlobals g).timers = s.timers := rfl
@[simp] theorem setGlobals_prescaler (g : Globals) : (s.setGlobals g).prescaler = s.prescaler := rfl
@[simp] theorem setGlobals_quarter (g : Globals) : (s.setGlobals g).quarter = s.quarter := rfl
@[simp] theorem setGlobals_sampled (g : Globals) : (s.setGlobals g).sampled = s.sampled := rfl
@[simp] theorem setGlobals_feeds (g : Globals) : (s.setGlobals g).feeds = s.feeds := rfl
@[simp] theorem setGlobals_episodes (g : Globals) : (s.setGlobals g).episodes = s.episodes := rfl
@[simp] theorem setGlobals_summaries (g : Globals) : (s.setGlobals g).summaries = s.summaries := rfl
@[simp] theorem setGlobals_queues (g : Globals) : (s.setGlobals g).queues = s.queues := rfl
@[simp] theorem setGlobals_channels (g : Globals) : (s.setGlobals g).channels = s.channels := rfl
@[simp] theorem setGlobals_lastGranted (g : Globals) : (s.setGlobals g).lastGranted = s.lastGranted := rfl
@[simp] theorem setGlobals_joints (g : Globals) : (s.setGlobals g).joints = s.joints := rfl
@[simp] theorem setGlobals_slots (g : Globals) : (s.setGlobals g).slots = s.slots := rfl
@[simp] theorem setGlobals_line (g : Globals) : (s.setGlobals g).line = s.line := rfl
@[simp] theorem setGlobals_image (g : Globals) : (s.setGlobals g).image = s.image := rfl
@[simp] theorem setGlobals_profileLost (g : Globals) : (s.setGlobals g).profileLost = s.profileLost := rfl
@[simp] theorem setGlobals_writing (g : Globals) : (s.setGlobals g).writing = s.writing := rfl
@[simp] theorem setGlobals_dcfg (g : Globals) (k : DistrictId) : (s.setGlobals g).dcfg k = s.dcfg k := rfl
@[simp] theorem setGlobals_fcfg (g : Globals) (k : FeedId) : (s.setGlobals g).fcfg k = s.fcfg k := rfl
@[simp] theorem setGlobals_jcfg (g : Globals) (k : JointId) : (s.setGlobals g).jcfg k = s.jcfg k := rfl
@[simp] theorem setGlobals_district (g : Globals) (k : DistrictId) : (s.setGlobals g).district k = s.district k := rfl
@[simp] theorem setGlobals_monitor (g : Globals) (k : DistrictId) : (s.setGlobals g).monitor k = s.monitor k := rfl
@[simp] theorem setGlobals_timer (g : Globals) (k : DistrictId) : (s.setGlobals g).timer k = s.timer k := rfl
@[simp] theorem setGlobals_feed (g : Globals) (k : FeedId) : (s.setGlobals g).feed k = s.feed k := rfl
@[simp] theorem setGlobals_episode (g : Globals) (k : FeedId) : (s.setGlobals g).episode k = s.episode k := rfl
@[simp] theorem setGlobals_summary (g : Globals) (k : FeedId) : (s.setGlobals g).summary k = s.summary k := rfl
@[simp] theorem setGlobals_queue (g : Globals) (k : FeedId) : (s.setGlobals g).queue k = s.queue k := rfl
@[simp] theorem setGlobals_channel (g : Globals) (k : ChannelId) : (s.setGlobals g).channel k = s.channel k := rfl
@[simp] theorem setGlobals_joint (g : Globals) (k : JointId) : (s.setGlobals g).joint k = s.joint k := rfl
@[simp] theorem setGlobals_slot (g : Globals) (k : SlotId) : (s.setGlobals g).slot k = s.slot k := rfl

/-! ### setMode -/

@[simp] theorem setMode_pending (m : Mode) : (s.setMode m).pending = s.pending := rfl
@[simp] theorem setMode_mode (m : Mode) : (s.setMode m).mode = m := rfl
@[simp] theorem setMode_lineAddress (m : Mode) : (s.setMode m).lineAddress = s.lineAddress := rfl
@[simp] theorem setMode_cfg (m : Mode) : (s.setMode m).cfg = s.cfg := rfl
@[simp] theorem setMode_districts (m : Mode) : (s.setMode m).districts = s.districts := rfl
@[simp] theorem setMode_monitors (m : Mode) : (s.setMode m).monitors = s.monitors := rfl
@[simp] theorem setMode_timers (m : Mode) : (s.setMode m).timers = s.timers := rfl
@[simp] theorem setMode_prescaler (m : Mode) : (s.setMode m).prescaler = s.prescaler := rfl
@[simp] theorem setMode_quarter (m : Mode) : (s.setMode m).quarter = s.quarter := rfl
@[simp] theorem setMode_sampled (m : Mode) : (s.setMode m).sampled = s.sampled := rfl
@[simp] theorem setMode_feeds (m : Mode) : (s.setMode m).feeds = s.feeds := rfl
@[simp] theorem setMode_episodes (m : Mode) : (s.setMode m).episodes = s.episodes := rfl
@[simp] theorem setMode_summaries (m : Mode) : (s.setMode m).summaries = s.summaries := rfl
@[simp] theorem setMode_queues (m : Mode) : (s.setMode m).queues = s.queues := rfl
@[simp] theorem setMode_channels (m : Mode) : (s.setMode m).channels = s.channels := rfl
@[simp] theorem setMode_lastGranted (m : Mode) : (s.setMode m).lastGranted = s.lastGranted := rfl
@[simp] theorem setMode_joints (m : Mode) : (s.setMode m).joints = s.joints := rfl
@[simp] theorem setMode_slots (m : Mode) : (s.setMode m).slots = s.slots := rfl
@[simp] theorem setMode_line (m : Mode) : (s.setMode m).line = s.line := rfl
@[simp] theorem setMode_image (m : Mode) : (s.setMode m).image = s.image := rfl
@[simp] theorem setMode_profileLost (m : Mode) : (s.setMode m).profileLost = s.profileLost := rfl
@[simp] theorem setMode_writing (m : Mode) : (s.setMode m).writing = s.writing := rfl
@[simp] theorem setMode_dcfg (m : Mode) (k : DistrictId) : (s.setMode m).dcfg k = s.dcfg k := rfl
@[simp] theorem setMode_fcfg (m : Mode) (k : FeedId) : (s.setMode m).fcfg k = s.fcfg k := rfl
@[simp] theorem setMode_jcfg (m : Mode) (k : JointId) : (s.setMode m).jcfg k = s.jcfg k := rfl
@[simp] theorem setMode_district (m : Mode) (k : DistrictId) : (s.setMode m).district k = s.district k := rfl
@[simp] theorem setMode_monitor (m : Mode) (k : DistrictId) : (s.setMode m).monitor k = s.monitor k := rfl
@[simp] theorem setMode_timer (m : Mode) (k : DistrictId) : (s.setMode m).timer k = s.timer k := rfl
@[simp] theorem setMode_feed (m : Mode) (k : FeedId) : (s.setMode m).feed k = s.feed k := rfl
@[simp] theorem setMode_episode (m : Mode) (k : FeedId) : (s.setMode m).episode k = s.episode k := rfl
@[simp] theorem setMode_summary (m : Mode) (k : FeedId) : (s.setMode m).summary k = s.summary k := rfl
@[simp] theorem setMode_queue (m : Mode) (k : FeedId) : (s.setMode m).queue k = s.queue k := rfl
@[simp] theorem setMode_channel (m : Mode) (k : ChannelId) : (s.setMode m).channel k = s.channel k := rfl
@[simp] theorem setMode_joint (m : Mode) (k : JointId) : (s.setMode m).joint k = s.joint k := rfl
@[simp] theorem setMode_slot (m : Mode) (k : SlotId) : (s.setMode m).slot k = s.slot k := rfl

/-! ### setLine -/

@[simp] theorem setLine_pending (l : Line) : (s.setLine l).pending = s.pending := rfl
@[simp] theorem setLine_mode (l : Line) : (s.setLine l).mode = s.mode := rfl
@[simp] theorem setLine_lineAddress (l : Line) : (s.setLine l).lineAddress = s.lineAddress := rfl
@[simp] theorem setLine_cfg (l : Line) : (s.setLine l).cfg = s.cfg := rfl
@[simp] theorem setLine_districts (l : Line) : (s.setLine l).districts = s.districts := rfl
@[simp] theorem setLine_monitors (l : Line) : (s.setLine l).monitors = s.monitors := rfl
@[simp] theorem setLine_timers (l : Line) : (s.setLine l).timers = s.timers := rfl
@[simp] theorem setLine_prescaler (l : Line) : (s.setLine l).prescaler = s.prescaler := rfl
@[simp] theorem setLine_quarter (l : Line) : (s.setLine l).quarter = s.quarter := rfl
@[simp] theorem setLine_sampled (l : Line) : (s.setLine l).sampled = s.sampled := rfl
@[simp] theorem setLine_feeds (l : Line) : (s.setLine l).feeds = s.feeds := rfl
@[simp] theorem setLine_episodes (l : Line) : (s.setLine l).episodes = s.episodes := rfl
@[simp] theorem setLine_summaries (l : Line) : (s.setLine l).summaries = s.summaries := rfl
@[simp] theorem setLine_queues (l : Line) : (s.setLine l).queues = s.queues := rfl
@[simp] theorem setLine_channels (l : Line) : (s.setLine l).channels = s.channels := rfl
@[simp] theorem setLine_lastGranted (l : Line) : (s.setLine l).lastGranted = s.lastGranted := rfl
@[simp] theorem setLine_joints (l : Line) : (s.setLine l).joints = s.joints := rfl
@[simp] theorem setLine_slots (l : Line) : (s.setLine l).slots = s.slots := rfl
@[simp] theorem setLine_line (l : Line) : (s.setLine l).line = l := rfl
@[simp] theorem setLine_image (l : Line) : (s.setLine l).image = s.image := rfl
@[simp] theorem setLine_profileLost (l : Line) : (s.setLine l).profileLost = s.profileLost := rfl
@[simp] theorem setLine_writing (l : Line) : (s.setLine l).writing = s.writing := rfl
@[simp] theorem setLine_dcfg (l : Line) (k : DistrictId) : (s.setLine l).dcfg k = s.dcfg k := rfl
@[simp] theorem setLine_fcfg (l : Line) (k : FeedId) : (s.setLine l).fcfg k = s.fcfg k := rfl
@[simp] theorem setLine_jcfg (l : Line) (k : JointId) : (s.setLine l).jcfg k = s.jcfg k := rfl
@[simp] theorem setLine_district (l : Line) (k : DistrictId) : (s.setLine l).district k = s.district k := rfl
@[simp] theorem setLine_monitor (l : Line) (k : DistrictId) : (s.setLine l).monitor k = s.monitor k := rfl
@[simp] theorem setLine_timer (l : Line) (k : DistrictId) : (s.setLine l).timer k = s.timer k := rfl
@[simp] theorem setLine_feed (l : Line) (k : FeedId) : (s.setLine l).feed k = s.feed k := rfl
@[simp] theorem setLine_episode (l : Line) (k : FeedId) : (s.setLine l).episode k = s.episode k := rfl
@[simp] theorem setLine_summary (l : Line) (k : FeedId) : (s.setLine l).summary k = s.summary k := rfl
@[simp] theorem setLine_queue (l : Line) (k : FeedId) : (s.setLine l).queue k = s.queue k := rfl
@[simp] theorem setLine_channel (l : Line) (k : ChannelId) : (s.setLine l).channel k = s.channel k := rfl
@[simp] theorem setLine_joint (l : Line) (k : JointId) : (s.setLine l).joint k = s.joint k := rfl
@[simp] theorem setLine_slot (l : Line) (k : SlotId) : (s.setLine l).slot k = s.slot k := rfl

/-! ### setClock -/

@[simp] theorem setClock_pending (p q : Nat) : (s.setClock p q).pending = s.pending := rfl
@[simp] theorem setClock_mode (p q : Nat) : (s.setClock p q).mode = s.mode := rfl
@[simp] theorem setClock_lineAddress (p q : Nat) : (s.setClock p q).lineAddress = s.lineAddress := rfl
@[simp] theorem setClock_cfg (p q : Nat) : (s.setClock p q).cfg = s.cfg := rfl
@[simp] theorem setClock_districts (p q : Nat) : (s.setClock p q).districts = s.districts := rfl
@[simp] theorem setClock_monitors (p q : Nat) : (s.setClock p q).monitors = s.monitors := rfl
@[simp] theorem setClock_timers (p q : Nat) : (s.setClock p q).timers = s.timers := rfl
@[simp] theorem setClock_prescaler (p q : Nat) : (s.setClock p q).prescaler = p := rfl
@[simp] theorem setClock_quarter (p q : Nat) : (s.setClock p q).quarter = q := rfl
@[simp] theorem setClock_sampled (p q : Nat) : (s.setClock p q).sampled = s.sampled := rfl
@[simp] theorem setClock_feeds (p q : Nat) : (s.setClock p q).feeds = s.feeds := rfl
@[simp] theorem setClock_episodes (p q : Nat) : (s.setClock p q).episodes = s.episodes := rfl
@[simp] theorem setClock_summaries (p q : Nat) : (s.setClock p q).summaries = s.summaries := rfl
@[simp] theorem setClock_queues (p q : Nat) : (s.setClock p q).queues = s.queues := rfl
@[simp] theorem setClock_channels (p q : Nat) : (s.setClock p q).channels = s.channels := rfl
@[simp] theorem setClock_lastGranted (p q : Nat) : (s.setClock p q).lastGranted = s.lastGranted := rfl
@[simp] theorem setClock_joints (p q : Nat) : (s.setClock p q).joints = s.joints := rfl
@[simp] theorem setClock_slots (p q : Nat) : (s.setClock p q).slots = s.slots := rfl
@[simp] theorem setClock_line (p q : Nat) : (s.setClock p q).line = s.line := rfl
@[simp] theorem setClock_image (p q : Nat) : (s.setClock p q).image = s.image := rfl
@[simp] theorem setClock_profileLost (p q : Nat) : (s.setClock p q).profileLost = s.profileLost := rfl
@[simp] theorem setClock_writing (p q : Nat) : (s.setClock p q).writing = s.writing := rfl
@[simp] theorem setClock_dcfg (p q : Nat) (k : DistrictId) : (s.setClock p q).dcfg k = s.dcfg k := rfl
@[simp] theorem setClock_fcfg (p q : Nat) (k : FeedId) : (s.setClock p q).fcfg k = s.fcfg k := rfl
@[simp] theorem setClock_jcfg (p q : Nat) (k : JointId) : (s.setClock p q).jcfg k = s.jcfg k := rfl
@[simp] theorem setClock_district (p q : Nat) (k : DistrictId) : (s.setClock p q).district k = s.district k := rfl
@[simp] theorem setClock_monitor (p q : Nat) (k : DistrictId) : (s.setClock p q).monitor k = s.monitor k := rfl
@[simp] theorem setClock_timer (p q : Nat) (k : DistrictId) : (s.setClock p q).timer k = s.timer k := rfl
@[simp] theorem setClock_feed (p q : Nat) (k : FeedId) : (s.setClock p q).feed k = s.feed k := rfl
@[simp] theorem setClock_episode (p q : Nat) (k : FeedId) : (s.setClock p q).episode k = s.episode k := rfl
@[simp] theorem setClock_summary (p q : Nat) (k : FeedId) : (s.setClock p q).summary k = s.summary k := rfl
@[simp] theorem setClock_queue (p q : Nat) (k : FeedId) : (s.setClock p q).queue k = s.queue k := rfl
@[simp] theorem setClock_channel (p q : Nat) (k : ChannelId) : (s.setClock p q).channel k = s.channel k := rfl
@[simp] theorem setClock_joint (p q : Nat) (k : JointId) : (s.setClock p q).joint k = s.joint k := rfl
@[simp] theorem setClock_slot (p q : Nat) (k : SlotId) : (s.setClock p q).slot k = s.slot k := rfl

/-! ### setSampled -/

@[simp] theorem setSampled_pending (ds : BitVec 16) : (s.setSampled ds).pending = s.pending := rfl
@[simp] theorem setSampled_mode (ds : BitVec 16) : (s.setSampled ds).mode = s.mode := rfl
@[simp] theorem setSampled_lineAddress (ds : BitVec 16) : (s.setSampled ds).lineAddress = s.lineAddress := rfl
@[simp] theorem setSampled_cfg (ds : BitVec 16) : (s.setSampled ds).cfg = s.cfg := rfl
@[simp] theorem setSampled_districts (ds : BitVec 16) : (s.setSampled ds).districts = s.districts := rfl
@[simp] theorem setSampled_monitors (ds : BitVec 16) : (s.setSampled ds).monitors = s.monitors := rfl
@[simp] theorem setSampled_timers (ds : BitVec 16) : (s.setSampled ds).timers = s.timers := rfl
@[simp] theorem setSampled_prescaler (ds : BitVec 16) : (s.setSampled ds).prescaler = s.prescaler := rfl
@[simp] theorem setSampled_quarter (ds : BitVec 16) : (s.setSampled ds).quarter = s.quarter := rfl
@[simp] theorem setSampled_sampled (ds : BitVec 16) : (s.setSampled ds).sampled = ds := rfl
@[simp] theorem setSampled_feeds (ds : BitVec 16) : (s.setSampled ds).feeds = s.feeds := rfl
@[simp] theorem setSampled_episodes (ds : BitVec 16) : (s.setSampled ds).episodes = s.episodes := rfl
@[simp] theorem setSampled_summaries (ds : BitVec 16) : (s.setSampled ds).summaries = s.summaries := rfl
@[simp] theorem setSampled_queues (ds : BitVec 16) : (s.setSampled ds).queues = s.queues := rfl
@[simp] theorem setSampled_channels (ds : BitVec 16) : (s.setSampled ds).channels = s.channels := rfl
@[simp] theorem setSampled_lastGranted (ds : BitVec 16) : (s.setSampled ds).lastGranted = s.lastGranted := rfl
@[simp] theorem setSampled_joints (ds : BitVec 16) : (s.setSampled ds).joints = s.joints := rfl
@[simp] theorem setSampled_slots (ds : BitVec 16) : (s.setSampled ds).slots = s.slots := rfl
@[simp] theorem setSampled_line (ds : BitVec 16) : (s.setSampled ds).line = s.line := rfl
@[simp] theorem setSampled_image (ds : BitVec 16) : (s.setSampled ds).image = s.image := rfl
@[simp] theorem setSampled_profileLost (ds : BitVec 16) : (s.setSampled ds).profileLost = s.profileLost := rfl
@[simp] theorem setSampled_writing (ds : BitVec 16) : (s.setSampled ds).writing = s.writing := rfl
@[simp] theorem setSampled_dcfg (ds : BitVec 16) (k : DistrictId) : (s.setSampled ds).dcfg k = s.dcfg k := rfl
@[simp] theorem setSampled_fcfg (ds : BitVec 16) (k : FeedId) : (s.setSampled ds).fcfg k = s.fcfg k := rfl
@[simp] theorem setSampled_jcfg (ds : BitVec 16) (k : JointId) : (s.setSampled ds).jcfg k = s.jcfg k := rfl
@[simp] theorem setSampled_district (ds : BitVec 16) (k : DistrictId) : (s.setSampled ds).district k = s.district k := rfl
@[simp] theorem setSampled_monitor (ds : BitVec 16) (k : DistrictId) : (s.setSampled ds).monitor k = s.monitor k := rfl
@[simp] theorem setSampled_timer (ds : BitVec 16) (k : DistrictId) : (s.setSampled ds).timer k = s.timer k := rfl
@[simp] theorem setSampled_feed (ds : BitVec 16) (k : FeedId) : (s.setSampled ds).feed k = s.feed k := rfl
@[simp] theorem setSampled_episode (ds : BitVec 16) (k : FeedId) : (s.setSampled ds).episode k = s.episode k := rfl
@[simp] theorem setSampled_summary (ds : BitVec 16) (k : FeedId) : (s.setSampled ds).summary k = s.summary k := rfl
@[simp] theorem setSampled_queue (ds : BitVec 16) (k : FeedId) : (s.setSampled ds).queue k = s.queue k := rfl
@[simp] theorem setSampled_channel (ds : BitVec 16) (k : ChannelId) : (s.setSampled ds).channel k = s.channel k := rfl
@[simp] theorem setSampled_joint (ds : BitVec 16) (k : JointId) : (s.setSampled ds).joint k = s.joint k := rfl
@[simp] theorem setSampled_slot (ds : BitVec 16) (k : SlotId) : (s.setSampled ds).slot k = s.slot k := rfl

/-! ### setLastGranted -/

@[simp] theorem setLastGranted_pending (f : FeedId) : (s.setLastGranted f).pending = s.pending := rfl
@[simp] theorem setLastGranted_mode (f : FeedId) : (s.setLastGranted f).mode = s.mode := rfl
@[simp] theorem setLastGranted_lineAddress (f : FeedId) : (s.setLastGranted f).lineAddress = s.lineAddress := rfl
@[simp] theorem setLastGranted_cfg (f : FeedId) : (s.setLastGranted f).cfg = s.cfg := rfl
@[simp] theorem setLastGranted_districts (f : FeedId) : (s.setLastGranted f).districts = s.districts := rfl
@[simp] theorem setLastGranted_monitors (f : FeedId) : (s.setLastGranted f).monitors = s.monitors := rfl
@[simp] theorem setLastGranted_timers (f : FeedId) : (s.setLastGranted f).timers = s.timers := rfl
@[simp] theorem setLastGranted_prescaler (f : FeedId) : (s.setLastGranted f).prescaler = s.prescaler := rfl
@[simp] theorem setLastGranted_quarter (f : FeedId) : (s.setLastGranted f).quarter = s.quarter := rfl
@[simp] theorem setLastGranted_sampled (f : FeedId) : (s.setLastGranted f).sampled = s.sampled := rfl
@[simp] theorem setLastGranted_feeds (f : FeedId) : (s.setLastGranted f).feeds = s.feeds := rfl
@[simp] theorem setLastGranted_episodes (f : FeedId) : (s.setLastGranted f).episodes = s.episodes := rfl
@[simp] theorem setLastGranted_summaries (f : FeedId) : (s.setLastGranted f).summaries = s.summaries := rfl
@[simp] theorem setLastGranted_queues (f : FeedId) : (s.setLastGranted f).queues = s.queues := rfl
@[simp] theorem setLastGranted_channels (f : FeedId) : (s.setLastGranted f).channels = s.channels := rfl
@[simp] theorem setLastGranted_lastGranted (f : FeedId) : (s.setLastGranted f).lastGranted = f := rfl
@[simp] theorem setLastGranted_joints (f : FeedId) : (s.setLastGranted f).joints = s.joints := rfl
@[simp] theorem setLastGranted_slots (f : FeedId) : (s.setLastGranted f).slots = s.slots := rfl
@[simp] theorem setLastGranted_line (f : FeedId) : (s.setLastGranted f).line = s.line := rfl
@[simp] theorem setLastGranted_image (f : FeedId) : (s.setLastGranted f).image = s.image := rfl
@[simp] theorem setLastGranted_profileLost (f : FeedId) : (s.setLastGranted f).profileLost = s.profileLost := rfl
@[simp] theorem setLastGranted_writing (f : FeedId) : (s.setLastGranted f).writing = s.writing := rfl
@[simp] theorem setLastGranted_dcfg (f : FeedId) (k : DistrictId) : (s.setLastGranted f).dcfg k = s.dcfg k := rfl
@[simp] theorem setLastGranted_fcfg (f : FeedId) (k : FeedId) : (s.setLastGranted f).fcfg k = s.fcfg k := rfl
@[simp] theorem setLastGranted_jcfg (f : FeedId) (k : JointId) : (s.setLastGranted f).jcfg k = s.jcfg k := rfl
@[simp] theorem setLastGranted_district (f : FeedId) (k : DistrictId) : (s.setLastGranted f).district k = s.district k := rfl
@[simp] theorem setLastGranted_monitor (f : FeedId) (k : DistrictId) : (s.setLastGranted f).monitor k = s.monitor k := rfl
@[simp] theorem setLastGranted_timer (f : FeedId) (k : DistrictId) : (s.setLastGranted f).timer k = s.timer k := rfl
@[simp] theorem setLastGranted_feed (f : FeedId) (k : FeedId) : (s.setLastGranted f).feed k = s.feed k := rfl
@[simp] theorem setLastGranted_episode (f : FeedId) (k : FeedId) : (s.setLastGranted f).episode k = s.episode k := rfl
@[simp] theorem setLastGranted_summary (f : FeedId) (k : FeedId) : (s.setLastGranted f).summary k = s.summary k := rfl
@[simp] theorem setLastGranted_queue (f : FeedId) (k : FeedId) : (s.setLastGranted f).queue k = s.queue k := rfl
@[simp] theorem setLastGranted_channel (f : FeedId) (k : ChannelId) : (s.setLastGranted f).channel k = s.channel k := rfl
@[simp] theorem setLastGranted_joint (f : FeedId) (k : JointId) : (s.setLastGranted f).joint k = s.joint k := rfl
@[simp] theorem setLastGranted_slot (f : FeedId) (k : SlotId) : (s.setLastGranted f).slot k = s.slot k := rfl

/-! ### setProfileStore -/

@[simp] theorem setProfileStore_pending (i : Option Profile) (l : Bool) (w : Option Profile) : (s.setProfileStore i l w).pending = s.pending := rfl
@[simp] theorem setProfileStore_mode (i : Option Profile) (l : Bool) (w : Option Profile) : (s.setProfileStore i l w).mode = s.mode := rfl
@[simp] theorem setProfileStore_lineAddress (i : Option Profile) (l : Bool) (w : Option Profile) : (s.setProfileStore i l w).lineAddress = s.lineAddress := rfl
@[simp] theorem setProfileStore_cfg (i : Option Profile) (l : Bool) (w : Option Profile) : (s.setProfileStore i l w).cfg = s.cfg := rfl
@[simp] theorem setProfileStore_districts (i : Option Profile) (l : Bool) (w : Option Profile) : (s.setProfileStore i l w).districts = s.districts := rfl
@[simp] theorem setProfileStore_monitors (i : Option Profile) (l : Bool) (w : Option Profile) : (s.setProfileStore i l w).monitors = s.monitors := rfl
@[simp] theorem setProfileStore_timers (i : Option Profile) (l : Bool) (w : Option Profile) : (s.setProfileStore i l w).timers = s.timers := rfl
@[simp] theorem setProfileStore_prescaler (i : Option Profile) (l : Bool) (w : Option Profile) : (s.setProfileStore i l w).prescaler = s.prescaler := rfl
@[simp] theorem setProfileStore_quarter (i : Option Profile) (l : Bool) (w : Option Profile) : (s.setProfileStore i l w).quarter = s.quarter := rfl
@[simp] theorem setProfileStore_sampled (i : Option Profile) (l : Bool) (w : Option Profile) : (s.setProfileStore i l w).sampled = s.sampled := rfl
@[simp] theorem setProfileStore_feeds (i : Option Profile) (l : Bool) (w : Option Profile) : (s.setProfileStore i l w).feeds = s.feeds := rfl
@[simp] theorem setProfileStore_episodes (i : Option Profile) (l : Bool) (w : Option Profile) : (s.setProfileStore i l w).episodes = s.episodes := rfl
@[simp] theorem setProfileStore_summaries (i : Option Profile) (l : Bool) (w : Option Profile) : (s.setProfileStore i l w).summaries = s.summaries := rfl
@[simp] theorem setProfileStore_queues (i : Option Profile) (l : Bool) (w : Option Profile) : (s.setProfileStore i l w).queues = s.queues := rfl
@[simp] theorem setProfileStore_channels (i : Option Profile) (l : Bool) (w : Option Profile) : (s.setProfileStore i l w).channels = s.channels := rfl
@[simp] theorem setProfileStore_lastGranted (i : Option Profile) (l : Bool) (w : Option Profile) : (s.setProfileStore i l w).lastGranted = s.lastGranted := rfl
@[simp] theorem setProfileStore_joints (i : Option Profile) (l : Bool) (w : Option Profile) : (s.setProfileStore i l w).joints = s.joints := rfl
@[simp] theorem setProfileStore_slots (i : Option Profile) (l : Bool) (w : Option Profile) : (s.setProfileStore i l w).slots = s.slots := rfl
@[simp] theorem setProfileStore_line (i : Option Profile) (l : Bool) (w : Option Profile) : (s.setProfileStore i l w).line = s.line := rfl
@[simp] theorem setProfileStore_image (i : Option Profile) (l : Bool) (w : Option Profile) : (s.setProfileStore i l w).image = i := rfl
@[simp] theorem setProfileStore_profileLost (i : Option Profile) (l : Bool) (w : Option Profile) : (s.setProfileStore i l w).profileLost = l := rfl
@[simp] theorem setProfileStore_writing (i : Option Profile) (l : Bool) (w : Option Profile) : (s.setProfileStore i l w).writing = w := rfl
@[simp] theorem setProfileStore_dcfg (i : Option Profile) (l : Bool) (w : Option Profile) (k : DistrictId) : (s.setProfileStore i l w).dcfg k = s.dcfg k := rfl
@[simp] theorem setProfileStore_fcfg (i : Option Profile) (l : Bool) (w : Option Profile) (k : FeedId) : (s.setProfileStore i l w).fcfg k = s.fcfg k := rfl
@[simp] theorem setProfileStore_jcfg (i : Option Profile) (l : Bool) (w : Option Profile) (k : JointId) : (s.setProfileStore i l w).jcfg k = s.jcfg k := rfl
@[simp] theorem setProfileStore_district (i : Option Profile) (l : Bool) (w : Option Profile) (k : DistrictId) : (s.setProfileStore i l w).district k = s.district k := rfl
@[simp] theorem setProfileStore_monitor (i : Option Profile) (l : Bool) (w : Option Profile) (k : DistrictId) : (s.setProfileStore i l w).monitor k = s.monitor k := rfl
@[simp] theorem setProfileStore_timer (i : Option Profile) (l : Bool) (w : Option Profile) (k : DistrictId) : (s.setProfileStore i l w).timer k = s.timer k := rfl
@[simp] theorem setProfileStore_feed (i : Option Profile) (l : Bool) (w : Option Profile) (k : FeedId) : (s.setProfileStore i l w).feed k = s.feed k := rfl
@[simp] theorem setProfileStore_episode (i : Option Profile) (l : Bool) (w : Option Profile) (k : FeedId) : (s.setProfileStore i l w).episode k = s.episode k := rfl
@[simp] theorem setProfileStore_summary (i : Option Profile) (l : Bool) (w : Option Profile) (k : FeedId) : (s.setProfileStore i l w).summary k = s.summary k := rfl
@[simp] theorem setProfileStore_queue (i : Option Profile) (l : Bool) (w : Option Profile) (k : FeedId) : (s.setProfileStore i l w).queue k = s.queue k := rfl
@[simp] theorem setProfileStore_channel (i : Option Profile) (l : Bool) (w : Option Profile) (k : ChannelId) : (s.setProfileStore i l w).channel k = s.channel k := rfl
@[simp] theorem setProfileStore_joint (i : Option Profile) (l : Bool) (w : Option Profile) (k : JointId) : (s.setProfileStore i l w).joint k = s.joint k := rfl
@[simp] theorem setProfileStore_slot (i : Option Profile) (l : Bool) (w : Option Profile) (k : SlotId) : (s.setProfileStore i l w).slot k = s.slot k := rfl

/-! ### setPending -/

@[simp] theorem setPending_pending (q : List Instr) : (s.setPending q).pending = q := rfl
@[simp] theorem setPending_mode (q : List Instr) : (s.setPending q).mode = s.mode := rfl
@[simp] theorem setPending_lineAddress (q : List Instr) : (s.setPending q).lineAddress = s.lineAddress := rfl
@[simp] theorem setPending_cfg (q : List Instr) : (s.setPending q).cfg = s.cfg := rfl
@[simp] theorem setPending_districts (q : List Instr) : (s.setPending q).districts = s.districts := rfl
@[simp] theorem setPending_monitors (q : List Instr) : (s.setPending q).monitors = s.monitors := rfl
@[simp] theorem setPending_timers (q : List Instr) : (s.setPending q).timers = s.timers := rfl
@[simp] theorem setPending_prescaler (q : List Instr) : (s.setPending q).prescaler = s.prescaler := rfl
@[simp] theorem setPending_quarter (q : List Instr) : (s.setPending q).quarter = s.quarter := rfl
@[simp] theorem setPending_sampled (q : List Instr) : (s.setPending q).sampled = s.sampled := rfl
@[simp] theorem setPending_feeds (q : List Instr) : (s.setPending q).feeds = s.feeds := rfl
@[simp] theorem setPending_episodes (q : List Instr) : (s.setPending q).episodes = s.episodes := rfl
@[simp] theorem setPending_summaries (q : List Instr) : (s.setPending q).summaries = s.summaries := rfl
@[simp] theorem setPending_queues (q : List Instr) : (s.setPending q).queues = s.queues := rfl
@[simp] theorem setPending_channels (q : List Instr) : (s.setPending q).channels = s.channels := rfl
@[simp] theorem setPending_lastGranted (q : List Instr) : (s.setPending q).lastGranted = s.lastGranted := rfl
@[simp] theorem setPending_joints (q : List Instr) : (s.setPending q).joints = s.joints := rfl
@[simp] theorem setPending_slots (q : List Instr) : (s.setPending q).slots = s.slots := rfl
@[simp] theorem setPending_line (q : List Instr) : (s.setPending q).line = s.line := rfl
@[simp] theorem setPending_image (q : List Instr) : (s.setPending q).image = s.image := rfl
@[simp] theorem setPending_profileLost (q : List Instr) : (s.setPending q).profileLost = s.profileLost := rfl
@[simp] theorem setPending_writing (q : List Instr) : (s.setPending q).writing = s.writing := rfl
@[simp] theorem setPending_dcfg (q : List Instr) (k : DistrictId) : (s.setPending q).dcfg k = s.dcfg k := rfl
@[simp] theorem setPending_fcfg (q : List Instr) (k : FeedId) : (s.setPending q).fcfg k = s.fcfg k := rfl
@[simp] theorem setPending_jcfg (q : List Instr) (k : JointId) : (s.setPending q).jcfg k = s.jcfg k := rfl
@[simp] theorem setPending_district (q : List Instr) (k : DistrictId) : (s.setPending q).district k = s.district k := rfl
@[simp] theorem setPending_monitor (q : List Instr) (k : DistrictId) : (s.setPending q).monitor k = s.monitor k := rfl
@[simp] theorem setPending_timer (q : List Instr) (k : DistrictId) : (s.setPending q).timer k = s.timer k := rfl
@[simp] theorem setPending_feed (q : List Instr) (k : FeedId) : (s.setPending q).feed k = s.feed k := rfl
@[simp] theorem setPending_episode (q : List Instr) (k : FeedId) : (s.setPending q).episode k = s.episode k := rfl
@[simp] theorem setPending_summary (q : List Instr) (k : FeedId) : (s.setPending q).summary k = s.summary k := rfl
@[simp] theorem setPending_queue (q : List Instr) (k : FeedId) : (s.setPending q).queue k = s.queue k := rfl
@[simp] theorem setPending_channel (q : List Instr) (k : ChannelId) : (s.setPending q).channel k = s.channel k := rfl
@[simp] theorem setPending_joint (q : List Instr) (k : JointId) : (s.setPending q).joint k = s.joint k := rfl
@[simp] theorem setPending_slot (q : List Instr) (k : SlotId) : (s.setPending q).slot k = s.slot k := rfl

end State

end Sys2Proof.Machine
end

