-- ==== Sys2Proof/Laws/Frames.lean ====
section
/-! SUPPORT. What the shared operations of recovery leave alone: one lemma per operation. A property of the state
that the single updates of recovery keep is kept by every operation of recovery; the properties at the end of the
file are of that kind. -/

namespace Sys2Proof.Machine

/-- A property that every single update of recovery keeps: those of the dynamic records but for the holders of a
district and the node of a slot. -/
structure Keeps (P : State → Prop) : Prop where
  district : ∀ s d r, r.holders = (s.district d).holders → P s → P (s.setDistrict d r)
  monitor : ∀ s d m, P s → P (s.setMonitor d m)
  sampled : ∀ s ds, P s → P (s.setSampled ds)
  timer : ∀ s d x, P s → P (s.setTimer d x)
  feed : ∀ s f x, P s → P (s.setFeed f x)
  episode : ∀ s f x, P s → P (s.setEpisode f x)
  summary : ∀ s f x, P s → P (s.setSummary f x)
  queue : ∀ s f x, P s → P (s.setQueue f x)
  channel : ∀ s c x, P s → P (s.setChannel c x)
  lastGranted : ∀ s f, P s → P (s.setLastGranted f)
  slot : ∀ s n x, x.map Slot.node = (s.slot n).map Slot.node → P s → P (s.setSlot n x)

variable {P : State → Prop} {t : State}

/-! ### Walks -/

theorem foldl_keeps {α : Type} (l : List α) (g : State → α → State)
    (hg : ∀ t a, P t → P (g t a)) :
    ∀ t, P t → P (l.foldl g t) := by
  induction l with
  | nil => intro t h; exact h
  | cons a l ih => intro t h; exact ih _ (hg t a h)

theorem forDistricts_keeps {g : DistrictId → State → State}
    (hg : ∀ d t, P t → P (g d t)) (h : P t) : P (forDistricts g t) :=
  foldl_keeps _ _ (fun t d => hg d t) t h
theorem forChannels_keeps {g : ChannelId → State → State}
    (hg : ∀ c t, P t → P (g c t)) (h : P t) : P (forChannels g t) :=
  foldl_keeps _ _ (fun t c => hg c t) t h
theorem forFeeds_keeps {g : FeedId → State → State}
    (hg : ∀ f t, P t → P (g f t)) (h : P t) : P (forFeeds g t) :=
  foldl_keeps _ _ (fun t f => hg f t) t h
theorem forSlots_keeps {g : SlotId → State → State}
    (hg : ∀ n t, P t → P (g n t)) (h : P t) : P (forSlots g t) :=
  foldl_keeps _ _ (fun t n => hg n t) t h

/-! ### Single records -/

theorem modDistrict_keeps (hP : Keeps P) (d : DistrictId) (g : District → District)
    (hg : ∀ r, (g r).holders = r.holders) (h : P t) : P (t.modDistrict d g) := hP.district _ _ _ (hg _) h
theorem modMonitor_keeps (hP : Keeps P) (d : DistrictId) (g : Monitor → Monitor) (h : P t) :
    P (t.modMonitor d g) := hP.monitor _ d _ h
theorem modFeed_keeps (hP : Keeps P) (f : FeedId) (g : Feed → Feed) (h : P t) : P (t.modFeed f g) :=
  hP.feed _ f _ h
theorem modEpisode_keeps (hP : Keeps P) (f : FeedId) (g : Episode → Episode) (h : P t) :
    P (t.modEpisode f g) := hP.episode _ f _ h
theorem modChannel_keeps (hP : Keeps P) (c : ChannelId) (g : Probe → Probe) (h : P t) :
    P (t.modChannel c g) := hP.channel _ c _ h
theorem modSlot_keeps (hP : Keeps P) (n : SlotId) (g : Slot → Slot) (hg : ∀ x, (g x).node = x.node) (h : P t) :
    P (t.modSlot n g) := by
  refine hP.slot _ _ _ ?_ h
  cases t.slot n <;> simp [hg]
theorem setSt_keeps (hP : Keeps P) (d : DistrictId) (x : DistrictState) (h : P t) : P (setSt d x t) :=
  modDistrict_keeps hP d _ (fun _ => rfl) h
theorem clearIntegrator_keeps (hP : Keeps P) (d : DistrictId) (h : P t) : P (clearIntegrator d t) :=
  modMonitor_keeps hP d _ h

/-! ### Marks and timers -/

theorem markDistrict_keeps (hP : Keeps P) (k : List Mark) (d : DistrictId) (h : P t) :
    P (markDistrict k d t) := forSlots_keeps (fun n _ => modSlot_keeps hP n _ (fun x => by split <;> rfl)) h
theorem markFeed_keeps (hP : Keeps P) (f : FeedId) (h : P t) : P (markFeed f t) :=
  forSlots_keeps (fun n _ => modSlot_keeps hP n _ (fun x => by split <;> rfl)) h
theorem markJoint_keeps (hP : Keeps P) (j : JointId) (h : P t) : P (markJoint j t) :=
  forSlots_keeps (fun n _ => modSlot_keeps hP n _ (fun x => by split <;> rfl)) h
theorem loadTimer_keeps (hP : Keeps P) (d : DistrictId) (p : Purpose) (n : Nat) (h : P t) :
    P (loadTimer d p n t) := hP.timer _ d _ h
theorem retainTimer_keeps (hP : Keeps P) (d : DistrictId) (h : P t) : P (retainTimer d t) :=
  hP.timer _ d _ h
theorem runOnTimer_keeps (hP : Keeps P) (d : DistrictId) (h : P t) : P (runOnTimer d t) :=
  loadTimer_keeps hP d _ _ h
theorem clearTimer_keeps (hP : Keeps P) (d : DistrictId) (h : P t) : P (clearTimer d t) :=
  hP.timer _ d _ h
theorem retainCount_keeps (hP : Keeps P) (d : DistrictId) (n : Nat) (h : P t) : P (retainCount d n t) :=
  hP.timer _ d _ h

/-! ### Queues and states -/

theorem removeEntry_keeps (hP : Keeps P) (d : DistrictId) (h : P t) : P (removeEntry d t) :=
  hP.queue _ _ _ h
theorem placeEntry_keeps (hP : Keeps P) (d : DistrictId) (k : EntryKind) (h : P t) : P (placeEntry d k t) :=
  hP.queue _ _ _ h
theorem becomeQueued_keeps (hP : Keeps P) (d : DistrictId) (h : P t) : P (becomeQueued d t) :=
  placeEntry_keeps hP d _ (setSt_keeps hP d _ h)
theorem becomeAwaitingGrant_keeps (hP : Keeps P) (d : DistrictId) (h : P t) :
    P (becomeAwaitingGrant d t) := loadTimer_keeps hP d _ _ (setSt_keeps hP d _ h)
theorem loadPatrol_keeps (hP : Keeps P) (d : DistrictId) (h : P t) : P (loadPatrol d t) :=
  loadTimer_keeps hP d _ _ h
theorem enterLocked_keeps (hP : Keeps P) (d : DistrictId) (c : LockCause) (h : P t) :
    P (enterLocked d c t) := by
  unfold enterLocked
  dsimp only
  split
  · exact loadPatrol_keeps hP d (setSt_keeps hP d _ h)
  · exact clearTimer_keeps hP d (setSt_keeps hP d _ h)
theorem setLook_keeps (hP : Keeps P) (d : DistrictId) (x : LookStatus) (h : P t) : P (setLook d x t) := by
  unfold setLook
  split
  · exact setSt_keeps hP d _ h
  · exact h
theorem raiseFailures_keeps (hP : Keeps P) (d : DistrictId) (h : P t) : P (raiseFailures d t) :=
  modDistrict_keeps hP d _ (fun _ => rfl) h
theorem setFailures_keeps (hP : Keeps P) (d : DistrictId) (n : Nat) (h : P t) : P (setFailures d n t) :=
  modDistrict_keeps hP d _ (fun _ => rfl) h
theorem endProbation_keeps (hP : Keeps P) (d : DistrictId) (h : P t) : P (endProbation d t) := by
  unfold endProbation
  split
  · exact clearTimer_keeps hP d (modDistrict_keeps hP d _ (fun _ => rfl) h)
  · exact h
theorem restorePolarity_keeps (hP : Keeps P) (d : DistrictId) (h : P t) : P (restorePolarity d t) := by
  unfold restorePolarity
  split
  · exact modDistrict_keeps hP d _ (fun _ => rfl) (modMonitor_keeps hP d _ h)
  · exact h
theorem abandonWindow_keeps (hP : Keeps P) (d : DistrictId) (h : P t) : P (abandonWindow d t) :=
  clearIntegrator_keeps hP d (restorePolarity_keeps hP d h)
theorem stopWaiting_keeps (hP : Keeps P) (f : FeedId) (c : ChannelId) (h : P t) : P (stopWaiting f c t) :=
  modEpisode_keeps hP f _ h
theorem endProbe_keeps (hP : Keeps P) (c : ChannelId) (h : P t) : P (endProbe c t) := by
  unfold endProbe
  split
  · exact hP.channel _ c _ (stopWaiting_keeps hP _ c (abandonWindow_keeps hP _ h))
  · exact h
theorem dropLook_keeps (hP : Keeps P) (d : DistrictId) (h : P t) : P (dropLook d t) := by
  unfold dropLook
  split
  · exact setSt_keeps hP d _ (removeEntry_keeps hP d h)
  · refine setSt_keeps hP d _ ?_
    split
    · exact endProbe_keeps hP _ h
    · exact h
  · exact h

/-! ### The Arbiter -/

theorem grantedState_keeps (hP : Keeps P) (k : EntryKind) (d : DistrictId) (h : P t) :
    P (grantedState k d t) := by
  cases k
  · exact setSt_keeps hP d _ h
  · exact setLook_keeps hP d _ h
theorem grantChannel_keeps (hP : Keeps P) (f : FeedId) (c : ChannelId) (e : Entry) (r : List Entry) (h : P t) :
    P (grantChannel t f c e r) :=
  grantedState_keeps hP _ _ (hP.lastGranted _ f (hP.channel _ c _ (hP.queue _ f _ h)))
theorem nextGrant_keeps (hP : Keeps P) {u : State} (e : nextGrant t = some u) (h : P t) : P u := by
  unfold nextGrant at e
  split at e
  · split at e
    · cases e; exact grantChannel_keeps hP _ _ _ _ h
    · cases e
  · cases e
theorem grants_keeps (hP : Keeps P) (n : Nat) : ∀ t, P t → P (grants n t) := by
  induction n with
  | zero => intro t h; exact h
  | succ n ih =>
    intro t h
    unfold grants
    split
    · rename_i e; exact ih _ (nextGrant_keeps hP e h)
    · exact h
theorem arbiterLook_keeps (hP : Keeps P) (h : P t) : P (arbiterLook t) := grants_keeps hP 4 t h
theorem arbitrate_keeps (hP : Keeps P) (b : State) (h : P t) : P (arbitrate b t) := by
  unfold arbitrate
  split
  · exact arbiterLook_keeps hP h
  · exact h

/-! ### The Probe Engine -/

theorem failedState_keeps (hP : Keeps P) (d : DistrictId) (h : P t) : P (failedState d t) := by
  unfold failedState
  split
  · exact markDistrict_keeps hP _ d (enterLocked_keeps hP d _ h)
  · split
    · exact markDistrict_keeps hP _ d (enterLocked_keeps hP d _ h)
    · split
      · exact markDistrict_keeps hP _ d (clearTimer_keeps hP d (setSt_keeps hP d _ h))
      · exact markDistrict_keeps hP _ d (loadTimer_keeps hP d _ _ (setSt_keeps hP d _ h))
theorem writeFail_keeps (hP : Keeps P) (d : DistrictId) (x : FailCause) (h : P t) : P (writeFail d x t) :=
  modDistrict_keeps hP d _ (fun _ => rfl) h
theorem failProbe_keeps (hP : Keeps P) (c : ChannelId) (p : Probe) (x : FailCause) (h : P t) :
    P (failProbe c p x t) := by
  unfold failProbe
  split
  · exact failedState_keeps hP _ (raiseFailures_keeps hP _ (writeFail_keeps hP _ _ (endProbe_keeps hP c h)))
  · exact markDistrict_keeps hP _ _ (setLook_keeps hP _ _ (writeFail_keeps hP _ _ (endProbe_keeps hP c h)))
theorem succeed_keeps (hP : Keeps P) (c : ChannelId) (d : DistrictId) (h : P t) : P (succeed c d t) :=
  markDistrict_keeps hP _ d (loadTimer_keeps hP d _ _ (modDistrict_keeps hP d _ (fun _ => rfl) (endProbe_keeps hP c h)))
theorem passLook_keeps (hP : Keeps P) (c : ChannelId) (d : DistrictId) (h : P t) : P (passLook c d t) := by
  unfold passLook
  dsimp only
  split
  · exact markDistrict_keeps hP _ d
      (becomeQueued_keeps hP d (clearTimer_keeps hP d (setFailures_keeps hP d _ (endProbe_keeps hP c h))))
  · exact markDistrict_keeps hP _ d
      (becomeAwaitingGrant_keeps hP d (clearTimer_keeps hP d (setFailures_keeps hP d _ (endProbe_keeps hP c h))))
theorem enterStage_keeps (hP : Keeps P) (c : ChannelId) (x : Stage) (h : P t) : P (enterStage c x t) :=
  modChannel_keeps hP c _ h
theorem startRamp_keeps (hP : Keeps P) (c : ChannelId) (d : DistrictId) (j : Nat) (h : P t) :
    P (startRamp c d j t) := modChannel_keeps hP c _ (clearIntegrator_keeps hP d h)
theorem startConfirm_keeps (hP : Keeps P) (c : ChannelId) (d : DistrictId) (h : P t) :
    P (startConfirm c d t) := enterStage_keeps hP c _ (modMonitor_keeps hP d _ h)
theorem pauseSibling_keeps (hP : Keeps P) (c : ChannelId) (r : ResumePoint) (h : P t) :
    P (pauseSibling c r t) := modChannel_keeps hP c _ h
theorem stallPause_keeps (hP : Keeps P) (f : FeedId) (c : ChannelId) (h : P t) : P (stallPause f c t) := by
  unfold stallPause
  split
  · split
    · split
      · exact h
      · exact modChannel_keeps hP c _ (stopWaiting_keeps hP f c (abandonWindow_keeps hP _ h))
    · exact h
  · exact h
theorem stallContinue_keeps (hP : Keeps P) (f : FeedId) (c : ChannelId) (h : P t) :
    P (stallContinue f c t) := by
  unfold stallContinue
  split
  · split
    · split
      · exact modChannel_keeps hP c _ h
      · exact h
    · exact h
  · exact h
theorem localResume_keeps (hP : Keeps P) (f : FeedId) (c : ChannelId) (h : P t) : P (localResume f c t) := by
  have h' := stopWaiting_keeps hP f c h
  unfold localResume
  dsimp only
  split
  · split
    · split
      · split
        · exact startRamp_keeps hP c _ _ (modChannel_keeps hP c _ h')
        · exact enterStage_keeps hP c _ (modChannel_keeps hP c _ h')
      · exact startConfirm_keeps hP c _ (modChannel_keeps hP c _ h')
      · exact passLook_keeps hP c _ (modChannel_keeps hP c _ h')
      · exact enterStage_keeps hP c _ (modChannel_keeps hP c _ h')
      · exact enterStage_keeps hP c _ (modChannel_keeps hP c _ h')
    · exact h'
  · exact h'
theorem endSense_keeps (hP : Keeps P) (c : ChannelId) (p : Probe) (h : P t) : P (endSense c p t) := by
  unfold endSense
  split
  · exact failProbe_keeps hP c p _ h
  · exact enterStage_keeps hP c _ h
theorem endPrecharge_keeps (hP : Keeps P) (c : ChannelId) (p : Probe) (h : P t) :
    P (endPrecharge c p t) := by
  unfold endPrecharge
  split
  · exact failProbe_keeps hP c p _ h
  · split
    · exact pauseSibling_keeps hP c _ h
    · split
      · exact startRamp_keeps hP c _ _ h
      · exact passLook_keeps hP c _ h
theorem endRampStep_keeps (hP : Keeps P) (c : ChannelId) (p : Probe) (k : Nat) (h : P t) :
    P (endRampStep c p k t) := by
  unfold endRampStep
  split
  · exact failProbe_keeps hP c p _ h
  · split
    · exact pauseSibling_keeps hP c _ h
    · split
      · exact enterStage_keeps hP c _ h
      · exact startConfirm_keeps hP c _ h
theorem endConfirm_keeps (hP : Keeps P) (c : ChannelId) (p : Probe) (h : P t) : P (endConfirm c p t) := by
  unfold endConfirm
  split
  · exact succeed_keeps hP c _ h
  · exact failProbe_keeps hP c p _ h
theorem startCheck_keeps (hP : Keeps P) (c : ChannelId) (p : Probe) (h : P t) : P (startCheck c p t) := by
  unfold startCheck
  split
  · split
    · exact modChannel_keeps hP c _ h
    · exact failProbe_keeps hP c p _ h
  · exact h
theorem stageEnd_keeps (hP : Keeps P) (c : ChannelId) (h : P t) : P (stageEnd c t) := by
  unfold stageEnd
  split
  · split
    · refine arbitrate_keeps hP _ ?_
      split
      · exact endSense_keeps hP c _ h
      · exact endPrecharge_keeps hP c _ h
      · exact endRampStep_keeps hP c _ _ h
      · exact endConfirm_keeps hP c _ h
    · exact h
  · exact h
theorem expireProbe_keeps (hP : Keeps P) (c : ChannelId) (p : Probe) (h : P t) : P (expireProbe c p t) := by
  unfold expireProbe
  dsimp only
  split
  · exact markDistrict_keeps hP _ _ (becomeQueued_keeps hP _ (writeFail_keeps hP _ _ (endProbe_keeps hP c h)))
  · exact markDistrict_keeps hP _ _ (setLook_keeps hP _ _ (writeFail_keeps hP _ _ (endProbe_keeps hP c h)))
theorem lifetimeExpiry_keeps (hP : Keeps P) (c : ChannelId) (h : P t) : P (lifetimeExpiry c t) := by
  unfold lifetimeExpiry
  split
  · exact arbitrate_keeps hP _ (expireProbe_keeps hP c _ h)
  · exact h

/-! ### The Episode Merger -/

theorem arrive_keeps (hP : Keeps P) (f : FeedId) (d : DistrictId) (h : P t) : P (arrive f d t) := by
  unfold arrive
  split <;> exact hP.episode _ f _ h
theorem periodBoundary_keeps (hP : Keeps P) (ds : BitVec 16) (h : P t) : P (periodBoundary ds t) :=
  forFeeds_keeps (fun f _ => modEpisode_keeps hP f _) (hP.sampled _ ds h)
theorem countSample_keeps (hP : Keeps P) (d : DistrictId) (h : P t) : P (countSample d t) := by
  unfold countSample
  split
  · exact periodBoundary_keeps hP _ h
  · exact hP.sampled _ _ h
theorem joinMerging_keeps (hP : Keeps P) (f : FeedId) (d : DistrictId) (h : P t) : P (joinMerging f d t) :=
  markDistrict_keeps hP _ d (clearTimer_keeps hP d (modEpisode_keeps hP f _ (setSt_keeps hP d _ h)))
theorem abandonProbe_keeps (hP : Keeps P) (f : FeedId) (c : ChannelId) (h : P t) :
    P (abandonProbe f c t) := by
  unfold abandonProbe
  split
  · split
    · exact joinMerging_keeps hP f _ (endProbe_keeps hP c h)
    · exact setLook_keeps hP _ _ (endProbe_keeps hP c h)
  · exact h
theorem resolveWaiting_keeps (hP : Keeps P) (f : FeedId) (x : EpisodeClass) (w : BitVec 4) (h : P t) :
    P (resolveWaiting f x w t) :=
  forChannels_keeps (fun c t h => by
    split
    · split
      · exact localResume_keeps hP f c h
      · exact abandonProbe_keeps hP f c h
    · exact h) h
theorem handCount_keeps (hP : Keeps P) (d : DistrictId) (n : Nat) (h : P t) : P (handCount d n t) := by
  unfold handCount
  split
  · exact loadTimer_keeps hP d _ _ (setSt_keeps hP d _ h)
  · exact retainCount_keeps hP d _ (setSt_keeps hP d _ h)
  · exact h
theorem handCounts_keeps (hP : Keeps P) (f : FeedId) (x : EpisodeClass) (ds : List DistrictId) :
    ∀ (i : Nat) (t : State), P t → P (handCounts f x ds i t) := by
  induction ds with
  | nil => intro i t h; exact h
  | cons d ds ih =>
    intro i t h
    unfold handCounts
    split
    · exact ih _ _ (handCount_keeps hP d _ h)
    · exact ih _ _ h
theorem closeEpisode_keeps (hP : Keeps P) (f : FeedId) (x : CloseCause) (h : P t) :
    P (closeEpisode f x t) := by
  unfold closeEpisode
  split
  · exact h
  · dsimp only
    split
    · exact markFeed_keeps hP f (hP.summary _ f _ (hP.episode _ f _
        (handCounts_keeps hP f _ _ _ _ (resolveWaiting_keeps hP f _ _ h))))
    · exact hP.summary _ f _ (hP.episode _ f _
        (handCounts_keeps hP f _ _ _ _ (resolveWaiting_keeps hP f _ _ h)))
theorem episodeExpiry_keeps (hP : Keeps P) (f : FeedId) (h : P t) : P (episodeExpiry f t) := by
  unfold episodeExpiry
  split
  · exact arbitrate_keeps hP _ (closeEpisode_keeps hP f _ h)
  · exact h

/-! ### The Recovery Timer Bank -/

theorem takeCool_keeps (hP : Keeps P) (d : DistrictId) (h : P t) : P (takeCool d t) := by
  unfold takeCool
  split
  · refine arbitrate_keeps hP _ ?_
    split
    · exact becomeQueued_keeps hP d (clearTimer_keeps hP d h)
    · exact markDistrict_keeps hP _ d (becomeAwaitingGrant_keeps hP d (clearTimer_keeps hP d h))
  · exact h
theorem grantExpiry_keeps (hP : Keeps P) (d : DistrictId) (h : P t) : P (grantExpiry d t) := by
  unfold grantExpiry
  split
  · exact markDistrict_keeps hP _ d (enterLocked_keeps hP d _ (clearTimer_keeps hP d h))
  · exact h
theorem probationExpiry_keeps (hP : Keeps P) (d : DistrictId) (h : P t) : P (probationExpiry d t) := by
  unfold probationExpiry
  split
  · exact clearTimer_keeps hP d (modDistrict_keeps hP d _ (fun _ => rfl) h)
  · exact h
theorem takePatrol_keeps (hP : Keeps P) (d : DistrictId) (h : P t) : P (takePatrol d t) := by
  unfold takePatrol
  split
  · refine arbitrate_keeps hP _ ?_
    split
    · split
      · exact loadPatrol_keeps hP d h
      · exact placeEntry_keeps hP d _ (setSt_keeps hP d _ (loadPatrol_keeps hP d h))
    · exact loadPatrol_keeps hP d h
  · exact h
theorem timerExpiry_keeps (hP : Keeps P) (d : DistrictId) (h : P t) : P (timerExpiry d t) := by
  unfold timerExpiry
  split
  · exact takeCool_keeps hP d h
  · exact grantExpiry_keeps hP d h
  · exact probationExpiry_keeps hP d h
  · exact takePatrol_keeps hP d h
  · exact h
theorem takeEarlier_keeps (hP : Keeps P) (d : DistrictId) (h : P t) : P (takeEarlier d t) := by
  unfold takeEarlier
  split
  · exact forDistricts_keeps (fun e t h => by
      split
      · exact timerExpiry_keeps hP e h
      · exact h) h
  · exact h
theorem coolExpiry_keeps (hP : Keeps P) (d : DistrictId) (h : P t) : P (coolExpiry d t) := by
  unfold coolExpiry
  split
  · exact takeCool_keeps hP d (takeEarlier_keeps hP d h)
  · exact h
theorem patrolExpiry_keeps (hP : Keeps P) (d : DistrictId) (h : P t) : P (patrolExpiry d t) := by
  unfold patrolExpiry
  split
  · exact takePatrol_keeps hP d (takeEarlier_keeps hP d h)
  · exact h

/-! ### The Current Monitor -/

theorem trippedState_keeps (hP : Keeps P) (d : DistrictId) (h : P t) : P (trippedState d t) := by
  unfold trippedState
  split
  · exact markDistrict_keeps hP _ d (enterLocked_keeps hP d _ h)
  · split
    · exact markDistrict_keeps hP _ d (enterLocked_keeps hP d _ h)
    · exact markDistrict_keeps hP _ d (clearTimer_keeps hP d (setSt_keeps hP d _ h))
theorem tripReport_keeps (hP : Keeps P) (d : DistrictId) (x : TripCause) (h : P t) : P (tripReport d x t) := by
  unfold tripReport
  dsimp only
  refine arrive_keeps hP _ d (trippedState_keeps hP d (clearIntegrator_keeps hP d ?_))
  split
  · exact endProbation_keeps hP d (raiseFailures_keeps hP d (modDistrict_keeps hP d _ (fun _ => rfl) h))
  · exact modDistrict_keeps hP d _ (fun _ => rfl) h
theorem handTrip_keeps (hP : Keeps P) (d : DistrictId) (x : TripCause) (h : P t) : P (handTrip d x t) := by
  unfold handTrip
  split
  · exact tripReport_keeps hP d x h
  · split
    · split
      · exact failProbe_keeps hP _ _ _ (clearIntegrator_keeps hP _ (modDistrict_keeps hP _ _ (fun _ => rfl) h))
      · exact h
    · exact h
theorem startSwap_keeps (hP : Keeps P) (d : DistrictId) (x : WindowSetting) (h : P t) : P (startSwap d x t) :=
  modDistrict_keeps hP d _ (fun _ => rfl) (modMonitor_keeps hP d _ h)
theorem takeTrip_keeps (hP : Keeps P) (d : DistrictId) (x : TripCause) (h : P t) : P (takeTrip d x t) := by
  unfold takeTrip
  split
  · exact handTrip_keeps hP d _ (clearIntegrator_keeps hP d (restorePolarity_keeps hP d h))
  · split
    · exact startSwap_keeps hP d _ h
    · exact handTrip_keeps hP d _ (clearIntegrator_keeps hP d h)
theorem detect_keeps (hP : Keeps P) (d : DistrictId) (i : Nat) (h : P t) : P (detect d i t) := by
  unfold detect
  split
  · exact h
  · split
    · exact takeTrip_keeps hP d _ h
    · exact modMonitor_keeps hP d _ (modMonitor_keeps hP d _ h)
theorem stageSample_keeps (hP : Keeps P) (d : DistrictId) (h : P t) : P (stageSample d t) := by
  unfold stageSample
  split
  · exact h
  · split
    · exact h
    · split
      · dsimp only
        split
        · exact startCheck_keeps hP _ _ (modChannel_keeps hP _ _ h)
        · exact modChannel_keeps hP _ _ h
      · exact h
theorem swapSuccess_keeps (hP : Keeps P) (d : DistrictId) (h : P t) : P (swapSuccess d t) := by
  have h1 := markDistrict_keeps hP [.reversal] d
    (modDistrict_keeps hP d (fun r => { r with swaps := satSucc 255 r.swaps }) (fun _ => rfl)
      (modMonitor_keeps hP d (fun m => { m with window := none }) h))
  unfold swapSuccess
  split
  · dsimp only
    refine arbitrate_keeps hP _ ?_
    generalize markDistrict [.reversal] d _ = a at h1 ⊢
    have h2 : P (if (a.district d).probation
        then loadTimer d .probation a.cfg.globals.probation a else a) := by
      split
      · exact loadTimer_keeps hP d _ _ h1
      · exact h1
    generalize (if (a.district d).probation
        then loadTimer d .probation a.cfg.globals.probation a else a) = b at h2 ⊢
    have h3 : P (if (detection b d).isSome then b else clearIntegrator d b) := by
      split
      · exact h2
      · exact clearIntegrator_keeps hP d h2
    generalize (if (detection b d).isSome then b else clearIntegrator d b) = e at h3 ⊢
    split
    · exact h3
    · split
      · exact h3
      · split
        · split
          · split
            · exact endConfirm_keeps hP _ _ (startCheck_keeps hP _ _ h3)
            · exact startCheck_keeps hP _ _ h3
          · exact startCheck_keeps hP _ _ h3
        · exact h3
  · exact h
theorem settleDistrict_keeps (hP : Keeps P) (d : DistrictId) (h : P t) : P (settleDistrict d t) := by
  have close : ∀ u, P u → P (if beginsPeriod u d then forFeeds episodeExpiry u else u) := by
    intro u hu
    split
    · exact forFeeds_keeps (fun f _ => episodeExpiry_keeps hP f) hu
    · exact hu
  refine close _ ?_
  split
  · exact stageEnd_keeps hP _ (swapSuccess_keeps hP d h)
  · exact swapSuccess_keeps hP d h
theorem sample_keeps (hP : Keeps P) (d : DistrictId) (i : Nat) (v : Bool) (h : P t) : P (sample d i v t) :=
  stageSample_keeps hP d (detect_keeps hP d i (modMonitor_keeps hP d _ (countSample_keeps hP d h)))

/-! ### The Feed Monitor -/

theorem clearLiveIntegrators_keeps (hP : Keeps P) (f : FeedId) (h : P t) : P (clearLiveIntegrators f t) :=
  forDistricts_keeps (fun d t h => by
    split
    · exact clearIntegrator_keeps hP d h
    · exact h) h
theorem shedDistrict_keeps (hP : Keeps P) (f : FeedId) (d : DistrictId) (h : P t) :
    P (shedDistrict f d t) := by
  unfold shedDistrict
  split
  · exact joinMerging_keeps hP f d (endProbation_keeps hP d (abandonWindow_keeps hP d h))
  · exact h
theorem shedProbe_keeps (hP : Keeps P) (f : FeedId) (c : ChannelId) (h : P t) : P (shedProbe f c t) := by
  unfold shedProbe
  split
  · split
    · exact abandonProbe_keeps hP f c h
    · exact h
  · exact h
theorem dropEmptyEpisode_keeps (hP : Keeps P) (f : FeedId) (h : P t) : P (dropEmptyEpisode f t) := by
  unfold dropEmptyEpisode
  split
  · split
    · exact hP.episode _ f _ h
    · exact h
  · exact h
theorem shedFeed_keeps (hP : Keeps P) (f : FeedId) (h : P t) : P (shedFeed f t) := by
  unfold shedFeed
  dsimp only
  exact markFeed_keeps hP f (modFeed_keeps hP f _ (dropEmptyEpisode_keeps hP f
    (forChannels_keeps (fun c _ => shedProbe_keeps hP f c)
      (forDistricts_keeps (fun d _ => shedDistrict_keeps hP f d) (hP.episode _ f _ h)))))
theorem shedExpiry_keeps (hP : Keeps P) (f : FeedId) (h : P t) : P (shedExpiry f t) := by
  unfold shedExpiry
  split
  · exact arbitrate_keeps hP _ (shedFeed_keeps hP f h)
  · exact h
theorem assertionEffects_keeps (hP : Keeps P) (f : FeedId) (h : P t) : P (assertionEffects f t) :=
  modEpisode_keeps hP f _ (forChannels_keeps (fun c _ => stallPause_keeps hP f c) (clearLiveIntegrators_keeps hP f h))
theorem assertStall_keeps (hP : Keeps P) (f : FeedId) (h : P t) : P (assertStall f t) := by
  have h' := markFeed_keeps hP f (assertionEffects_keeps hP f
    (modFeed_keeps hP f (fun x => { x with stalled := true, filterRun := 0 }) h))
  unfold assertStall
  dsimp only
  split
  · split
    · exact shedFeed_keeps hP f h'
    · exact modFeed_keeps hP f _ h'
  · exact h'
theorem endShed_keeps (hP : Keeps P) (f : FeedId) (h : P t) : P (endShed f t) := by
  unfold endShed
  split
  · exact modFeed_keeps hP f _ (closeEpisode_keeps hP f _ h)
  · exact modFeed_keeps hP f _ h
theorem clearStall_keeps (hP : Keeps P) (f : FeedId) (h : P t) : P (clearStall f t) := by
  unfold clearStall
  dsimp only
  exact forChannels_keeps (fun c _ => stallContinue_keeps hP f c)
    (clearLiveIntegrators_keeps hP f (markFeed_keeps hP f (endShed_keeps hP f (modFeed_keeps hP f _ h))))
theorem stallAssertion_keeps (hP : Keeps P) (f : FeedId) (h : P t) : P (stallAssertion f t) := by
  unfold stallAssertion
  split
  · exact arbitrate_keeps hP _ (assertStall_keeps hP f h)
  · exact h
theorem stallClear_keeps (hP : Keeps P) (f : FeedId) (h : P t) : P (stallClear f t) := by
  unfold stallClear
  split
  · exact arbitrate_keeps hP _ (clearStall_keeps hP f h)
  · exact h
theorem feedDecision_keeps (hP : Keeps P) (f : FeedId) (h : P t) : P (feedDecision f t) := by
  unfold feedDecision
  split
  · dsimp only
    split
    · exact markFeed_keeps hP f (modFeed_keeps hP f _ h)
    · exact arbitrate_keeps hP _ (clearStall_keeps hP f (modFeed_keeps hP f _ h))
  · exact h
theorem settleFeed_keeps (hP : Keeps P) (f : FeedId) (h : P t) : P (settleFeed f t) := by
  unfold settleFeed
  split
  · exact feedDecision_keeps hP f h
  · split
    · exact stallAssertion_keeps hP f h
    · exact stallClear_keeps hP f h
theorem stallSample_keeps (hP : Keeps P) (f : FeedId) (x : Bool) (h : P t) : P (stallSample f x t) := by
  unfold stallSample
  exact modFeed_keeps hP f _ (settleFeed_keeps hP f h)

/-! ### Isolation -/

theorem onset_keeps (hP : Keeps P) (d : DistrictId) (h : P t) : P (onset d t) := by
  unfold onset
  split
  · exact setSt_keeps hP d _ (endProbation_keeps hP d (abandonWindow_keeps hP d h))
  · exact setSt_keeps hP d _ (retainTimer_keeps hP d h)
  · exact setSt_keeps hP d _ h
  · exact setSt_keeps hP d _ (removeEntry_keeps hP d h)
  · exact setSt_keeps hP d _ (clearTimer_keeps hP d h)
  · unfold onsetProbing
    refine setSt_keeps hP d _ ?_
    split
    · exact endProbe_keeps hP _ h
    · exact h
  · exact dropLook_keeps hP d (clearTimer_keeps hP d h)
  · exact h
  · exact h
theorem releaseDistrict_keeps (hP : Keeps P) (d : DistrictId) (h : P t) : P (releaseDistrict d t) := by
  unfold releaseDistrict
  split
  · exact runOnTimer_keeps hP d (setSt_keeps hP d _ h)
  · exact setSt_keeps hP d _ h
  · exact becomeQueued_keeps hP d h
  · exact becomeAwaitingGrant_keeps hP d h
  · split
    · exact loadPatrol_keeps hP d h
    · exact h
  · exact h
theorem takeIsolation_keeps (hP : Keeps P) (a b : State) (d : DistrictId) (h : P t) :
    P (takeIsolation a b d t) := by
  unfold takeIsolation
  split
  · refine markDistrict_keeps hP _ d ?_
    split
    · exact onset_keeps hP d h
    · exact releaseDistrict_keeps hP d h
    · exact h
  · exact h
theorem isolationChange_keeps (hP : Keeps P) (b : State) (h : P t) : P (isolationChange b t) :=
  forDistricts_keeps (fun d _ => takeIsolation_keeps hP b t d) h

/-! ### Requests of chapter 10 -/

theorem grantRetry_keeps (hP : Keeps P) (d : DistrictId) (h : P t) : P (grantRetry d t) :=
  arbitrate_keeps hP _ (markDistrict_keeps hP _ d (becomeQueued_keeps hP d (clearTimer_keeps hP d h)))
theorem clearLock_keeps (hP : Keeps P) (d : DistrictId) (h : P t) : P (clearLock d t) := by
  unfold clearLock
  refine arbitrate_keeps hP _ (markDistrict_keeps hP _ d ?_)
  unfold clearedState
  have h' := setFailures_keeps hP d 0 (clearTimer_keeps hP d (dropLook_keeps hP d h))
  split
  · split
    · exact setSt_keeps hP d _ h'
    · exact becomeQueued_keeps hP d h'
  · exact setSt_keeps hP d _ h'

/-! ### Properties of that kind -/

/-- The two states agree on everything that recovery never changes. -/
structure SameOuter (s t : State) : Prop where
  pending : t.pending = s.pending
  mode : t.mode = s.mode
  lineAddress : t.lineAddress = s.lineAddress
  cfg : t.cfg = s.cfg
  prescaler : t.prescaler = s.prescaler
  quarter : t.quarter = s.quarter
  joints : t.joints = s.joints
  line : t.line = s.line
  image : t.image = s.image
  profileLost : t.profileLost = s.profileLost
  writing : t.writing = s.writing
  holders : ∀ d, (t.district d).holders = (s.district d).holders
  nodes : ∀ n, (t.slot n).map Slot.node = (s.slot n).map Slot.node

theorem SameOuter.refl (s : State) : SameOuter s s := by
  constructor <;> first | exact Eq.refl _ | exact fun _ => Eq.refl _

/-- Recovery changes nothing outside it: with `SameOuter.refl`, every operation `op` above has
`SameOuter s (op s)` by `op_keeps (sameOuter_keeps s)`. -/
theorem sameOuter_keeps (s : State) : Keeps (SameOuter s) where
  district t d r hr h := by
    refine ⟨h.1, h.2, h.3, h.4, h.5, h.6, h.7, h.8, h.9, h.10, h.11, fun e => ?_, h.13⟩
    rw [State.setDistrict_district]
    split
    · rename_i e; rw [hr, e]; exact h.12 _
    · exact h.12 e
  monitor _ _ _ h := ⟨h.1, h.2, h.3, h.4, h.5, h.6, h.7, h.8, h.9, h.10, h.11, h.12, h.13⟩
  sampled _ _ h := ⟨h.1, h.2, h.3, h.4, h.5, h.6, h.7, h.8, h.9, h.10, h.11, h.12, h.13⟩
  timer _ _ _ h := ⟨h.1, h.2, h.3, h.4, h.5, h.6, h.7, h.8, h.9, h.10, h.11, h.12, h.13⟩
  feed _ _ _ h := ⟨h.1, h.2, h.3, h.4, h.5, h.6, h.7, h.8, h.9, h.10, h.11, h.12, h.13⟩
  episode _ _ _ h := ⟨h.1, h.2, h.3, h.4, h.5, h.6, h.7, h.8, h.9, h.10, h.11, h.12, h.13⟩
  summary _ _ _ h := ⟨h.1, h.2, h.3, h.4, h.5, h.6, h.7, h.8, h.9, h.10, h.11, h.12, h.13⟩
  queue _ _ _ h := ⟨h.1, h.2, h.3, h.4, h.5, h.6, h.7, h.8, h.9, h.10, h.11, h.12, h.13⟩
  channel _ _ _ h := ⟨h.1, h.2, h.3, h.4, h.5, h.6, h.7, h.8, h.9, h.10, h.11, h.12, h.13⟩
  lastGranted _ _ h := ⟨h.1, h.2, h.3, h.4, h.5, h.6, h.7, h.8, h.9, h.10, h.11, h.12, h.13⟩
  slot t n x hx h := by
    refine ⟨h.1, h.2, h.3, h.4, h.5, h.6, h.7, h.8, h.9, h.10, h.11, h.12, fun k => ?_⟩
    rw [State.setSlot_slot]
    split
    · rename_i e; rw [hx, e]; exact h.13 _
    · exact h.13 k

end Sys2Proof.Machine
end

