-- ==== Sys2Proof/Laws/Updates.lean ====
section
/-! SUPPORT. Lemmas that join updates: a record set twice, a record set to what it holds, the Arbiter's look after an
event that gives it no cause (R105), and what marks leave alone (R162). -/

namespace Sys2Proof.Machine

namespace State

/-! ### A record set twice, or to what it holds -/

@[simp] theorem setDistrict_setDistrict (s : State) (d : DistrictId) (x y : District) :
    (s.setDistrict d x).setDistrict d y = s.setDistrict d y := by simp [setDistrict]
@[simp] theorem setDistrict_own (s : State) (d : DistrictId) : s.setDistrict d (s.district d) = s := by
  simp [setDistrict, district]
@[simp] theorem setMonitor_setMonitor (s : State) (d : DistrictId) (x y : Monitor) :
    (s.setMonitor d x).setMonitor d y = s.setMonitor d y := by simp [setMonitor]
@[simp] theorem setMonitor_own (s : State) (d : DistrictId) : s.setMonitor d (s.monitor d) = s := by
  simp [setMonitor, monitor]
@[simp] theorem setTimer_setTimer (s : State) (d : DistrictId) (x y : Timer) :
    (s.setTimer d x).setTimer d y = s.setTimer d y := by simp [setTimer]
@[simp] theorem setTimer_own (s : State) (d : DistrictId) : s.setTimer d (s.timer d) = s := by
  simp [setTimer, timer]
@[simp] theorem setFeed_setFeed (s : State) (f : FeedId) (x y : Feed) :
    (s.setFeed f x).setFeed f y = s.setFeed f y := by simp [setFeed]
@[simp] theorem setFeed_own (s : State) (f : FeedId) : s.setFeed f (s.feed f) = s := by
  simp [setFeed, feed]
@[simp] theorem setEpisode_setEpisode (s : State) (f : FeedId) (x y : Option Episode) :
    (s.setEpisode f x).setEpisode f y = s.setEpisode f y := by simp [setEpisode]
@[simp] theorem setEpisode_own (s : State) (f : FeedId) : s.setEpisode f (s.episode f) = s := by
  simp [setEpisode, episode]
@[simp] theorem setSummary_setSummary (s : State) (f : FeedId) (x y : Summary) :
    (s.setSummary f x).setSummary f y = s.setSummary f y := by simp [setSummary]
@[simp] theorem setSummary_own (s : State) (f : FeedId) : s.setSummary f (s.summary f) = s := by
  simp [setSummary, summary]
@[simp] theorem setQueue_setQueue (s : State) (f : FeedId) (x y : List Entry) :
    (s.setQueue f x).setQueue f y = s.setQueue f y := by simp [setQueue]
@[simp] theorem setQueue_own (s : State) (f : FeedId) : s.setQueue f (s.queue f) = s := by
  simp [setQueue, queue]
@[simp] theorem setChannel_setChannel (s : State) (c : ChannelId) (x y : Option Probe) :
    (s.setChannel c x).setChannel c y = s.setChannel c y := by simp [setChannel]
@[simp] theorem setChannel_own (s : State) (c : ChannelId) : s.setChannel c (s.channel c) = s := by
  simp [setChannel, channel]
@[simp] theorem setJoint_setJoint (s : State) (j : JointId) (x y : Joint) :
    (s.setJoint j x).setJoint j y = s.setJoint j y := by simp [setJoint]
@[simp] theorem setJoint_own (s : State) (j : JointId) : s.setJoint j (s.joint j) = s := by
  simp [setJoint, joint]
@[simp] theorem setSlot_setSlot (s : State) (n : SlotId) (x y : Option Slot) :
    (s.setSlot n x).setSlot n y = s.setSlot n y := by simp [setSlot]
@[simp] theorem setSlot_own (s : State) (n : SlotId) : s.setSlot n (s.slot n) = s := by
  simp [setSlot, slot]
@[simp] theorem setDcfg_setDcfg (s : State) (d : DistrictId) (x y : DistrictConfig) :
    (s.setDcfg d x).setDcfg d y = s.setDcfg d y := by simp [setDcfg]
@[simp] theorem setDcfg_own (s : State) (d : DistrictId) : s.setDcfg d (s.dcfg d) = s := by
  simp [setDcfg, dcfg]
@[simp] theorem setFcfg_setFcfg (s : State) (f : FeedId) (x y : FeedConfig) :
    (s.setFcfg f x).setFcfg f y = s.setFcfg f y := by simp [setFcfg]
@[simp] theorem setFcfg_own (s : State) (f : FeedId) : s.setFcfg f (s.fcfg f) = s := by
  simp [setFcfg, fcfg]
@[simp] theorem setJcfg_setJcfg (s : State) (j : JointId) (x y : JointConfig) :
    (s.setJcfg j x).setJcfg j y = s.setJcfg j y := by simp [setJcfg]
@[simp] theorem setJcfg_own (s : State) (j : JointId) : s.setJcfg j (s.jcfg j) = s := by
  simp [setJcfg, jcfg]

end State

/-! ### Marks change the slots alone -/

theorem forSlots_same (g : SlotId → Slot → Slot) (s : State) :
    ∃ v, forSlots (fun n s => s.modSlot n (g n)) s = { s with slots := v } := by
  have h : ∀ (l : List SlotId) (t : State), (∃ v, t = { s with slots := v }) →
      ∃ v, l.foldl (fun s n => s.modSlot n (g n)) t = { s with slots := v } := by
    intro l
    induction l with
    | nil => exact fun t h => h
    | cons n l ih =>
      rintro t ⟨v, rfl⟩
      exact ih _ ⟨_, rfl⟩
  exact h _ s ⟨s.slots, rfl⟩
theorem markDistrict_same (kinds : List Mark) (d : DistrictId) (s : State) :
    ∃ v, markDistrict kinds d s = { s with slots := v } := forSlots_same (fun _ x =>
      if subscribes x kinds then { x with changedDistricts := addItem x.changedDistricts d.val } else x) s
theorem markFeed_same (f : FeedId) (s : State) : ∃ v, markFeed f s = { s with slots := v } :=
  forSlots_same (fun _ x =>
    if x.feedEnable then { x with changedFeeds := addItem x.changedFeeds f.val } else x) s
theorem markJoint_same (j : JointId) (s : State) : ∃ v, markJoint j s = { s with slots := v } :=
  forSlots_same (fun _ x =>
    if x.jointEnable then { x with changedJoints := addItem x.changedJoints j.val } else x) s

/-! ### markDistrict -/

@[simp] theorem markDistrict_pending (ks : List Mark) (d : DistrictId) (s : State) : (markDistrict ks d s).pending = s.pending := by
  obtain ⟨v, h⟩ := markDistrict_same ks d s; rw [h]
@[simp] theorem markDistrict_mode (ks : List Mark) (d : DistrictId) (s : State) : (markDistrict ks d s).mode = s.mode := by
  obtain ⟨v, h⟩ := markDistrict_same ks d s; rw [h]
@[simp] theorem markDistrict_lineAddress (ks : List Mark) (d : DistrictId) (s : State) : (markDistrict ks d s).lineAddress = s.lineAddress := by
  obtain ⟨v, h⟩ := markDistrict_same ks d s; rw [h]
@[simp] theorem markDistrict_cfg (ks : List Mark) (d : DistrictId) (s : State) : (markDistrict ks d s).cfg = s.cfg := by
  obtain ⟨v, h⟩ := markDistrict_same ks d s; rw [h]
@[simp] theorem markDistrict_districts (ks : List Mark) (d : DistrictId) (s : State) : (markDistrict ks d s).districts = s.districts := by
  obtain ⟨v, h⟩ := markDistrict_same ks d s; rw [h]
@[simp] theorem markDistrict_monitors (ks : List Mark) (d : DistrictId) (s : State) : (markDistrict ks d s).monitors = s.monitors := by
  obtain ⟨v, h⟩ := markDistrict_same ks d s; rw [h]
@[simp] theorem markDistrict_timers (ks : List Mark) (d : DistrictId) (s : State) : (markDistrict ks d s).timers = s.timers := by
  obtain ⟨v, h⟩ := markDistrict_same ks d s; rw [h]
@[simp] theorem markDistrict_prescaler (ks : List Mark) (d : DistrictId) (s : State) : (markDistrict ks d s).prescaler = s.prescaler := by
  obtain ⟨v, h⟩ := markDistrict_same ks d s; rw [h]
@[simp] theorem markDistrict_quarter (ks : List Mark) (d : DistrictId) (s : State) : (markDistrict ks d s).quarter = s.quarter := by
  obtain ⟨v, h⟩ := markDistrict_same ks d s; rw [h]
@[simp] theorem markDistrict_sampled (ks : List Mark) (d : DistrictId) (s : State) : (markDistrict ks d s).sampled = s.sampled := by
  obtain ⟨v, h⟩ := markDistrict_same ks d s; rw [h]
@[simp] theorem markDistrict_feeds (ks : List Mark) (d : DistrictId) (s : State) : (markDistrict ks d s).feeds = s.feeds := by
  obtain ⟨v, h⟩ := markDistrict_same ks d s; rw [h]
@[simp] theorem markDistrict_episodes (ks : List Mark) (d : DistrictId) (s : State) : (markDistrict ks d s).episodes = s.episodes := by
  obtain ⟨v, h⟩ := markDistrict_same ks d s; rw [h]
@[simp] theorem markDistrict_summaries (ks : List Mark) (d : DistrictId) (s : State) : (markDistrict ks d s).summaries = s.summaries := by
  obtain ⟨v, h⟩ := markDistrict_same ks d s; rw [h]
@[simp] theorem markDistrict_queues (ks : List Mark) (d : DistrictId) (s : State) : (markDistrict ks d s).queues = s.queues := by
  obtain ⟨v, h⟩ := markDistrict_same ks d s; rw [h]
@[simp] theorem markDistrict_channels (ks : List Mark) (d : DistrictId) (s : State) : (markDistrict ks d s).channels = s.channels := by
  obtain ⟨v, h⟩ := markDistrict_same ks d s; rw [h]
@[simp] theorem markDistrict_lastGranted (ks : List Mark) (d : DistrictId) (s : State) : (markDistrict ks d s).lastGranted = s.lastGranted := by
  obtain ⟨v, h⟩ := markDistrict_same ks d s; rw [h]
@[simp] theorem markDistrict_joints (ks : List Mark) (d : DistrictId) (s : State) : (markDistrict ks d s).joints = s.joints := by
  obtain ⟨v, h⟩ := markDistrict_same ks d s; rw [h]
@[simp] theorem markDistrict_line (ks : List Mark) (d : DistrictId) (s : State) : (markDistrict ks d s).line = s.line := by
  obtain ⟨v, h⟩ := markDistrict_same ks d s; rw [h]
@[simp] theorem markDistrict_image (ks : List Mark) (d : DistrictId) (s : State) : (markDistrict ks d s).image = s.image := by
  obtain ⟨v, h⟩ := markDistrict_same ks d s; rw [h]
@[simp] theorem markDistrict_profileLost (ks : List Mark) (d : DistrictId) (s : State) : (markDistrict ks d s).profileLost = s.profileLost := by
  obtain ⟨v, h⟩ := markDistrict_same ks d s; rw [h]
@[simp] theorem markDistrict_writing (ks : List Mark) (d : DistrictId) (s : State) : (markDistrict ks d s).writing = s.writing := by
  obtain ⟨v, h⟩ := markDistrict_same ks d s; rw [h]
@[simp] theorem markDistrict_dcfg (ks : List Mark) (d : DistrictId) (s : State) (k : DistrictId) :
    (markDistrict ks d s).dcfg k = s.dcfg k := by
  obtain ⟨v, h⟩ := markDistrict_same ks d s; rw [h]; rfl
@[simp] theorem markDistrict_fcfg (ks : List Mark) (d : DistrictId) (s : State) (k : FeedId) :
    (markDistrict ks d s).fcfg k = s.fcfg k := by
  obtain ⟨v, h⟩ := markDistrict_same ks d s; rw [h]; rfl
@[simp] theorem markDistrict_jcfg (ks : List Mark) (d : DistrictId) (s : State) (k : JointId) :
    (markDistrict ks d s).jcfg k = s.jcfg k := by
  obtain ⟨v, h⟩ := markDistrict_same ks d s; rw [h]; rfl
@[simp] theorem markDistrict_district (ks : List Mark) (d : DistrictId) (s : State) (k : DistrictId) :
    (markDistrict ks d s).district k = s.district k := by
  obtain ⟨v, h⟩ := markDistrict_same ks d s; rw [h]; rfl
@[simp] theorem markDistrict_monitor (ks : List Mark) (d : DistrictId) (s : State) (k : DistrictId) :
    (markDistrict ks d s).monitor k = s.monitor k := by
  obtain ⟨v, h⟩ := markDistrict_same ks d s; rw [h]; rfl
@[simp] theorem markDistrict_timer (ks : List Mark) (d : DistrictId) (s : State) (k : DistrictId) :
    (markDistrict ks d s).timer k = s.timer k := by
  obtain ⟨v, h⟩ := markDistrict_same ks d s; rw [h]; rfl
@[simp] theorem markDistrict_feed (ks : List Mark) (d : DistrictId) (s : State) (k : FeedId) :
    (markDistrict ks d s).feed k = s.feed k := by
  obtain ⟨v, h⟩ := markDistrict_same ks d s; rw [h]; rfl
@[simp] theorem markDistrict_episode (ks : List Mark) (d : DistrictId) (s : State) (k : FeedId) :
    (markDistrict ks d s).episode k = s.episode k := by
  obtain ⟨v, h⟩ := markDistrict_same ks d s; rw [h]; rfl
@[simp] theorem markDistrict_summary (ks : List Mark) (d : DistrictId) (s : State) (k : FeedId) :
    (markDistrict ks d s).summary k = s.summary k := by
  obtain ⟨v, h⟩ := markDistrict_same ks d s; rw [h]; rfl
@[simp] theorem markDistrict_queue (ks : List Mark) (d : DistrictId) (s : State) (k : FeedId) :
    (markDistrict ks d s).queue k = s.queue k := by
  obtain ⟨v, h⟩ := markDistrict_same ks d s; rw [h]; rfl
@[simp] theorem markDistrict_channel (ks : List Mark) (d : DistrictId) (s : State) (k : ChannelId) :
    (markDistrict ks d s).channel k = s.channel k := by
  obtain ⟨v, h⟩ := markDistrict_same ks d s; rw [h]; rfl
@[simp] theorem markDistrict_joint (ks : List Mark) (d : DistrictId) (s : State) (k : JointId) :
    (markDistrict ks d s).joint k = s.joint k := by
  obtain ⟨v, h⟩ := markDistrict_same ks d s; rw [h]; rfl

/-! ### markFeed -/

@[simp] theorem markFeed_pending (f : FeedId) (s : State) : (markFeed f s).pending = s.pending := by
  obtain ⟨v, h⟩ := markFeed_same f s; rw [h]
@[simp] theorem markFeed_mode (f : FeedId) (s : State) : (markFeed f s).mode = s.mode := by
  obtain ⟨v, h⟩ := markFeed_same f s; rw [h]
@[simp] theorem markFeed_lineAddress (f : FeedId) (s : State) : (markFeed f s).lineAddress = s.lineAddress := by
  obtain ⟨v, h⟩ := markFeed_same f s; rw [h]
@[simp] theorem markFeed_cfg (f : FeedId) (s : State) : (markFeed f s).cfg = s.cfg := by
  obtain ⟨v, h⟩ := markFeed_same f s; rw [h]
@[simp] theorem markFeed_districts (f : FeedId) (s : State) : (markFeed f s).districts = s.districts := by
  obtain ⟨v, h⟩ := markFeed_same f s; rw [h]
@[simp] theorem markFeed_monitors (f : FeedId) (s : State) : (markFeed f s).monitors = s.monitors := by
  obtain ⟨v, h⟩ := markFeed_same f s; rw [h]
@[simp] theorem markFeed_timers (f : FeedId) (s : State) : (markFeed f s).timers = s.timers := by
  obtain ⟨v, h⟩ := markFeed_same f s; rw [h]
@[simp] theorem markFeed_prescaler (f : FeedId) (s : State) : (markFeed f s).prescaler = s.prescaler := by
  obtain ⟨v, h⟩ := markFeed_same f s; rw [h]
@[simp] theorem markFeed_quarter (f : FeedId) (s : State) : (markFeed f s).quarter = s.quarter := by
  obtain ⟨v, h⟩ := markFeed_same f s; rw [h]
@[simp] theorem markFeed_sampled (f : FeedId) (s : State) : (markFeed f s).sampled = s.sampled := by
  obtain ⟨v, h⟩ := markFeed_same f s; rw [h]
@[simp] theorem markFeed_feeds (f : FeedId) (s : State) : (markFeed f s).feeds = s.feeds := by
  obtain ⟨v, h⟩ := markFeed_same f s; rw [h]
@[simp] theorem markFeed_episodes (f : FeedId) (s : State) : (markFeed f s).episodes = s.episodes := by
  obtain ⟨v, h⟩ := markFeed_same f s; rw [h]
@[simp] theorem markFeed_summaries (f : FeedId) (s : State) : (markFeed f s).summaries = s.summaries := by
  obtain ⟨v, h⟩ := markFeed_same f s; rw [h]
@[simp] theorem markFeed_queues (f : FeedId) (s : State) : (markFeed f s).queues = s.queues := by
  obtain ⟨v, h⟩ := markFeed_same f s; rw [h]
@[simp] theorem markFeed_channels (f : FeedId) (s : State) : (markFeed f s).channels = s.channels := by
  obtain ⟨v, h⟩ := markFeed_same f s; rw [h]
@[simp] theorem markFeed_lastGranted (f : FeedId) (s : State) : (markFeed f s).lastGranted = s.lastGranted := by
  obtain ⟨v, h⟩ := markFeed_same f s; rw [h]
@[simp] theorem markFeed_joints (f : FeedId) (s : State) : (markFeed f s).joints = s.joints := by
  obtain ⟨v, h⟩ := markFeed_same f s; rw [h]
@[simp] theorem markFeed_line (f : FeedId) (s : State) : (markFeed f s).line = s.line := by
  obtain ⟨v, h⟩ := markFeed_same f s; rw [h]
@[simp] theorem markFeed_image (f : FeedId) (s : State) : (markFeed f s).image = s.image := by
  obtain ⟨v, h⟩ := markFeed_same f s; rw [h]
@[simp] theorem markFeed_profileLost (f : FeedId) (s : State) : (markFeed f s).profileLost = s.profileLost := by
  obtain ⟨v, h⟩ := markFeed_same f s; rw [h]
@[simp] theorem markFeed_writing (f : FeedId) (s : State) : (markFeed f s).writing = s.writing := by
  obtain ⟨v, h⟩ := markFeed_same f s; rw [h]
@[simp] theorem markFeed_dcfg (f : FeedId) (s : State) (k : DistrictId) :
    (markFeed f s).dcfg k = s.dcfg k := by
  obtain ⟨v, h⟩ := markFeed_same f s; rw [h]; rfl
@[simp] theorem markFeed_fcfg (f : FeedId) (s : State) (k : FeedId) :
    (markFeed f s).fcfg k = s.fcfg k := by
  obtain ⟨v, h⟩ := markFeed_same f s; rw [h]; rfl
@[simp] theorem markFeed_jcfg (f : FeedId) (s : State) (k : JointId) :
    (markFeed f s).jcfg k = s.jcfg k := by
  obtain ⟨v, h⟩ := markFeed_same f s; rw [h]; rfl
@[simp] theorem markFeed_district (f : FeedId) (s : State) (k : DistrictId) :
    (markFeed f s).district k = s.district k := by
  obtain ⟨v, h⟩ := markFeed_same f s; rw [h]; rfl
@[simp] theorem markFeed_monitor (f : FeedId) (s : State) (k : DistrictId) :
    (markFeed f s).monitor k = s.monitor k := by
  obtain ⟨v, h⟩ := markFeed_same f s; rw [h]; rfl
@[simp] theorem markFeed_timer (f : FeedId) (s : State) (k : DistrictId) :
    (markFeed f s).timer k = s.timer k := by
  obtain ⟨v, h⟩ := markFeed_same f s; rw [h]; rfl
@[simp] theorem markFeed_feed (f : FeedId) (s : State) (k : FeedId) :
    (markFeed f s).feed k = s.feed k := by
  obtain ⟨v, h⟩ := markFeed_same f s; rw [h]; rfl
@[simp] theorem markFeed_episode (f : FeedId) (s : State) (k : FeedId) :
    (markFeed f s).episode k = s.episode k := by
  obtain ⟨v, h⟩ := markFeed_same f s; rw [h]; rfl
@[simp] theorem markFeed_summary (f : FeedId) (s : State) (k : FeedId) :
    (markFeed f s).summary k = s.summary k := by
  obtain ⟨v, h⟩ := markFeed_same f s; rw [h]; rfl
@[simp] theorem markFeed_queue (f : FeedId) (s : State) (k : FeedId) :
    (markFeed f s).queue k = s.queue k := by
  obtain ⟨v, h⟩ := markFeed_same f s; rw [h]; rfl
@[simp] theorem markFeed_channel (f : FeedId) (s : State) (k : ChannelId) :
    (markFeed f s).channel k = s.channel k := by
  obtain ⟨v, h⟩ := markFeed_same f s; rw [h]; rfl
@[simp] theorem markFeed_joint (f : FeedId) (s : State) (k : JointId) :
    (markFeed f s).joint k = s.joint k := by
  obtain ⟨v, h⟩ := markFeed_same f s; rw [h]; rfl

/-! ### markJoint -/

@[simp] theorem markJoint_pending (j : JointId) (s : State) : (markJoint j s).pending = s.pending := by
  obtain ⟨v, h⟩ := markJoint_same j s; rw [h]
@[simp] theorem markJoint_mode (j : JointId) (s : State) : (markJoint j s).mode = s.mode := by
  obtain ⟨v, h⟩ := markJoint_same j s; rw [h]
@[simp] theorem markJoint_lineAddress (j : JointId) (s : State) : (markJoint j s).lineAddress = s.lineAddress := by
  obtain ⟨v, h⟩ := markJoint_same j s; rw [h]
@[simp] theorem markJoint_cfg (j : JointId) (s : State) : (markJoint j s).cfg = s.cfg := by
  obtain ⟨v, h⟩ := markJoint_same j s; rw [h]
@[simp] theorem markJoint_districts (j : JointId) (s : State) : (markJoint j s).districts = s.districts := by
  obtain ⟨v, h⟩ := markJoint_same j s; rw [h]
@[simp] theorem markJoint_monitors (j : JointId) (s : State) : (markJoint j s).monitors = s.monitors := by
  obtain ⟨v, h⟩ := markJoint_same j s; rw [h]
@[simp] theorem markJoint_timers (j : JointId) (s : State) : (markJoint j s).timers = s.timers := by
  obtain ⟨v, h⟩ := markJoint_same j s; rw [h]
@[simp] theorem markJoint_prescaler (j : JointId) (s : State) : (markJoint j s).prescaler = s.prescaler := by
  obtain ⟨v, h⟩ := markJoint_same j s; rw [h]
@[simp] theorem markJoint_quarter (j : JointId) (s : State) : (markJoint j s).quarter = s.quarter := by
  obtain ⟨v, h⟩ := markJoint_same j s; rw [h]
@[simp] theorem markJoint_sampled (j : JointId) (s : State) : (markJoint j s).sampled = s.sampled := by
  obtain ⟨v, h⟩ := markJoint_same j s; rw [h]
@[simp] theorem markJoint_feeds (j : JointId) (s : State) : (markJoint j s).feeds = s.feeds := by
  obtain ⟨v, h⟩ := markJoint_same j s; rw [h]
@[simp] theorem markJoint_episodes (j : JointId) (s : State) : (markJoint j s).episodes = s.episodes := by
  obtain ⟨v, h⟩ := markJoint_same j s; rw [h]
@[simp] theorem markJoint_summaries (j : JointId) (s : State) : (markJoint j s).summaries = s.summaries := by
  obtain ⟨v, h⟩ := markJoint_same j s; rw [h]
@[simp] theorem markJoint_queues (j : JointId) (s : State) : (markJoint j s).queues = s.queues := by
  obtain ⟨v, h⟩ := markJoint_same j s; rw [h]
@[simp] theorem markJoint_channels (j : JointId) (s : State) : (markJoint j s).channels = s.channels := by
  obtain ⟨v, h⟩ := markJoint_same j s; rw [h]
@[simp] theorem markJoint_lastGranted (j : JointId) (s : State) : (markJoint j s).lastGranted = s.lastGranted := by
  obtain ⟨v, h⟩ := markJoint_same j s; rw [h]
@[simp] theorem markJoint_joints (j : JointId) (s : State) : (markJoint j s).joints = s.joints := by
  obtain ⟨v, h⟩ := markJoint_same j s; rw [h]
@[simp] theorem markJoint_line (j : JointId) (s : State) : (markJoint j s).line = s.line := by
  obtain ⟨v, h⟩ := markJoint_same j s; rw [h]
@[simp] theorem markJoint_image (j : JointId) (s : State) : (markJoint j s).image = s.image := by
  obtain ⟨v, h⟩ := markJoint_same j s; rw [h]
@[simp] theorem markJoint_profileLost (j : JointId) (s : State) : (markJoint j s).profileLost = s.profileLost := by
  obtain ⟨v, h⟩ := markJoint_same j s; rw [h]
@[simp] theorem markJoint_writing (j : JointId) (s : State) : (markJoint j s).writing = s.writing := by
  obtain ⟨v, h⟩ := markJoint_same j s; rw [h]
@[simp] theorem markJoint_dcfg (j : JointId) (s : State) (k : DistrictId) :
    (markJoint j s).dcfg k = s.dcfg k := by
  obtain ⟨v, h⟩ := markJoint_same j s; rw [h]; rfl
@[simp] theorem markJoint_fcfg (j : JointId) (s : State) (k : FeedId) :
    (markJoint j s).fcfg k = s.fcfg k := by
  obtain ⟨v, h⟩ := markJoint_same j s; rw [h]; rfl
@[simp] theorem markJoint_jcfg (j : JointId) (s : State) (k : JointId) :
    (markJoint j s).jcfg k = s.jcfg k := by
  obtain ⟨v, h⟩ := markJoint_same j s; rw [h]; rfl
@[simp] theorem markJoint_district (j : JointId) (s : State) (k : DistrictId) :
    (markJoint j s).district k = s.district k := by
  obtain ⟨v, h⟩ := markJoint_same j s; rw [h]; rfl
@[simp] theorem markJoint_monitor (j : JointId) (s : State) (k : DistrictId) :
    (markJoint j s).monitor k = s.monitor k := by
  obtain ⟨v, h⟩ := markJoint_same j s; rw [h]; rfl
@[simp] theorem markJoint_timer (j : JointId) (s : State) (k : DistrictId) :
    (markJoint j s).timer k = s.timer k := by
  obtain ⟨v, h⟩ := markJoint_same j s; rw [h]; rfl
@[simp] theorem markJoint_feed (j : JointId) (s : State) (k : FeedId) :
    (markJoint j s).feed k = s.feed k := by
  obtain ⟨v, h⟩ := markJoint_same j s; rw [h]; rfl
@[simp] theorem markJoint_episode (j : JointId) (s : State) (k : FeedId) :
    (markJoint j s).episode k = s.episode k := by
  obtain ⟨v, h⟩ := markJoint_same j s; rw [h]; rfl
@[simp] theorem markJoint_summary (j : JointId) (s : State) (k : FeedId) :
    (markJoint j s).summary k = s.summary k := by
  obtain ⟨v, h⟩ := markJoint_same j s; rw [h]; rfl
@[simp] theorem markJoint_queue (j : JointId) (s : State) (k : FeedId) :
    (markJoint j s).queue k = s.queue k := by
  obtain ⟨v, h⟩ := markJoint_same j s; rw [h]; rfl
@[simp] theorem markJoint_channel (j : JointId) (s : State) (k : ChannelId) :
    (markJoint j s).channel k = s.channel k := by
  obtain ⟨v, h⟩ := markJoint_same j s; rw [h]; rfl
@[simp] theorem markJoint_joint (j : JointId) (s : State) (k : JointId) :
    (markJoint j s).joint k = s.joint k := by
  obtain ⟨v, h⟩ := markJoint_same j s; rw [h]; rfl

/-! ### The Arbiter's look after an event (R105) -/

theorem arbitrate_quiet {before after : State} (hc : ∀ c, (before.channel c).isSome → (after.channel c).isSome)
    (hq : ∀ f, (after.queue f).head? = (before.queue f).head?)
    (hf : ∀ f, (before.feed f).stalled = true → (after.feed f).stalled = true)
    (hm : after.mode = before.mode) : arbitrate before after = after := by
  have h : lookCaused before after = false := by
    have h1 : allChannels.any (fun c => (before.channel c).isSome && (after.channel c).isNone) = false := by
      simp only [List.any_eq_false]
      intro c _ h
      simp only [Bool.and_eq_true] at h
      have := hc c h.1
      simp_all
    have h2 : allFeeds.any (fun f => (before.queue f).head? != (after.queue f).head?) = false := by
      simp [List.any_eq_false, hq]
    have h3 : allFeeds.any (fun f => (before.feed f).stalled && !(after.feed f).stalled) = false := by
      simp only [List.any_eq_false]
      intro f _ h
      simp only [Bool.and_eq_true] at h
      have := hf f h.1
      simp_all
    have h4 : (before.mode == .standby && after.mode == .run) = false := by
      rw [hm]; cases before.mode <;> rfl
    simp only [lookCaused, h1, h2, h3, h4, Bool.or_self]
  simp [arbitrate, h]

end Sys2Proof.Machine
end

