-- ==== Sys2Proof/Laws/Ops.lean ====
section
/-! SUPPORT. What each shared operation does, said once: the timer operations, placements, entries to a state, the end
of a probe, a grant, the look that follows an event, and the taking of a request. -/

namespace Sys2Proof.Machine

variable (s : State) (d : DistrictId)

/-! ### Timers (R79) -/

theorem loadTimer_eq (p : Purpose) (n : Nat) : loadTimer d p n s = s.setTimer d (loaded p n) := by
  cases p <;> rfl
theorem runOnTimer_eq : runOnTimer d s = s.setTimer d (loaded .cool (s.timer d).count) := rfl
theorem clearTimer_eq : clearTimer d s = s.setTimer d Timer.empty := rfl
theorem retainCount_eq (n : Nat) : retainCount d n s = s.setTimer d { loaded .cool n with running := false } := rfl

/-! ### Queues (R96 to R99) -/

theorem mem_placed {q : List Entry} {e x : Entry} : x ∈ placed q e ↔ x = e ∨ x ∈ q := by
  simp only [placed, List.mem_append, List.mem_cons, List.mem_filter, decide_eq_true_eq]
  constructor
  · rintro (⟨h, -⟩ | rfl | ⟨h, -⟩)
    · exact .inr h
    · exact .inl rfl
    · exact .inr h
  · rintro (rfl | h)
    · exact .inr (.inl rfl)
    · rcases le_or_gt x.priority e.priority with hp | hp
      · exact .inl ⟨h, hp⟩
      · exact .inr (.inr ⟨h, hp⟩)
theorem mem_withoutEntry {q : List Entry} {x : Entry} : x ∈ withoutEntry q d ↔ x ∈ q ∧ x.district ≠ d := by
  simp [withoutEntry]
theorem placeEntry_eq (k : EntryKind) : placeEntry d k s = s.setQueue (s.dcfg d).feed (queueWith s d k) := rfl
theorem removeEntry_eq :
    removeEntry d s = s.setQueue (s.dcfg d).feed ((s.queue (s.dcfg d).feed).filter (fun e => e.district != d)) := rfl

/-! ### Entries to a state (R82, R84, R97, R123) -/

theorem becomeQueued_eq :
    becomeQueued d s =
      (s.setDistrict d { s.district d with st := .queued }).setQueue (s.dcfg d).feed (queueWith s d .full) := rfl
theorem becomeAwaitingGrant_eq :
    becomeAwaitingGrant d s =
      (s.setDistrict d { s.district d with st := .awaitingGrant }).setTimer d
        (loaded .grant s.cfg.globals.grantWindow) := rfl
theorem enterLocked_eq (cause : LockCause) :
    enterLocked d cause s =
      (s.setDistrict d { s.district d with st := .locked cause .noLook }).setTimer d
        (if patrolRuns (s.setDistrict d { s.district d with st := .locked cause .noLook }) d then
          loaded .patrol s.cfg.globals.patrol else Timer.empty) := by
  simp only [enterLocked, setSt, State.modDistrict, loadPatrol, loadTimer_eq, clearTimer_eq]
  split <;> simp
theorem grantRetry_eq : grantRetry d s = retried s d := rfl

/-! ### The end of a probe (R107) -/

theorem endProbe_free {c : ChannelId} (h : s.channel c = none) : endProbe c s = s := by simp [endProbe, h]
theorem endProbe_eq {c : ChannelId} {p : Probe} (h : s.channel c = some p) :
    endProbe c s = (stopWaiting p.feed c (abandonWindow p.district s)).setChannel c none := by simp [endProbe, h]

/-! ### The Arbiter (R104 to R106) -/

/-- Everything a grant can be. -/
theorem nextGrant_some {u : State} (h : nextGrant s = some u) :
    ∃ c f e rest, freeChannel s = some c ∧ (roundRobin s.lastGranted).find? (admissible s) = some f ∧
      s.queue f = e :: rest ∧ u = grantChannel s f c e rest := by
  simp only [nextGrant] at h
  split at h
  · rename_i c f hc hf
    split at h
    · rename_i e rest hq
      exact ⟨c, f, e, rest, hc, hf, hq, (Option.some.inj h).symm⟩
    · cases h
  · cases h

/-- The look after an event changes nothing or is one look. -/
theorem arbitrate_cases (before after : State) :
    (lookCaused before after = false ∧ arbitrate before after = after) ∨
      (lookCaused before after = true ∧ arbitrate before after = arbiterLook after) := by
  unfold arbitrate
  cases lookCaused before after <;> simp

/-! ### Requests (R179, R180) -/

theorem takeRequest_taken {src : Byte} {payload : List Byte} (h : Taken s src payload) (kind : Byte)
    (body : State → Answer) : takeRequest src kind payload body s = (body s).reply src kind := by
  obtain ⟨hc, h1, h2, hp⟩ := h
  simp [takeRequest, hc, requestOk, sourceOk, payloadOk, h1, h2, hp]
theorem takeRequest_closed (h : lineClosed s = true) (src kind : Byte) (payload : List Byte) (body : State → Answer) :
    takeRequest src kind payload body s = s := by simp [takeRequest, h]
theorem refuse_reply (st : Status) (payload : List Byte) (src kind : Byte) :
    (refuse st payload s).reply src kind = answered s s src kind st payload := rfl
theorem ofSlot_joined {src : Byte} {n : SlotId} (h : slotOf s src = some n) (body : SlotId → Answer) :
    ofSlot src s body = body n := by simp [ofSlot, h]
theorem ofSlot_outsider {src : Byte} (h : slotOf s src = none) (body : SlotId → Answer) :
    ofSlot src s body = refuse .notJoined [] s := by simp [ofSlot, h]

end Sys2Proof.Machine
end

