-- ==== Sys2Proof/Laws/Order.lean ====
section
/-! SUPPORT. Updates of different records commute; the lemmas put a chain of updates into one order, so that two states
built by the same updates read alike. -/

namespace Sys2Proof.Machine.State

variable (s : State)

@[simp] theorem setFcfg_setDcfg (i : DistrictId) (x : DistrictConfig) (k : FeedId) (y : FeedConfig) :
    (s.setFcfg k y).setDcfg i x = (s.setDcfg i x).setFcfg k y := rfl
@[simp] theorem setJcfg_setDcfg (i : DistrictId) (x : DistrictConfig) (k : JointId) (y : JointConfig) :
    (s.setJcfg k y).setDcfg i x = (s.setDcfg i x).setJcfg k y := rfl
@[simp] theorem setGlobals_setDcfg (i : DistrictId) (x : DistrictConfig) (y : Globals) :
    (s.setGlobals y).setDcfg i x = (s.setDcfg i x).setGlobals y := rfl
@[simp] theorem setMode_setDcfg (i : DistrictId) (x : DistrictConfig) (y : Mode) :
    (s.setMode y).setDcfg i x = (s.setDcfg i x).setMode y := rfl
@[simp] theorem setClock_setDcfg (i : DistrictId) (x : DistrictConfig) (y yq : Nat) :
    (s.setClock y yq).setDcfg i x = (s.setDcfg i x).setClock y yq := rfl
@[simp] theorem setProfileStore_setDcfg (i : DistrictId) (x : DistrictConfig) (y : Option Profile) (yl : Bool) (yw : Option Profile) :
    (s.setProfileStore y yl yw).setDcfg i x = (s.setDcfg i x).setProfileStore y yl yw := rfl
@[simp] theorem setTimer_setDcfg (i : DistrictId) (x : DistrictConfig) (k : DistrictId) (y : Timer) :
    (s.setTimer k y).setDcfg i x = (s.setDcfg i x).setTimer k y := rfl
@[simp] theorem setDistrict_setDcfg (i : DistrictId) (x : DistrictConfig) (k : DistrictId) (y : District) :
    (s.setDistrict k y).setDcfg i x = (s.setDcfg i x).setDistrict k y := rfl
@[simp] theorem setMonitor_setDcfg (i : DistrictId) (x : DistrictConfig) (k : DistrictId) (y : Monitor) :
    (s.setMonitor k y).setDcfg i x = (s.setDcfg i x).setMonitor k y := rfl
@[simp] theorem setFeed_setDcfg (i : DistrictId) (x : DistrictConfig) (k : FeedId) (y : Feed) :
    (s.setFeed k y).setDcfg i x = (s.setDcfg i x).setFeed k y := rfl
@[simp] theorem setEpisode_setDcfg (i : DistrictId) (x : DistrictConfig) (k : FeedId) (y : Option Episode) :
    (s.setEpisode k y).setDcfg i x = (s.setDcfg i x).setEpisode k y := rfl
@[simp] theorem setSummary_setDcfg (i : DistrictId) (x : DistrictConfig) (k : FeedId) (y : Summary) :
    (s.setSummary k y).setDcfg i x = (s.setDcfg i x).setSummary k y := rfl
@[simp] theorem setQueue_setDcfg (i : DistrictId) (x : DistrictConfig) (k : FeedId) (y : List Entry) :
    (s.setQueue k y).setDcfg i x = (s.setDcfg i x).setQueue k y := rfl
@[simp] theorem setChannel_setDcfg (i : DistrictId) (x : DistrictConfig) (k : ChannelId) (y : Option Probe) :
    (s.setChannel k y).setDcfg i x = (s.setDcfg i x).setChannel k y := rfl
@[simp] theorem setLastGranted_setDcfg (i : DistrictId) (x : DistrictConfig) (y : FeedId) :
    (s.setLastGranted y).setDcfg i x = (s.setDcfg i x).setLastGranted y := rfl
@[simp] theorem setSampled_setDcfg (i : DistrictId) (x : DistrictConfig) (y : BitVec 16) :
    (s.setSampled y).setDcfg i x = (s.setDcfg i x).setSampled y := rfl
@[simp] theorem setJoint_setDcfg (i : DistrictId) (x : DistrictConfig) (k : JointId) (y : Joint) :
    (s.setJoint k y).setDcfg i x = (s.setDcfg i x).setJoint k y := rfl
@[simp] theorem setSlot_setDcfg (i : DistrictId) (x : DistrictConfig) (k : SlotId) (y : Option Slot) :
    (s.setSlot k y).setDcfg i x = (s.setDcfg i x).setSlot k y := rfl
@[simp] theorem setLine_setDcfg (i : DistrictId) (x : DistrictConfig) (y : Line) :
    (s.setLine y).setDcfg i x = (s.setDcfg i x).setLine y := rfl
@[simp] theorem setJcfg_setFcfg (i : FeedId) (x : FeedConfig) (k : JointId) (y : JointConfig) :
    (s.setJcfg k y).setFcfg i x = (s.setFcfg i x).setJcfg k y := rfl
@[simp] theorem setGlobals_setFcfg (i : FeedId) (x : FeedConfig) (y : Globals) :
    (s.setGlobals y).setFcfg i x = (s.setFcfg i x).setGlobals y := rfl
@[simp] theorem setMode_setFcfg (i : FeedId) (x : FeedConfig) (y : Mode) :
    (s.setMode y).setFcfg i x = (s.setFcfg i x).setMode y := rfl
@[simp] theorem setClock_setFcfg (i : FeedId) (x : FeedConfig) (y yq : Nat) :
    (s.setClock y yq).setFcfg i x = (s.setFcfg i x).setClock y yq := rfl
@[simp] theorem setProfileStore_setFcfg (i : FeedId) (x : FeedConfig) (y : Option Profile) (yl : Bool) (yw : Option Profile) :
    (s.setProfileStore y yl yw).setFcfg i x = (s.setFcfg i x).setProfileStore y yl yw := rfl
@[simp] theorem setTimer_setFcfg (i : FeedId) (x : FeedConfig) (k : DistrictId) (y : Timer) :
    (s.setTimer k y).setFcfg i x = (s.setFcfg i x).setTimer k y := rfl
@[simp] theorem setDistrict_setFcfg (i : FeedId) (x : FeedConfig) (k : DistrictId) (y : District) :
    (s.setDistrict k y).setFcfg i x = (s.setFcfg i x).setDistrict k y := rfl
@[simp] theorem setMonitor_setFcfg (i : FeedId) (x : FeedConfig) (k : DistrictId) (y : Monitor) :
    (s.setMonitor k y).setFcfg i x = (s.setFcfg i x).setMonitor k y := rfl
@[simp] theorem setFeed_setFcfg (i : FeedId) (x : FeedConfig) (k : FeedId) (y : Feed) :
    (s.setFeed k y).setFcfg i x = (s.setFcfg i x).setFeed k y := rfl
@[simp] theorem setEpisode_setFcfg (i : FeedId) (x : FeedConfig) (k : FeedId) (y : Option Episode) :
    (s.setEpisode k y).setFcfg i x = (s.setFcfg i x).setEpisode k y := rfl
@[simp] theorem setSummary_setFcfg (i : FeedId) (x : FeedConfig) (k : FeedId) (y : Summary) :
    (s.setSummary k y).setFcfg i x = (s.setFcfg i x).setSummary k y := rfl
@[simp] theorem setQueue_setFcfg (i : FeedId) (x : FeedConfig) (k : FeedId) (y : List Entry) :
    (s.setQueue k y).setFcfg i x = (s.setFcfg i x).setQueue k y := rfl
@[simp] theorem setChannel_setFcfg (i : FeedId) (x : FeedConfig) (k : ChannelId) (y : Option Probe) :
    (s.setChannel k y).setFcfg i x = (s.setFcfg i x).setChannel k y := rfl
@[simp] theorem setLastGranted_setFcfg (i : FeedId) (x : FeedConfig) (y : FeedId) :
    (s.setLastGranted y).setFcfg i x = (s.setFcfg i x).setLastGranted y := rfl
@[simp] theorem setSampled_setFcfg (i : FeedId) (x : FeedConfig) (y : BitVec 16) :
    (s.setSampled y).setFcfg i x = (s.setFcfg i x).setSampled y := rfl
@[simp] theorem setJoint_setFcfg (i : FeedId) (x : FeedConfig) (k : JointId) (y : Joint) :
    (s.setJoint k y).setFcfg i x = (s.setFcfg i x).setJoint k y := rfl
@[simp] theorem setSlot_setFcfg (i : FeedId) (x : FeedConfig) (k : SlotId) (y : Option Slot) :
    (s.setSlot k y).setFcfg i x = (s.setFcfg i x).setSlot k y := rfl
@[simp] theorem setLine_setFcfg (i : FeedId) (x : FeedConfig) (y : Line) :
    (s.setLine y).setFcfg i x = (s.setFcfg i x).setLine y := rfl
@[simp] theorem setGlobals_setJcfg (i : JointId) (x : JointConfig) (y : Globals) :
    (s.setGlobals y).setJcfg i x = (s.setJcfg i x).setGlobals y := rfl
@[simp] theorem setMode_setJcfg (i : JointId) (x : JointConfig) (y : Mode) :
    (s.setMode y).setJcfg i x = (s.setJcfg i x).setMode y := rfl
@[simp] theorem setClock_setJcfg (i : JointId) (x : JointConfig) (y yq : Nat) :
    (s.setClock y yq).setJcfg i x = (s.setJcfg i x).setClock y yq := rfl
@[simp] theorem setProfileStore_setJcfg (i : JointId) (x : JointConfig) (y : Option Profile) (yl : Bool) (yw : Option Profile) :
    (s.setProfileStore y yl yw).setJcfg i x = (s.setJcfg i x).setProfileStore y yl yw := rfl
@[simp] theorem setTimer_setJcfg (i : JointId) (x : JointConfig) (k : DistrictId) (y : Timer) :
    (s.setTimer k y).setJcfg i x = (s.setJcfg i x).setTimer k y := rfl
@[simp] theorem setDistrict_setJcfg (i : JointId) (x : JointConfig) (k : DistrictId) (y : District) :
    (s.setDistrict k y).setJcfg i x = (s.setJcfg i x).setDistrict k y := rfl
@[simp] theorem setMonitor_setJcfg (i : JointId) (x : JointConfig) (k : DistrictId) (y : Monitor) :
    (s.setMonitor k y).setJcfg i x = (s.setJcfg i x).setMonitor k y := rfl
@[simp] theorem setFeed_setJcfg (i : JointId) (x : JointConfig) (k : FeedId) (y : Feed) :
    (s.setFeed k y).setJcfg i x = (s.setJcfg i x).setFeed k y := rfl
@[simp] theorem setEpisode_setJcfg (i : JointId) (x : JointConfig) (k : FeedId) (y : Option Episode) :
    (s.setEpisode k y).setJcfg i x = (s.setJcfg i x).setEpisode k y := rfl
@[simp] theorem setSummary_setJcfg (i : JointId) (x : JointConfig) (k : FeedId) (y : Summary) :
    (s.setSummary k y).setJcfg i x = (s.setJcfg i x).setSummary k y := rfl
@[simp] theorem setQueue_setJcfg (i : JointId) (x : JointConfig) (k : FeedId) (y : List Entry) :
    (s.setQueue k y).setJcfg i x = (s.setJcfg i x).setQueue k y := rfl
@[simp] theorem setChannel_setJcfg (i : JointId) (x : JointConfig) (k : ChannelId) (y : Option Probe) :
    (s.setChannel k y).setJcfg i x = (s.setJcfg i x).setChannel k y := rfl
@[simp] theorem setLastGranted_setJcfg (i : JointId) (x : JointConfig) (y : FeedId) :
    (s.setLastGranted y).setJcfg i x = (s.setJcfg i x).setLastGranted y := rfl
@[simp] theorem setSampled_setJcfg (i : JointId) (x : JointConfig) (y : BitVec 16) :
    (s.setSampled y).setJcfg i x = (s.setJcfg i x).setSampled y := rfl
@[simp] theorem setJoint_setJcfg (i : JointId) (x : JointConfig) (k : JointId) (y : Joint) :
    (s.setJoint k y).setJcfg i x = (s.setJcfg i x).setJoint k y := rfl
@[simp] theorem setSlot_setJcfg (i : JointId) (x : JointConfig) (k : SlotId) (y : Option Slot) :
    (s.setSlot k y).setJcfg i x = (s.setJcfg i x).setSlot k y := rfl
@[simp] theorem setLine_setJcfg (i : JointId) (x : JointConfig) (y : Line) :
    (s.setLine y).setJcfg i x = (s.setJcfg i x).setLine y := rfl
@[simp] theorem setMode_setGlobals (x : Globals) (y : Mode) :
    (s.setMode y).setGlobals x = (s.setGlobals x).setMode y := rfl
@[simp] theorem setClock_setGlobals (x : Globals) (y yq : Nat) :
    (s.setClock y yq).setGlobals x = (s.setGlobals x).setClock y yq := rfl
@[simp] theorem setProfileStore_setGlobals (x : Globals) (y : Option Profile) (yl : Bool) (yw : Option Profile) :
    (s.setProfileStore y yl yw).setGlobals x = (s.setGlobals x).setProfileStore y yl yw := rfl
@[simp] theorem setTimer_setGlobals (x : Globals) (k : DistrictId) (y : Timer) :
    (s.setTimer k y).setGlobals x = (s.setGlobals x).setTimer k y := rfl
@[simp] theorem setDistrict_setGlobals (x : Globals) (k : DistrictId) (y : District) :
    (s.setDistrict k y).setGlobals x = (s.setGlobals x).setDistrict k y := rfl
@[simp] theorem setMonitor_setGlobals (x : Globals) (k : DistrictId) (y : Monitor) :
    (s.setMonitor k y).setGlobals x = (s.setGlobals x).setMonitor k y := rfl
@[simp] theorem setFeed_setGlobals (x : Globals) (k : FeedId) (y : Feed) :
    (s.setFeed k y).setGlobals x = (s.setGlobals x).setFeed k y := rfl
@[simp] theorem setEpisode_setGlobals (x : Globals) (k : FeedId) (y : Option Episode) :
    (s.setEpisode k y).setGlobals x = (s.setGlobals x).setEpisode k y := rfl
@[simp] theorem setSummary_setGlobals (x : Globals) (k : FeedId) (y : Summary) :
    (s.setSummary k y).setGlobals x = (s.setGlobals x).setSummary k y := rfl
@[simp] theorem setQueue_setGlobals (x : Globals) (k : FeedId) (y : List Entry) :
    (s.setQueue k y).setGlobals x = (s.setGlobals x).setQueue k y := rfl
@[simp] theorem setChannel_setGlobals (x : Globals) (k : ChannelId) (y : Option Probe) :
    (s.setChannel k y).setGlobals x = (s.setGlobals x).setChannel k y := rfl
@[simp] theorem setLastGranted_setGlobals (x : Globals) (y : FeedId) :
    (s.setLastGranted y).setGlobals x = (s.setGlobals x).setLastGranted y := rfl
@[simp] theorem setSampled_setGlobals (x : Globals) (y : BitVec 16) :
    (s.setSampled y).setGlobals x = (s.setGlobals x).setSampled y := rfl
@[simp] theorem setJoint_setGlobals (x : Globals) (k : JointId) (y : Joint) :
    (s.setJoint k y).setGlobals x = (s.setGlobals x).setJoint k y := rfl
@[simp] theorem setSlot_setGlobals (x : Globals) (k : SlotId) (y : Option Slot) :
    (s.setSlot k y).setGlobals x = (s.setGlobals x).setSlot k y := rfl
@[simp] theorem setLine_setGlobals (x : Globals) (y : Line) :
    (s.setLine y).setGlobals x = (s.setGlobals x).setLine y := rfl
@[simp] theorem setClock_setMode (x : Mode) (y yq : Nat) :
    (s.setClock y yq).setMode x = (s.setMode x).setClock y yq := rfl
@[simp] theorem setProfileStore_setMode (x : Mode) (y : Option Profile) (yl : Bool) (yw : Option Profile) :
    (s.setProfileStore y yl yw).setMode x = (s.setMode x).setProfileStore y yl yw := rfl
@[simp] theorem setTimer_setMode (x : Mode) (k : DistrictId) (y : Timer) :
    (s.setTimer k y).setMode x = (s.setMode x).setTimer k y := rfl
@[simp] theorem setDistrict_setMode (x : Mode) (k : DistrictId) (y : District) :
    (s.setDistrict k y).setMode x = (s.setMode x).setDistrict k y := rfl
@[simp] theorem setMonitor_setMode (x : Mode) (k : DistrictId) (y : Monitor) :
    (s.setMonitor k y).setMode x = (s.setMode x).setMonitor k y := rfl
@[simp] theorem setFeed_setMode (x : Mode) (k : FeedId) (y : Feed) :
    (s.setFeed k y).setMode x = (s.setMode x).setFeed k y := rfl
@[simp] theorem setEpisode_setMode (x : Mode) (k : FeedId) (y : Option Episode) :
    (s.setEpisode k y).setMode x = (s.setMode x).setEpisode k y := rfl
@[simp] theorem setSummary_setMode (x : Mode) (k : FeedId) (y : Summary) :
    (s.setSummary k y).setMode x = (s.setMode x).setSummary k y := rfl
@[simp] theorem setQueue_setMode (x : Mode) (k : FeedId) (y : List Entry) :
    (s.setQueue k y).setMode x = (s.setMode x).setQueue k y := rfl
@[simp] theorem setChannel_setMode (x : Mode) (k : ChannelId) (y : Option Probe) :
    (s.setChannel k y).setMode x = (s.setMode x).setChannel k y := rfl
@[simp] theorem setLastGranted_setMode (x : Mode) (y : FeedId) :
    (s.setLastGranted y).setMode x = (s.setMode x).setLastGranted y := rfl
@[simp] theorem setSampled_setMode (x : Mode) (y : BitVec 16) :
    (s.setSampled y).setMode x = (s.setMode x).setSampled y := rfl
@[simp] theorem setJoint_setMode (x : Mode) (k : JointId) (y : Joint) :
    (s.setJoint k y).setMode x = (s.setMode x).setJoint k y := rfl
@[simp] theorem setSlot_setMode (x : Mode) (k : SlotId) (y : Option Slot) :
    (s.setSlot k y).setMode x = (s.setMode x).setSlot k y := rfl
@[simp] theorem setLine_setMode (x : Mode) (y : Line) :
    (s.setLine y).setMode x = (s.setMode x).setLine y := rfl
@[simp] theorem setProfileStore_setClock (x xq : Nat) (y : Option Profile) (yl : Bool) (yw : Option Profile) :
    (s.setProfileStore y yl yw).setClock x xq = (s.setClock x xq).setProfileStore y yl yw := rfl
@[simp] theorem setTimer_setClock (x xq : Nat) (k : DistrictId) (y : Timer) :
    (s.setTimer k y).setClock x xq = (s.setClock x xq).setTimer k y := rfl
@[simp] theorem setDistrict_setClock (x xq : Nat) (k : DistrictId) (y : District) :
    (s.setDistrict k y).setClock x xq = (s.setClock x xq).setDistrict k y := rfl
@[simp] theorem setMonitor_setClock (x xq : Nat) (k : DistrictId) (y : Monitor) :
    (s.setMonitor k y).setClock x xq = (s.setClock x xq).setMonitor k y := rfl
@[simp] theorem setFeed_setClock (x xq : Nat) (k : FeedId) (y : Feed) :
    (s.setFeed k y).setClock x xq = (s.setClock x xq).setFeed k y := rfl
@[simp] theorem setEpisode_setClock (x xq : Nat) (k : FeedId) (y : Option Episode) :
    (s.setEpisode k y).setClock x xq = (s.setClock x xq).setEpisode k y := rfl
@[simp] theorem setSummary_setClock (x xq : Nat) (k : FeedId) (y : Summary) :
    (s.setSummary k y).setClock x xq = (s.setClock x xq).setSummary k y := rfl
@[simp] theorem setQueue_setClock (x xq : Nat) (k : FeedId) (y : List Entry) :
    (s.setQueue k y).setClock x xq = (s.setClock x xq).setQueue k y := rfl
@[simp] theorem setChannel_setClock (x xq : Nat) (k : ChannelId) (y : Option Probe) :
    (s.setChannel k y).setClock x xq = (s.setClock x xq).setChannel k y := rfl
@[simp] theorem setLastGranted_setClock (x xq : Nat) (y : FeedId) :
    (s.setLastGranted y).setClock x xq = (s.setClock x xq).setLastGranted y := rfl
@[simp] theorem setSampled_setClock (x xq : Nat) (y : BitVec 16) :
    (s.setSampled y).setClock x xq = (s.setClock x xq).setSampled y := rfl
@[simp] theorem setJoint_setClock (x xq : Nat) (k : JointId) (y : Joint) :
    (s.setJoint k y).setClock x xq = (s.setClock x xq).setJoint k y := rfl
@[simp] theorem setSlot_setClock (x xq : Nat) (k : SlotId) (y : Option Slot) :
    (s.setSlot k y).setClock x xq = (s.setClock x xq).setSlot k y := rfl
@[simp] theorem setLine_setClock (x xq : Nat) (y : Line) :
    (s.setLine y).setClock x xq = (s.setClock x xq).setLine y := rfl
@[simp] theorem setTimer_setProfileStore (x : Option Profile) (xl : Bool) (xw : Option Profile) (k : DistrictId) (y : Timer) :
    (s.setTimer k y).setProfileStore x xl xw = (s.setProfileStore x xl xw).setTimer k y := rfl
@[simp] theorem setDistrict_setProfileStore (x : Option Profile) (xl : Bool) (xw : Option Profile) (k : DistrictId) (y : District) :
    (s.setDistrict k y).setProfileStore x xl xw = (s.setProfileStore x xl xw).setDistrict k y := rfl
@[simp] theorem setMonitor_setProfileStore (x : Option Profile) (xl : Bool) (xw : Option Profile) (k : DistrictId) (y : Monitor) :
    (s.setMonitor k y).setProfileStore x xl xw = (s.setProfileStore x xl xw).setMonitor k y := rfl
@[simp] theorem setFeed_setProfileStore (x : Option Profile) (xl : Bool) (xw : Option Profile) (k : FeedId) (y : Feed) :
    (s.setFeed k y).setProfileStore x xl xw = (s.setProfileStore x xl xw).setFeed k y := rfl
@[simp] theorem setEpisode_setProfileStore (x : Option Profile) (xl : Bool) (xw : Option Profile) (k : FeedId) (y : Option Episode) :
    (s.setEpisode k y).setProfileStore x xl xw = (s.setProfileStore x xl xw).setEpisode k y := rfl
@[simp] theorem setSummary_setProfileStore (x : Option Profile) (xl : Bool) (xw : Option Profile) (k : FeedId) (y : Summary) :
    (s.setSummary k y).setProfileStore x xl xw = (s.setProfileStore x xl xw).setSummary k y := rfl
@[simp] theorem setQueue_setProfileStore (x : Option Profile) (xl : Bool) (xw : Option Profile) (k : FeedId) (y : List Entry) :
    (s.setQueue k y).setProfileStore x xl xw = (s.setProfileStore x xl xw).setQueue k y := rfl
@[simp] theorem setChannel_setProfileStore (x : Option Profile) (xl : Bool) (xw : Option Profile) (k : ChannelId) (y : Option Probe) :
    (s.setChannel k y).setProfileStore x xl xw = (s.setProfileStore x xl xw).setChannel k y := rfl
@[simp] theorem setLastGranted_setProfileStore (x : Option Profile) (xl : Bool) (xw : Option Profile) (y : FeedId) :
    (s.setLastGranted y).setProfileStore x xl xw = (s.setProfileStore x xl xw).setLastGranted y := rfl
@[simp] theorem setSampled_setProfileStore (x : Option Profile) (xl : Bool) (xw : Option Profile) (y : BitVec 16) :
    (s.setSampled y).setProfileStore x xl xw = (s.setProfileStore x xl xw).setSampled y := rfl
@[simp] theorem setJoint_setProfileStore (x : Option Profile) (xl : Bool) (xw : Option Profile) (k : JointId) (y : Joint) :
    (s.setJoint k y).setProfileStore x xl xw = (s.setProfileStore x xl xw).setJoint k y := rfl
@[simp] theorem setSlot_setProfileStore (x : Option Profile) (xl : Bool) (xw : Option Profile) (k : SlotId) (y : Option Slot) :
    (s.setSlot k y).setProfileStore x xl xw = (s.setProfileStore x xl xw).setSlot k y := rfl
@[simp] theorem setLine_setProfileStore (x : Option Profile) (xl : Bool) (xw : Option Profile) (y : Line) :
    (s.setLine y).setProfileStore x xl xw = (s.setProfileStore x xl xw).setLine y := rfl
@[simp] theorem setDistrict_setTimer (i : DistrictId) (x : Timer) (k : DistrictId) (y : District) :
    (s.setDistrict k y).setTimer i x = (s.setTimer i x).setDistrict k y := rfl
@[simp] theorem setMonitor_setTimer (i : DistrictId) (x : Timer) (k : DistrictId) (y : Monitor) :
    (s.setMonitor k y).setTimer i x = (s.setTimer i x).setMonitor k y := rfl
@[simp] theorem setFeed_setTimer (i : DistrictId) (x : Timer) (k : FeedId) (y : Feed) :
    (s.setFeed k y).setTimer i x = (s.setTimer i x).setFeed k y := rfl
@[simp] theorem setEpisode_setTimer (i : DistrictId) (x : Timer) (k : FeedId) (y : Option Episode) :
    (s.setEpisode k y).setTimer i x = (s.setTimer i x).setEpisode k y := rfl
@[simp] theorem setSummary_setTimer (i : DistrictId) (x : Timer) (k : FeedId) (y : Summary) :
    (s.setSummary k y).setTimer i x = (s.setTimer i x).setSummary k y := rfl
@[simp] theorem setQueue_setTimer (i : DistrictId) (x : Timer) (k : FeedId) (y : List Entry) :
    (s.setQueue k y).setTimer i x = (s.setTimer i x).setQueue k y := rfl
@[simp] theorem setChannel_setTimer (i : DistrictId) (x : Timer) (k : ChannelId) (y : Option Probe) :
    (s.setChannel k y).setTimer i x = (s.setTimer i x).setChannel k y := rfl
@[simp] theorem setLastGranted_setTimer (i : DistrictId) (x : Timer) (y : FeedId) :
    (s.setLastGranted y).setTimer i x = (s.setTimer i x).setLastGranted y := rfl
@[simp] theorem setSampled_setTimer (i : DistrictId) (x : Timer) (y : BitVec 16) :
    (s.setSampled y).setTimer i x = (s.setTimer i x).setSampled y := rfl
@[simp] theorem setJoint_setTimer (i : DistrictId) (x : Timer) (k : JointId) (y : Joint) :
    (s.setJoint k y).setTimer i x = (s.setTimer i x).setJoint k y := rfl
@[simp] theorem setSlot_setTimer (i : DistrictId) (x : Timer) (k : SlotId) (y : Option Slot) :
    (s.setSlot k y).setTimer i x = (s.setTimer i x).setSlot k y := rfl
@[simp] theorem setLine_setTimer (i : DistrictId) (x : Timer) (y : Line) :
    (s.setLine y).setTimer i x = (s.setTimer i x).setLine y := rfl
@[simp] theorem setMonitor_setDistrict (i : DistrictId) (x : District) (k : DistrictId) (y : Monitor) :
    (s.setMonitor k y).setDistrict i x = (s.setDistrict i x).setMonitor k y := rfl
@[simp] theorem setFeed_setDistrict (i : DistrictId) (x : District) (k : FeedId) (y : Feed) :
    (s.setFeed k y).setDistrict i x = (s.setDistrict i x).setFeed k y := rfl
@[simp] theorem setEpisode_setDistrict (i : DistrictId) (x : District) (k : FeedId) (y : Option Episode) :
    (s.setEpisode k y).setDistrict i x = (s.setDistrict i x).setEpisode k y := rfl
@[simp] theorem setSummary_setDistrict (i : DistrictId) (x : District) (k : FeedId) (y : Summary) :
    (s.setSummary k y).setDistrict i x = (s.setDistrict i x).setSummary k y := rfl
@[simp] theorem setQueue_setDistrict (i : DistrictId) (x : District) (k : FeedId) (y : List Entry) :
    (s.setQueue k y).setDistrict i x = (s.setDistrict i x).setQueue k y := rfl
@[simp] theorem setChannel_setDistrict (i : DistrictId) (x : District) (k : ChannelId) (y : Option Probe) :
    (s.setChannel k y).setDistrict i x = (s.setDistrict i x).setChannel k y := rfl
@[simp] theorem setLastGranted_setDistrict (i : DistrictId) (x : District) (y : FeedId) :
    (s.setLastGranted y).setDistrict i x = (s.setDistrict i x).setLastGranted y := rfl
@[simp] theorem setSampled_setDistrict (i : DistrictId) (x : District) (y : BitVec 16) :
    (s.setSampled y).setDistrict i x = (s.setDistrict i x).setSampled y := rfl
@[simp] theorem setJoint_setDistrict (i : DistrictId) (x : District) (k : JointId) (y : Joint) :
    (s.setJoint k y).setDistrict i x = (s.setDistrict i x).setJoint k y := rfl
@[simp] theorem setSlot_setDistrict (i : DistrictId) (x : District) (k : SlotId) (y : Option Slot) :
    (s.setSlot k y).setDistrict i x = (s.setDistrict i x).setSlot k y := rfl
@[simp] theorem setLine_setDistrict (i : DistrictId) (x : District) (y : Line) :
    (s.setLine y).setDistrict i x = (s.setDistrict i x).setLine y := rfl
@[simp] theorem setFeed_setMonitor (i : DistrictId) (x : Monitor) (k : FeedId) (y : Feed) :
    (s.setFeed k y).setMonitor i x = (s.setMonitor i x).setFeed k y := rfl
@[simp] theorem setEpisode_setMonitor (i : DistrictId) (x : Monitor) (k : FeedId) (y : Option Episode) :
    (s.setEpisode k y).setMonitor i x = (s.setMonitor i x).setEpisode k y := rfl
@[simp] theorem setSummary_setMonitor (i : DistrictId) (x : Monitor) (k : FeedId) (y : Summary) :
    (s.setSummary k y).setMonitor i x = (s.setMonitor i x).setSummary k y := rfl
@[simp] theorem setQueue_setMonitor (i : DistrictId) (x : Monitor) (k : FeedId) (y : List Entry) :
    (s.setQueue k y).setMonitor i x = (s.setMonitor i x).setQueue k y := rfl
@[simp] theorem setChannel_setMonitor (i : DistrictId) (x : Monitor) (k : ChannelId) (y : Option Probe) :
    (s.setChannel k y).setMonitor i x = (s.setMonitor i x).setChannel k y := rfl
@[simp] theorem setLastGranted_setMonitor (i : DistrictId) (x : Monitor) (y : FeedId) :
    (s.setLastGranted y).setMonitor i x = (s.setMonitor i x).setLastGranted y := rfl
@[simp] theorem setSampled_setMonitor (i : DistrictId) (x : Monitor) (y : BitVec 16) :
    (s.setSampled y).setMonitor i x = (s.setMonitor i x).setSampled y := rfl
@[simp] theorem setJoint_setMonitor (i : DistrictId) (x : Monitor) (k : JointId) (y : Joint) :
    (s.setJoint k y).setMonitor i x = (s.setMonitor i x).setJoint k y := rfl
@[simp] theorem setSlot_setMonitor (i : DistrictId) (x : Monitor) (k : SlotId) (y : Option Slot) :
    (s.setSlot k y).setMonitor i x = (s.setMonitor i x).setSlot k y := rfl
@[simp] theorem setLine_setMonitor (i : DistrictId) (x : Monitor) (y : Line) :
    (s.setLine y).setMonitor i x = (s.setMonitor i x).setLine y := rfl
@[simp] theorem setEpisode_setFeed (i : FeedId) (x : Feed) (k : FeedId) (y : Option Episode) :
    (s.setEpisode k y).setFeed i x = (s.setFeed i x).setEpisode k y := rfl
@[simp] theorem setSummary_setFeed (i : FeedId) (x : Feed) (k : FeedId) (y : Summary) :
    (s.setSummary k y).setFeed i x = (s.setFeed i x).setSummary k y := rfl
@[simp] theorem setQueue_setFeed (i : FeedId) (x : Feed) (k : FeedId) (y : List Entry) :
    (s.setQueue k y).setFeed i x = (s.setFeed i x).setQueue k y := rfl
@[simp] theorem setChannel_setFeed (i : FeedId) (x : Feed) (k : ChannelId) (y : Option Probe) :
    (s.setChannel k y).setFeed i x = (s.setFeed i x).setChannel k y := rfl
@[simp] theorem setLastGranted_setFeed (i : FeedId) (x : Feed) (y : FeedId) :
    (s.setLastGranted y).setFeed i x = (s.setFeed i x).setLastGranted y := rfl
@[simp] theorem setSampled_setFeed (i : FeedId) (x : Feed) (y : BitVec 16) :
    (s.setSampled y).setFeed i x = (s.setFeed i x).setSampled y := rfl
@[simp] theorem setJoint_setFeed (i : FeedId) (x : Feed) (k : JointId) (y : Joint) :
    (s.setJoint k y).setFeed i x = (s.setFeed i x).setJoint k y := rfl
@[simp] theorem setSlot_setFeed (i : FeedId) (x : Feed) (k : SlotId) (y : Option Slot) :
    (s.setSlot k y).setFeed i x = (s.setFeed i x).setSlot k y := rfl
@[simp] theorem setLine_setFeed (i : FeedId) (x : Feed) (y : Line) :
    (s.setLine y).setFeed i x = (s.setFeed i x).setLine y := rfl
@[simp] theorem setSummary_setEpisode (i : FeedId) (x : Option Episode) (k : FeedId) (y : Summary) :
    (s.setSummary k y).setEpisode i x = (s.setEpisode i x).setSummary k y := rfl
@[simp] theorem setQueue_setEpisode (i : FeedId) (x : Option Episode) (k : FeedId) (y : List Entry) :
    (s.setQueue k y).setEpisode i x = (s.setEpisode i x).setQueue k y := rfl
@[simp] theorem setChannel_setEpisode (i : FeedId) (x : Option Episode) (k : ChannelId) (y : Option Probe) :
    (s.setChannel k y).setEpisode i x = (s.setEpisode i x).setChannel k y := rfl
@[simp] theorem setLastGranted_setEpisode (i : FeedId) (x : Option Episode) (y : FeedId) :
    (s.setLastGranted y).setEpisode i x = (s.setEpisode i x).setLastGranted y := rfl
@[simp] theorem setSampled_setEpisode (i : FeedId) (x : Option Episode) (y : BitVec 16) :
    (s.setSampled y).setEpisode i x = (s.setEpisode i x).setSampled y := rfl
@[simp] theorem setJoint_setEpisode (i : FeedId) (x : Option Episode) (k : JointId) (y : Joint) :
    (s.setJoint k y).setEpisode i x = (s.setEpisode i x).setJoint k y := rfl
@[simp] theorem setSlot_setEpisode (i : FeedId) (x : Option Episode) (k : SlotId) (y : Option Slot) :
    (s.setSlot k y).setEpisode i x = (s.setEpisode i x).setSlot k y := rfl
@[simp] theorem setLine_setEpisode (i : FeedId) (x : Option Episode) (y : Line) :
    (s.setLine y).setEpisode i x = (s.setEpisode i x).setLine y := rfl
@[simp] theorem setQueue_setSummary (i : FeedId) (x : Summary) (k : FeedId) (y : List Entry) :
    (s.setQueue k y).setSummary i x = (s.setSummary i x).setQueue k y := rfl
@[simp] theorem setChannel_setSummary (i : FeedId) (x : Summary) (k : ChannelId) (y : Option Probe) :
    (s.setChannel k y).setSummary i x = (s.setSummary i x).setChannel k y := rfl
@[simp] theorem setLastGranted_setSummary (i : FeedId) (x : Summary) (y : FeedId) :
    (s.setLastGranted y).setSummary i x = (s.setSummary i x).setLastGranted y := rfl
@[simp] theorem setSampled_setSummary (i : FeedId) (x : Summary) (y : BitVec 16) :
    (s.setSampled y).setSummary i x = (s.setSummary i x).setSampled y := rfl
@[simp] theorem setJoint_setSummary (i : FeedId) (x : Summary) (k : JointId) (y : Joint) :
    (s.setJoint k y).setSummary i x = (s.setSummary i x).setJoint k y := rfl
@[simp] theorem setSlot_setSummary (i : FeedId) (x : Summary) (k : SlotId) (y : Option Slot) :
    (s.setSlot k y).setSummary i x = (s.setSummary i x).setSlot k y := rfl
@[simp] theorem setLine_setSummary (i : FeedId) (x : Summary) (y : Line) :
    (s.setLine y).setSummary i x = (s.setSummary i x).setLine y := rfl
@[simp] theorem setChannel_setQueue (i : FeedId) (x : List Entry) (k : ChannelId) (y : Option Probe) :
    (s.setChannel k y).setQueue i x = (s.setQueue i x).setChannel k y := rfl
@[simp] theorem setLastGranted_setQueue (i : FeedId) (x : List Entry) (y : FeedId) :
    (s.setLastGranted y).setQueue i x = (s.setQueue i x).setLastGranted y := rfl
@[simp] theorem setSampled_setQueue (i : FeedId) (x : List Entry) (y : BitVec 16) :
    (s.setSampled y).setQueue i x = (s.setQueue i x).setSampled y := rfl
@[simp] theorem setJoint_setQueue (i : FeedId) (x : List Entry) (k : JointId) (y : Joint) :
    (s.setJoint k y).setQueue i x = (s.setQueue i x).setJoint k y := rfl
@[simp] theorem setSlot_setQueue (i : FeedId) (x : List Entry) (k : SlotId) (y : Option Slot) :
    (s.setSlot k y).setQueue i x = (s.setQueue i x).setSlot k y := rfl
@[simp] theorem setLine_setQueue (i : FeedId) (x : List Entry) (y : Line) :
    (s.setLine y).setQueue i x = (s.setQueue i x).setLine y := rfl
@[simp] theorem setLastGranted_setChannel (i : ChannelId) (x : Option Probe) (y : FeedId) :
    (s.setLastGranted y).setChannel i x = (s.setChannel i x).setLastGranted y := rfl
@[simp] theorem setSampled_setChannel (i : ChannelId) (x : Option Probe) (y : BitVec 16) :
    (s.setSampled y).setChannel i x = (s.setChannel i x).setSampled y := rfl
@[simp] theorem setJoint_setChannel (i : ChannelId) (x : Option Probe) (k : JointId) (y : Joint) :
    (s.setJoint k y).setChannel i x = (s.setChannel i x).setJoint k y := rfl
@[simp] theorem setSlot_setChannel (i : ChannelId) (x : Option Probe) (k : SlotId) (y : Option Slot) :
    (s.setSlot k y).setChannel i x = (s.setChannel i x).setSlot k y := rfl
@[simp] theorem setLine_setChannel (i : ChannelId) (x : Option Probe) (y : Line) :
    (s.setLine y).setChannel i x = (s.setChannel i x).setLine y := rfl
@[simp] theorem setJoint_setLastGranted (x : FeedId) (k : JointId) (y : Joint) :
    (s.setJoint k y).setLastGranted x = (s.setLastGranted x).setJoint k y := rfl
@[simp] theorem setJoint_setSampled (x : BitVec 16) (k : JointId) (y : Joint) :
    (s.setJoint k y).setSampled x = (s.setSampled x).setJoint k y := rfl
@[simp] theorem setSlot_setLastGranted (x : FeedId) (k : SlotId) (y : Option Slot) :
    (s.setSlot k y).setLastGranted x = (s.setLastGranted x).setSlot k y := rfl
@[simp] theorem setSlot_setSampled (x : BitVec 16) (k : SlotId) (y : Option Slot) :
    (s.setSlot k y).setSampled x = (s.setSampled x).setSlot k y := rfl
@[simp] theorem setLine_setLastGranted (x : FeedId) (y : Line) :
    (s.setLine y).setLastGranted x = (s.setLastGranted x).setLine y := rfl
@[simp] theorem setLine_setSampled (x : BitVec 16) (y : Line) :
    (s.setLine y).setSampled x = (s.setSampled x).setLine y := rfl
@[simp] theorem setSlot_setJoint (i : JointId) (x : Joint) (k : SlotId) (y : Option Slot) :
    (s.setSlot k y).setJoint i x = (s.setJoint i x).setSlot k y := rfl
@[simp] theorem setLine_setJoint (i : JointId) (x : Joint) (y : Line) :
    (s.setLine y).setJoint i x = (s.setJoint i x).setLine y := rfl
@[simp] theorem setLine_setSlot (i : SlotId) (x : Option Slot) (y : Line) :
    (s.setLine y).setSlot i x = (s.setSlot i x).setLine y := rfl
@[simp] theorem setLastGranted_setSampled (x : BitVec 16) (y : FeedId) :
    (s.setLastGranted y).setSampled x = (s.setSampled x).setLastGranted y := rfl

end Sys2Proof.Machine.State
end

