-- ==== Sys2Proof/Tests/Slice0.lean ====
section
/-! SUPPORT. Tests: ill-formed commands are refused, frames written out from the spec decode, and single steps give
what the spec's tables and examples say. Each expected value is the spec's, from the rule named beside it. -/

namespace Sys2Proof.Tests

set_option Elab.async false

open Sys2Proof.Machine

/-! ### Well-formed commands (R178, R179, R184) -/

theorem test_wf_refuses_source_zero : (Instr.join 0#8 []).wf = false := by decide
theorem test_wf_refuses_source_sixty_four : (Instr.hold 64#8 [0#8]).wf = false := by decide
theorem test_wf_takes_source_one_and_sixty_three :
    (Instr.join 1#8 []).wf = true ∧ (Instr.join 63#8 []).wf = true := by decide
theorem test_wf_refuses_payload_seventeen :
    (Instr.setDistrict 12#8 (List.replicate 17 0#8)).wf = false := by decide
theorem test_wf_takes_payload_sixteen : (Instr.setDistrict 12#8 (List.replicate 16 0#8)).wf = true := by decide
theorem test_wf_refuses_known_kind_as_unknown : (Instr.unknownKindRequest 12#8 0x45#8 []).wf = false := by decide
theorem test_wf_refuses_good_source_as_bad :
    (Instr.badSourceFrame 63#8).wf = false ∧ (Instr.badSourceFrame 64#8).wf = true := by decide

/-! ### Frames, byte by byte (R178, R182, R184): DEST 3, SOURCE 12 -/

/-- The worked example of R178: CHECK is 0xE3. -/
theorem test_decode_district_status :
    decodeFrame 3#4 [0xC5, 0x03, 0x0C, 0x03, 0x01, 0x0A, 0xE3] = some (.districtStatus 0x0C#8 [0x0A#8]) ∧
      frameOf 3#4 (.districtStatus 0x0C#8 [0x0A#8]) = some [0xC5, 0x03, 0x0C, 0x03, 0x01, 0x0A, 0xE3] := by decide
theorem test_decode_read_globals :
    decodeFrame 3#4 [0xC5, 0x03, 0x0C, 0x09, 0x00, 0xE8] = some (.readGlobals 0x0C#8 []) := by decide
theorem test_decode_join :
    decodeFrame 3#4 [0xC5, 0x03, 0x0C, 0x10, 0x00, 0xE1] = some (.join 0x0C#8 []) := by decide
theorem test_decode_hold :
    decodeFrame 3#4 [0xC5, 0x03, 0x0C, 0x20, 0x01, 0x0A, 0xC6] = some (.hold 0x0C#8 [0x0A#8]) := by decide
theorem test_decode_grant :
    decodeFrame 3#4 [0xC5, 0x03, 0x0C, 0x30, 0x01, 0x0A, 0xB6] = some (.grant 0x0C#8 [0x0A#8]) := by decide
theorem test_decode_set_district :
    decodeFrame 3#4 [0xC5, 0x03, 0x0C, 0x40, 0x04, 0x02, 0x07, 0x01, 0x2C, 0x77] =
      some (.setDistrict 0x0C#8 [0x02#8, 0x07#8, 0x01#8, 0x2C#8]) := by decide
theorem test_decode_set_mode :
    decodeFrame 3#4 [0xC5, 0x03, 0x0C, 0x45, 0x01, 0x01, 0xAA] = some (.setMode 0x0C#8 [0x01#8]) := by decide
theorem test_decode_unknown_kind :
    decodeFrame 3#4 [0xC5, 0x03, 0x0C, 0x46, 0x00, 0xAB] = some (.unknownKindRequest 0x0C#8 0x46#8 []) := by decide
theorem test_decode_foreign_frame :
    decodeFrame 3#4 [0xC5, 0x04, 0x0C, 0x10, 0x00, 0xE0] = some (.foreignFrame 0x04#8) := by decide
theorem test_decode_bad_source :
    decodeFrame 3#4 [0xC5, 0x03, 0x40, 0x10, 0x00, 0xAD] = some (.badSourceFrame 0x40#8) := by decide
theorem test_decode_wrong_check :
    decodeFrame 3#4 [0xC5, 0x03, 0x0C, 0x10, 0x00, 0xE2] = some .checkError := by decide
theorem test_decode_length_seventeen :
    decodeFrame 3#4 [0xC5, 0x03, 0x0C, 0x10, 0x11, 0x00] = some .frameError := by decide
theorem test_no_row_has_bits : decodeTableWord 8 0x10 = none := by decide

/-! ### Small states -/

/-- The state after a command that goes on. -/
def after (c : Instr) (s : State) : State :=
  match exec c s with
  | .next t => t
  | .fault _ | .refused _ => State.reset

/-- The status and the payload of the reply that is due. -/
def replyOf (s : State) : Option (Status × List Byte) :=
  match s.line.cond with
  | .replyDue r => some (r.status, r.payload)
  | _ => none

/-- A slot with empty changed-sets, for node `node` and the given kinds. -/
def slotFor (node : Byte) (kinds : BitVec 8) : Slot :=
  { node := node, subscription := kinds, feedEnable := true, jointEnable := true, changedDistricts := 0#16,
    changedFeeds := 0#4, changedJoints := 0#8 }

/-- STANDBY, with node 12 in slot S0. -/
def standby : State := State.reset.setSlot 0 (some (slotFor 12#8 0xFF#8))

/-- RUN, with every feed decided and CLEAR, and node 12 in slot S0. -/
def running : State :=
  { standby with
    mode := .run
    feeds := Vector.replicate 4
      { stalled := false, decided := true, filterRun := 0, lastShown := false, phase := .idle } }

/-- RUN, with district D0 in state `x`. -/
def inState (x : DistrictState) : State := running.setDistrict 0 { District.reset with st := x }

/-- A probe of district D0 at the default configuration. -/
def probeIn (kind : EntryKind) (stage : Stage) (elapsed : Nat) : Probe :=
  { district := 0, feed := 0, kind := kind, weight := if kind = .full then 4 else 0,
    profile := { preLimit := 40, preTime := 50, rampSteps := 4, stepTime := 20, confirmTime := 200, allowance := 8000 },
    stage := stage, entryStep := 1, elapsed := elapsed, pause := none, lifetime := 4656 }

/-- RUN, with district D0 in channel P0. -/
def probing (p : Probe) : State :=
  (inState (if p.kind = .full then .probing else .locked .limit .inFlight)).setChannel 0 (some p)

/-- A timer that an expiry of this purpose is due on. -/
def dueTimer (p : Purpose) : Timer :=
  { count := 1, purpose := some p, mode := timerMode p, running := true, boundary := true }

/-! ### Configuration (R22, R101, R127) -/

/-- The table of R22, on T and H. -/
theorem test_clamps_of_t_and_h :
    let k := DistrictConfig.default 0
    (takeDistrict k [(7, 5)]).map DistrictConfig.trip = some 10 ∧
      (takeDistrict k [(8, 305)]).map DistrictConfig.hard = some 310 ∧
      (takeDistrict k [(8, 1200)]).map DistrictConfig.hard = some 1000 ∧
      takeDistrict k [(8, 250)] = none ∧
      (takeDistrict k [(7, 950), (8, 990)]).map (fun c => (c.trip, c.hard)) = some (900, 990) ∧
      (takeDistrict k [(14, 0), (15, 150)]).map (fun c => (c.rampSteps, c.stepTime)) = some (1, 100) := by
  decide +kernel

/-- The table of R127: lifetimes of the default, the shortest and the longest profiles, in ms. -/
theorem test_probe_lifetimes :
    lifetimeMs .full ⟨40, 50, 4, 20, 200, 8000⟩ = 1164 ∧ lifetimeMs .full ⟨40, 10, 1, 5, 20, 8000⟩ = 574 ∧
      lifetimeMs .full ⟨40, 500, 8, 100, 1000, 8000⟩ = 5104 ∧ lifetimeMs .look ⟨40, 50, 4, 20, 200, 8000⟩ = 604 ∧
      lifetimeMs .look ⟨40, 10, 4, 20, 200, 8000⟩ = 524 ∧ lifetimeMs .look ⟨40, 500, 4, 20, 200, 8000⟩ = 1504 := by
  decide

/-- The worked backoff table of chapter 5. -/
theorem test_backoff_table :
    [0, 1, 2, 3, 4, 5, 6, 7, 14].map
      (fun n => backoff (running.setDistrict 0 { District.reset with failures := n }) 0) =
      [25, 50, 100, 200, 400, 800, 1000, 1000, 1000] := by decide +kernel

/-- The table of R101: weight and budget to effective weight. -/
theorem test_effective_weights :
    [(4, 8), (8, 6), (15, 1), (2, 6)].map (fun (w, b) =>
      effectiveWeight ((running.setDcfg 0 { DistrictConfig.default 0 with weight := w }).setFcfg 0
        { FeedConfig.default with budget := b }) 0 ⟨0, .full, 2⟩) = [4, 6, 1, 2] := by decide +kernel

/-! ### Reset and modes (R171 to R176) -/

theorem test_reset_loads_defaults_and_sets_profile_lost :
    let t := after (.powerOnReset 5#4) running
    t.lineAddress = 5#4 ∧ t.mode = .standby ∧ t.profileLost = true ∧ t.cfg = Profile.default ∧
      (t.feed 0).stalled = true ∧ t.lastGranted = 3 ∧ t.slot 0 = none := by decide +kernel
/-- Entry to RUN queues all sixteen districts; the feeds are STALLED, so none is admitted (R171, R102). -/
theorem test_entering_run_queues_districts :
    let t := after (.setMode 12#8 [1#8]) standby
    (t.queue 1).map Entry.district = [4, 5, 6, 7] ∧ (t.district 7).st = .queued ∧ t.channel 0 = none ∧
      replyOf t = some (.ok, [1#8]) := by decide +kernel
theorem test_leaving_run_darkens_districts :
    let t := after (.setMode 12#8 [0#8]) (inState .live)
    (t.district 0).st = .off ∧ t.mode = .standby ∧ (t.slot 0).isSome = true := by decide +kernel
theorem test_store_profile_in_run_is_refused :
    replyOf (after (.storeProfile 12#8 []) running) = some (.mode, []) := by decide +kernel
theorem test_profile_write_end_validates :
    let t := after (.profileWriteEnd true) (after (.storeProfile 12#8 []) standby)
    t.image = some standby.cfg ∧ t.profileLost = false ∧ t.writing = none := by decide +kernel

/-! ### Samples and trips (R27 to R43; "Worked trip times") -/

/-- 4.00 A adds 100: from 1,900 the allowance of 2,000 is reached, from 1,899 it is not. -/
theorem test_overload_at_the_allowance :
    let from1 := fun a => after (.currentSample 0 400 true)
      ((inState .live).setMonitor 0 { Monitor.reset with integrator := a })
    ((from1 1900).district 0).st = .cooling .merging ∧ ((from1 1900).district 0).lastTrip = some .overload ∧
      ((from1 1899).district 0).st = .live ∧ ((from1 1899).monitor 0).integrator = 1999 := by decide +kernel
/-- 9.50 A trips at once; 3.00 A leaks 4. -/
theorem test_hard_trip_and_leak :
    ((after (.currentSample 0 950 true) (inState .live)).district 0).lastTrip = some .hard ∧
      ((after (.currentSample 0 300 true)
        ((inState .live).setMonitor 0 { Monitor.reset with integrator := 1980 })).monitor 0).integrator = 1976 := by
  decide +kernel
/-- R38: the window's success keeps the toggled polarity and counts the swap. -/
theorem test_swap_window_success :
    let t := after (.swapWindowSuccess 0) (((inState .live).setMonitor 0
      { Monitor.reset with window := some ⟨1, .normal, .live, true⟩ }).setDistrict 0
        { District.reset with st := .live, polarity := .swapped })
    (t.monitor 0).window = none ∧ (t.district 0).polarity = .swapped ∧ (t.district 0).swaps = 1 := by decide +kernel

/-! ### Feeds (R47 to R54) -/

theorem test_stall_sample_counts_towards_the_filter :
    ((after (.stallLineSample 0 false) running).feed 0).filterRun = 1 ∧
      ((after (.stallLineSample 0 true) running).feed 0).filterRun = 0 := by decide +kernel
/-- The shed timer starts with the delay of 100 ms (R46, R49). -/
theorem test_stall_assertion_starts_the_shed_timer :
    let t := after (.stallAssertion 0) (running.setFeed 0
      { stalled := false, decided := true, filterRun := 4, lastShown := true, phase := .idle })
    (t.feed 0).stalled = true ∧ shedMs (t.feed 0).phase = 100 ∧ (t.feed 0).filterRun = 0 := by decide +kernel
theorem test_stall_clear_ends_the_shed_timer :
    let t := after (.stallClear 0) (running.setFeed 0
      { stalled := true, decided := true, filterRun := 4, lastShown := false, phase := .pending 7 })
    (t.feed 0).stalled = false ∧ (t.feed 0).phase = .idle := by decide +kernel
theorem test_feed_first_decision_of_clear :
    let t := after (.feedFirstDecision 0) (running.setFeed 0
      { stalled := true, decided := false, filterRun := 4, lastShown := false, phase := .idle })
    (t.feed 0).stalled = false ∧ (t.feed 0).decided = true := by decide +kernel
theorem test_shed_takes_live_districts :
    let t := after (.shed 0) ((inState .live).setFeed 0
      { stalled := true, decided := true, filterRun := 0, lastShown := true, phase := .pending 1 })
    (t.district 0).st = .cooling .merging ∧ (t.feed 0).phase = .shed ∧ (t.district 0).trips = 0 ∧
      (t.episode 0).map Episode.members = some [0] := by decide +kernel

/-! ### Episodes (R62, R70 to R75; the example of chapter 4) -/

/-- The MASS episode on feed C at 9.0 ms: D8 waits in P0, D9, D13, D12, D11 and D10 are members. -/
def massExample : State :=
  let set := fun (d : DistrictId) (x : DistrictState) (n : Nat) (s : State) =>
    s.setDistrict d { District.reset with st := x, failures := n }
  let conf := fun (d : DistrictId) (p : Fin 4) (s : State) =>
    s.setDcfg d { DistrictConfig.default d with feed := 2, priority := p }
  let s := conf 10 1 (conf 12 3 (conf 13 2 running))
  let s := set 8 .probing 0 (set 9 (.cooling .merging) 0 (set 10 (.cooling .merging) 0 s))
  let s := set 11 (.locked .manualPolicy .noLook) 0 (set 12 (.cooling .merging) 3 s)
  let s := (set 13 (.isolated .coolPending) 0 s).setChannel 0 (some
    { probeIn .full (.ramp 3) 0 with district := 8, feed := 2, pause := some ⟨.sibling, .ramp 4⟩ })
  s.setEpisode 2 (some
    { members := [9, 13, 12, 11, 10], stallFlag := false, waiting := 1#4,
      kind := .ordinary { remaining := 1, opening := 20, total := 36, out := true } })

theorem test_mass_close_gives_the_counts_of_the_example :
    let t := after (.episodeWindowExpiry 2) massExample
    [10, 9, 13, 8, 12].map (fun d => (t.timer d).count) = [50, 80, 110, 140, 170] ∧
      (t.timer 11).purpose = none ∧ t.channel 0 = none ∧ (t.timer 13).running = false ∧
      (t.district 8).st = .cooling .counting ∧ t.summary 2 = ⟨some .massClass, 6, some .window⟩ := by decide +kernel
/-- A LOCAL close of one member with F = 0 gives 25 ticks (R73). -/
theorem test_local_close_at_the_cap :
    let t := after (.episodeCapExpiry 0) ((inState (.cooling .merging)).setEpisode 0 (some
      { members := [0], stallFlag := false, waiting := 0#4,
        kind := .ordinary { remaining := 7, opening := 20, total := 160, out := false } }))
    t.timer 0 = loaded .cool 25 ∧ t.summary 0 = ⟨some .localClass, 1, some .cap⟩ := by decide +kernel

/-! ### Timers (R80 to R89) -/

theorem test_tick_marks_a_count_of_one :
    let t := after .tickBoundary ((inState (.cooling .counting)).setTimer 0 (loaded .cool 1))
    (t.timer 0).boundary = true ∧ (t.district 0).st = .cooling .counting := by decide +kernel
theorem test_tick_lowers_a_count :
    ((after .tickBoundary ((inState (.cooling .counting)).setTimer 0 (loaded .cool 25))).timer 0).count = 24 := by
  decide +kernel
/-- The expiry queues the district, and the Arbiter admits it at once (R82, R105). -/
theorem test_cool_expiry_admits_an_auto_district :
    let t := after (.coolExpiry 0) ((inState (.cooling .counting)).setTimer 0 (dueTimer .cool))
    (t.district 0).st = .probing ∧ (t.channel 0).map Probe.lifetime = some (4 * 1164) ∧ t.lastGranted = 0 := by
  decide +kernel
/-- RUN, with D4, D5 and D6 of feed B due of one tick boundary: D4 and D5 of COOL, D6 of PATROL; feed B is STALLED. -/
def threeDue : State :=
  let cooling : District := { District.reset with st := .cooling .counting }
  let s := ((running.setFeed 1 { Feed.reset with decided := true }).setDistrict 4 cooling).setDistrict 5 cooling
  let s := s.setDistrict 6 { District.reset with st := .locked .limit .noLook, failures := 5 }
  ((s.setTimer 4 (dueTimer .cool)).setTimer 5 (dueTimer .cool)).setTimer 6 (dueTimer .patrol)

/-- Expiries of one tick boundary take their places in ascending district number (R80, R98), and a PATROL expiry that
finds its look in flight cannot come to place one behind a higher-numbered district's. -/
theorem test_expiries_of_one_tick_take_their_places :
    let s := threeDue.setDistrict 4 { District.reset with st := .locked .limit .inFlight, failures := 5 }
    let s := (s.setTimer 4 (dueTimer .patrol)).setChannel 0
      (some { probeIn .look .sense 0 with district := 4, feed := 1 })
    let t := after (.patrolExpiry 4) (after (.probeLifetimeExpiry 0) (after (.coolExpiry 5) s))
    (t.queue 1).map Entry.district = [5] ∧ t.timer 4 = loaded .patrol 1250 ∧
    ((after (.coolExpiry 5) threeDue).queue 1).map Entry.district = [4, 5] ∧
      ((after (.patrolExpiry 6) (after (.coolExpiry 5) threeDue)).queue 1).map Entry.district = [4, 5, 6] := by
  decide +kernel
theorem test_grant_expiry_locks :
    ((after (.grantExpiry 0) ((inState .awaitingGrant).setTimer 0 (dueTimer .grant))).district 0).st =
      .locked .grantLapsed .noLook := by decide +kernel
theorem test_probation_expiry_clears_f :
    let t := after (.probationExpiry 0) ((running.setDistrict 0
      { District.reset with st := .live, failures := 2, probation := true }).setTimer 0 (dueTimer .probation))
    (t.district 0).failures = 0 ∧ (t.district 0).probation = false ∧ t.timer 0 = Timer.empty := by decide +kernel
/-- A look of weight 0 is granted (R88, R101). -/
theorem test_patrol_expiry_starts_a_look :
    let t := after (.patrolExpiry 0) ((inState (.locked .limit .noLook)).setTimer 0 (dueTimer .patrol))
    (t.district 0).st = .locked .limit .inFlight ∧ (t.channel 0).map Probe.weight = some 0 ∧
      t.timer 0 = loaded .patrol 1250 := by decide +kernel

/-! ### Probes (R115 to R128; the examples of chapter 7) -/

theorem test_sense_end_enters_precharge :
    ((after (.senseEnd 0) (probing (probeIn .full .sense 8))).channel 0).map Probe.stage = some .precharge := by
  decide +kernel
/-- A third failure with a lockout limit of 3 and patrol set: LOCKED, PATROL 1,250, BACKFEED. -/
theorem test_backfeed_locks_at_the_limit :
    let s := (probing (probeIn .full .sense 8)).setDcfg 0
      { DistrictConfig.default 0 with lockoutLimit := 3, patrol := true }
    let t := after (.senseEnd 0) ((s.setMonitor 0 { Monitor.reset with voltage := true }).setDistrict 0
      { District.reset with st := .probing, failures := 2 })
    (t.district 0).st = .locked .limit .noLook ∧ (t.district 0).failures = 3 ∧
      (t.district 0).lastFail = some .backfeed ∧ t.timer 0 = loaded .patrol 1250 := by decide +kernel
/-- A mean of 41 fails and loads 50 ticks; a mean of 40 with a remainder dropped passes (R116). -/
theorem test_precharge_mean_against_the_limit :
    let s := fun h => after (.prechargeEnd 0) ((probing (probeIn .full .precharge 200)).setMonitor 0
      { Monitor.reset with history := h })
    ((s (Vector.replicate 8 41)).district 0).st = .cooling .counting ∧
      ((s (Vector.replicate 8 41)).timer 0).count = 50 ∧
      ((s #v[47, 40, 40, 40, 40, 40, 40, 40]).channel 0).map Probe.stage = some (.ramp 1) := by decide +kernel
/-- A look passes: F is 3 - 1 = 2, and the district is queued and admitted (R125). -/
theorem test_look_passes :
    let t := after (.prechargeEnd 0) ((((probing (probeIn .look .precharge 200)).setDcfg 0
      { DistrictConfig.default 0 with lockoutLimit := 3 }).setMonitor 0
        { Monitor.reset with history := Vector.replicate 8 12 }).setDistrict 0
          { District.reset with st := .locked .limit .inFlight, failures := 3 })
    (t.district 0).failures = 2 ∧ (t.district 0).st = .probing ∧
      (t.channel 0).map Probe.kind = some .full := by decide +kernel
theorem test_ramp_step_end_needs_voltage :
    let s := fun v => after (.rampStepEnd 0) ((probing (probeIn .full (.ramp 4) 80)).setMonitor 0
      { Monitor.reset with voltage := v })
    ((s true).channel 0).map Probe.stage = some (.confirm true) ∧
      ((s false).district 0).lastFail = some .noVoltage := by decide +kernel
theorem test_confirm_end_starts_probation :
    let t := after (.confirmEnd 0) ((probing (probeIn .full (.confirm false) 800)).setMonitor 0
      { Monitor.reset with voltage := true })
    (t.district 0).st = .live ∧ (t.district 0).probation = true ∧ t.timer 0 = loaded .probation 250 ∧
      t.channel 0 = none ∧ switchDrive t 0 = .closed := by decide +kernel
theorem test_lifetime_expiry_requeues :
    let t := after (.probeLifetimeExpiry 0) (((probing (probeIn .full .sense 3)).setFeed 0
      { stalled := true, decided := true, filterRun := 0, lastShown := true, phase := .idle }))
    (t.district 0).st = .queued ∧ (t.district 0).lastFail = some .lifetime ∧ (t.district 0).failures = 0 := by
  decide +kernel

/-! ### Joints (R145 to R155; the example of chapter 9) -/

/-- RUN, with joint J2 enabled over D0, in the given record; D0 stands ISOLATED. -/
def withJoint (x : Joint) : State :=
  ((inState (.isolated .queued)).setJcfg 2 { JointConfig.default with enabled := true, cover := 1#16 }).setJoint 2 x

theorem test_first_decision_coupled_releases :
    let t := after (.jointFirstDecision 2) (withJoint { Joint.reset with filterRun := 64, lastShown := true })
    (t.joint 2).st = .coupled ∧ (t.joint 2).decided = true ∧ (t.district 0).st = .probing := by decide +kernel
/-- Docking starts with 4,000 and 40,000 samples. -/
theorem test_docking_starts_both_timers :
    let t := after (.debouncedInputChange 2) (withJoint
      { Joint.reset with decided := true, filterRun := 64, lastShown := true })
    (t.joint 2).st = .docking ∧ jointTimerSamples (t.joint 2).settle = 4000 ∧
      jointTimerSamples (t.joint 2).docking = 40000 ∧ (t.district 0).st = .isolated .queued := by decide +kernel
theorem test_settle_expiry_couples :
    let t := after (.settleExpiry 2) (withJoint { Joint.reset with
      st := .docking, decided := true, input := true, settle := some ⟨1, true⟩, docking := some ⟨36000, false⟩ })
    (t.joint 2).st = .coupled ∧ (t.joint 2).docking = none ∧ (t.district 0).st = .probing := by decide +kernel
theorem test_docking_expiry_faults :
    let t := after (.dockingExpiry 2) (withJoint { Joint.reset with
      st := .docking, decided := true, input := true, settle := some ⟨9, false⟩, docking := some ⟨1, true⟩ })
    (t.joint 2).st = .fault ∧ (t.district 0).st = .isolated .queued := by decide +kernel
theorem test_joint_sample_advances_timers :
    let t := after (.jointSenseSample 2 false) (withJoint { Joint.reset with
      st := .docking, decided := true, input := true, settle := some ⟨4000, false⟩, docking := some ⟨1, false⟩ })
    (t.joint 2).settle = some ⟨3999, false⟩ ∧ (t.joint 2).docking = some ⟨1, true⟩ := by decide +kernel
theorem test_accept_joint_couples :
    let t := after (.acceptJoint 12#8 [2#8]) (withJoint { Joint.reset with st := .fault, decided := true, input := true })
    (t.joint 2).st = .coupled ∧ (t.district 0).st = .probing ∧ replyOf t = some (.ok, [0x1C#8]) := by decide +kernel

/-! ### Reads (R163, R182, R185) -/

/-- The default globals, field by field (R91, R185). -/
theorem test_read_globals :
    replyOf (after (.readGlobals 12#8 []) standby) =
      some (.ok, [3, 0, 25, 0x03, 0xE8, 0, 250, 0x0E, 0xA6, 0x04, 0xE2]) := by decide +kernel
/-- The default district record of D5 (R2, R185). -/
theorem test_read_district_config :
    replyOf (after (.readDistrictConfig 12#8 [5#8, 0#8]) standby) =
      some (.ok, [1, 1, 0, 2, 4, 5, 16, 4, 0x01, 0x2C, 0x03, 0x20, 0x07, 0xD0]) ∧
    replyOf (after (.readDistrictConfig 12#8 [5#8, 1#8]) standby) =
      some (.ok, [0x1F, 0x40, 40, 0, 50, 4, 20, 0, 200]) := by decide +kernel
/-- The default feed record (R46, R185). -/
theorem test_read_feed_config :
    replyOf (after (.readFeedConfig 12#8 [0#8]) standby) =
      some (.ok, [8, 3, 1, 0, 50, 0, 30, 0, 100, 0, 2]) := by decide +kernel
/-- The default joint record (R145, R185). -/
theorem test_read_joint_config :
    replyOf (after (.readJointConfig 12#8 [7#8]) standby) = some (.ok, [0, 0, 0, 0, 2, 2, 3]) ∧
      replyOf (after (.readJointConfig 12#8 [8#8]) standby) = some (.badArg, []) := by decide +kernel
theorem test_part_status :
    replyOf (after (.partStatus 13#8 []) standby) = some (.ok, [2, 0, 0xFF, 0, 0, 0, 0, 0, 0]) := by decide +kernel
theorem test_summary_of_an_outsider :
    replyOf (after (.summary 13#8 []) running) = some (.ok, [0, 0, 0, 0]) := by decide +kernel
/-- COOLING counting with 15 ticks: state 2, sub-state 1, view 1 (R182). -/
theorem test_district_status :
    replyOf (after (.districtStatus 12#8 [0#8]) ((inState (.cooling .counting)).setTimer 0 (loaded .cool 15))) =
      some (.ok, [0x2A, 0, 0, 0, 0, 0, 0, 0, 15, 0, 0, 0, 0, 0]) := by decide +kernel
theorem test_feed_status :
    replyOf (after (.feedStatus 12#8 [0#8]) standby) = some (.ok, [1, 0, 0, 8, 0, 0, 0, 0, 0, 0, 0]) := by
  decide +kernel
theorem test_joint_status :
    replyOf (after (.jointStatus 12#8 [2#8]) (withJoint { Joint.reset with
      st := .docking, decided := true, input := true, settle := some ⟨2064, false⟩, docking := some ⟨38064, false⟩ })) =
      some (.ok, [0x7E, 0x08, 0x10, 0, 0x94, 0xB0, 0, 1]) := by decide +kernel

/-! ### Masters (R94, R158 to R169; the example of chapter 10) -/

/-- D10 LIVE; slots S0, S1 and S3 for nodes 7, 12 and 40, as in the example. -/
def panels : State :=
  (((running.setDistrict 10 { District.reset with st := .live }).setSlot 0 (some (slotFor 7#8 0xFF#8))).setSlot 1
    (some (slotFor 12#8 0xFF#8))).setSlot 3 (some (slotFor 40#8 0x0D#8))

theorem test_join_takes_the_lowest_free_slot :
    replyOf (after (.join 9#8 []) panels) = some (.ok, [2#8, 0#8]) ∧
      replyOf (after (.join 40#8 []) panels) = some (.ok, [3#8, 1#8]) := by decide +kernel
theorem test_leave_while_holding_is_refused :
    replyOf (after (.leave 7#8 []) (panels.setDistrict 10
      { District.reset with st := .isolated .queued, holders := 1#6 })) = some (.holding, [0x04#8, 0#8]) := by
  decide +kernel
theorem test_subscribe_empties_disabled_sets :
    let t := after (.subscribe 7#8 [0x20#8, 0x02#8]) (panels.setSlot 0 (some
      { slotFor 7#8 0xFF#8 with changedFeeds := 0xF#4, changedJoints := 0xFF#8 }))
    t.slot 0 = some { slotFor 7#8 0x20#8 with feedEnable := false, changedJoints := 0xFF#8 } := by decide +kernel
theorem test_hold_opens_and_marks :
    let t := after (.hold 12#8 [10#8]) panels
    (t.district 10).st = .isolated .queued ∧ replyOf t = some (.ok, [0x16#8, 0x02#8, 0#8]) ∧
      (t.slot 0).map Slot.changedDistricts = some 0x0400#16 ∧ (t.slot 3).map Slot.changedDistricts = some 0#16 := by
  decide +kernel
theorem test_release_by_no_holder :
    replyOf (after (.release 40#8 [10#8]) (panels.setDistrict 10
      { District.reset with st := .isolated .queued, holders := 3#6 })) =
      some (.notHolder, [0x16#8, 0x03#8, 0#8]) := by decide +kernel
/-- A release that empties the set shows QUEUED, the resume-to state, though the Arbiter admits the district (R165). -/
theorem test_release_shows_the_resume_to_state :
    let t := after (.release 12#8 [0#8]) (running.setDistrict 0
      { District.reset with st := .isolated .queued, holders := 1#6 })
    replyOf t = some (.ok, [0x04#8, 0#8, 0#8]) ∧ (t.district 0).st = .probing := by decide +kernel
/-- The break from node 40: holders none, former holders S1; S1 is marked, S3 is not (R166). -/
theorem test_break_hold_reports_former_holders :
    let t := after (.breakHold 40#8 [10#8]) ((panels.setSlot 1 (some (slotFor 12#8 0#8))).setDistrict 10
      { District.reset with st := .isolated .queued, holders := 2#6 })
    (t.district 10).holders = 0#6 ∧ (t.slot 1).map Slot.changedDistricts = some 0x0400#16 ∧
      (t.slot 3).map Slot.changedDistricts = some 0#16 ∧
      (replyOf t).map (fun r => r.2.drop 1) = some [0#8, 0#8, 0x02#8] := by decide +kernel
theorem test_grant_of_a_cooling_district :
    replyOf (after (.grant 12#8 [0#8]) (inState (.cooling .counting))) = some (.notDue, [0x0A#8]) := by decide +kernel
theorem test_retry_now_by_phase :
    replyOf (after (.retryNow 12#8 [0#8]) (inState (.cooling .merging))) = some (.busy, [0x02#8]) ∧
      ((after (.retryNow 12#8 [0#8]) (inState (.cooling .counting))).district 0).st = .probing := by decide +kernel
theorem test_clear_in_standby :
    let t := after (.clear 12#8 [0#8]) (standby.setDistrict 0
      { District.reset with st := .locked .limit .noLook, failures := 5 })
    (t.district 0).st = .off ∧ (t.district 0).failures = 0 := by decide +kernel

/-! ### Configuration writes (R21, R58, R92, R154, R187) -/

/-- H 305 with T 300 stored is taken as 310 and echoed so. -/
theorem test_set_district_echoes_the_value_taken :
    replyOf (after (.setDistrict 12#8 [0#8, 8#8, 0x01#8, 0x31#8]) standby) =
      some (.ok, [8#8, 0x01#8, 0x36#8]) := by decide +kernel
theorem test_set_feed_clamps_the_budget :
    let t := after (.setFeed 12#8 [1#8, 1#8, 0#8]) standby
    (t.fcfg 1).budget = 1 ∧ replyOf t = some (.ok, [1#8, 1#8]) ∧
      (t.slot 0).map Slot.changedFeeds = some 0x2#4 := by decide +kernel
/-- A settle time of 4 s is not below a docking timeout of 2 s, and is below one of 5 s (R145). -/
theorem test_set_joint_checks_settle_against_docking :
    replyOf (after (.setJoint 12#8 [0#8, 5#8, 4#8, 6#8, 1#8]) standby) = some (.badArg, []) ∧
      ((after (.setJoint 12#8 [0#8, 5#8, 4#8, 6#8, 2#8]) standby).jcfg 0).settle = .s4 := by decide +kernel
/-- C is raised to B (R91). -/
theorem test_set_globals_raises_c :
    let t := after (.setGlobals 12#8 [2#8, 0x07#8, 0xD0#8]) standby
    t.cfg.globals.base = 2000 ∧ t.cfg.globals.ceiling = 2000 := by decide +kernel

/-! ### The line (R178 to R181) -/

theorem test_frame_start_and_check_error :
    let t := after .frameStart standby
    t.line.cond = .inFrame ∧ (after .checkError t).line.checkErrors = 1 ∧
      (after .checkError standby).line.checkErrors = 0 := by decide +kernel
theorem test_frame_faults_count :
    let t := after .frameStart standby
    (after .frameError t).line.frameErrors = 1 ∧ (after .interByteTimeout t).line.frameErrors = 1 := by decide +kernel
theorem test_stray_frames :
    (after (.foreignFrame 4#8) standby).line.frameErrors = 0 ∧
      (after (.badSourceFrame 64#8) standby).line.frameErrors = 1 ∧
      replyOf (after (.unknownKindRequest 12#8 0x46#8 []) standby) = some (.unknownKind, []) := by decide +kernel
/-- A JOIN's reply to node 9 from part 0: STATUS OK, two bytes, and the sum is 0. -/
theorem test_reply_is_sent :
    let t := after .replyStart (after (.join 9#8 []) standby)
    transmitted t = [0xC6, 0x00, 0x09, 0x10, 0x00, 0x02, 0x01, 0x00, 0xE4] ∧
      driverEnabled (after .replyEnd t) = false ∧ (after .replyCollision t).line.replyCollisions = 1 := by
  decide +kernel
/-- The statuses in the order of R182's table carry the codes 0x00 to 0x0B. -/
theorem test_status_codes :
    [Status.ok, .busy, .refusedState, .notJoined, .noSlot, .badArg, .notDue, .notHolder, .holding, .isolated, .mode,
      .unknownKind].map (fun st => (transmitted (standby.setLine { Line.reset with
        cond := .replying ⟨12#8, 0x30#8, st, []⟩ }))[4]?) = (List.range 12).map (fun n => some (byte n)) := by decide +kernel
theorem test_request_while_a_reply_is_due_is_lost :
    let t := after (.join 9#8 []) standby
    after (.join 10#8 []) t = t := by decide +kernel

/-! ### The step -/

/-- The state after a step. -/
def stepped (s : State) : State :=
  match step s with
  | .next t => t
  | .fault _ | .refused _ => State.reset

theorem test_step_takes_the_front :
    let t := stepped (standby.setPending [.frameStart, .checkError])
    t.line.cond = .inFrame ∧ t.pending = [.checkError] := by decide +kernel
/-- An idle period is 250 µs of wall clock (log entry 1): the fourth raises the prescaler. -/
theorem test_idle_counts_quarters :
    let t := stepped (standby.setClock 0 3)
    t.prescaler = 1 ∧ t.quarter = 0 := by decide +kernel
/-- An episode's window falls by one at each sample period boundary, whichever district's sample begins the period, or
a period with no command (R62, log entry 6). -/
theorem test_every_period_advances_the_episode :
    let s := (running.setEpisode 0 (some
      { members := [3], stallFlag := false, waiting := 0#4,
        kind := .ordinary { remaining := 20, opening := 20, total := 0, out := false } })).setSampled 0x2#16
    let left := fun (t : State) => (t.episode 0).map Episode.kind
    left (after (.currentSample 1 0 false) s) = some (.ordinary ⟨19, 20, 1, false⟩) ∧
      left (after (.currentSample 2 0 false) s) = some (.ordinary ⟨20, 20, 0, false⟩) ∧
      left (stepped s) = some (.ordinary ⟨19, 20, 1, false⟩) := by decide +kernel
/-- The Arbiter looks once, after every lifetime that ran out has freed its channel: with the turn after feed A, D5 of
feed B, for which D4's probe left no budget, is granted first (R104, R105, R127). -/
theorem test_lifetimes_end_before_the_look :
    let s := probing { probeIn .full .sense 0 with lifetime := 1 }
    let s := s.setDistrict 4 { District.reset with st := .probing }
    let s := (s.setChannel 1 (some { probeIn .full .sense 0 with district := 4, feed := 1, lifetime := 1 })).setFcfg 1
      { FeedConfig.default with budget := 4 }
    let s := (s.setDistrict 5 { District.reset with st := .queued }).setQueue 1 [⟨5, .full, 2⟩]
    let t := stepped (s.setLastGranted 0)
    (t.channel 0).map Probe.district = some 5 ∧ (t.channel 1).map Probe.district = some 0 := by decide +kernel

end Sys2Proof.Tests
end

