-- ==== Sys2Proof/Tests/Witnesses.lean ====
section
/-! SUPPORT. Witnesses: for every statement with hypotheses, concrete states and operands that meet all of them
together, clause by clause, at the boundary values of the clauses. -/

namespace Sys2Proof.Tests

open Sys2Proof.Machine

set_option Elab.async false

/-! ### The invariants hold of concrete states -/

/-- `RecoverySound` with every quantifier over a finite list, so that it can be decided. -/
abbrev RecoveryCheck (s : State) : Prop :=
  (∀ f, ∀ e ∈ s.queue f,
    (s.dcfg e.district).feed = f ∧ entryOf (s.district e.district).st = some e.kind) ∧
  (∀ d, ∀ k ∈ entryOf (s.district d).st, ∃ e ∈ s.queue (s.dcfg d).feed, e.district = d ∧ e.kind = k) ∧
  (∀ f, ((s.queue f).map Entry.district).Nodup) ∧
  (∀ c, ∀ p ∈ s.channel c,
    (s.dcfg p.district).feed = p.feed ∧ probeKindOf (s.district p.district).st = some p.kind ∧
      (p.kind = .look → lookStage p = true)) ∧
  (∀ d, ∀ _k ∈ probeKindOf (s.district d).st, ∃ c, ∃ p ∈ s.channel c, p.district = d) ∧
  (∀ b c, ∀ p ∈ s.channel b, ∀ q ∈ s.channel c, p.district = q.district → b = c) ∧
  (∀ d, (s.district d).probation = true → (s.district d).st = .live) ∧
  (s.mode = .standby → ∀ d, atRest (s.district d).st = true ∧ s.timer d = Timer.empty)

theorem recoverySound_of_check {s : State} (h : RecoveryCheck s) : RecoverySound s where
  entry := h.1
  queued d k hk := h.2.1 d k hk
  single := h.2.2.1
  context c p hp := ⟨(h.2.2.2.1 c p hp).1, (h.2.2.2.1 c p hp).2.1⟩
  probing d k hk := by
    obtain ⟨c, p, hp, hd⟩ := h.2.2.2.2.1 d k hk
    exact ⟨c, p, hp, hd⟩
  channel b c p q hp hq := h.2.2.2.2.2.1 b c p hp q hq
  look c p hp := (h.2.2.2.1 c p hp).2.2
  probation := h.2.2.2.2.2.2.1
  standby := h.2.2.2.2.2.2.2

/-- `IsolationSound`, decidable. -/
abbrev IsolationCheck (s : State) : Prop :=
  (∀ d, isolationSet s d = true → mayBeIsolated (s.district d).st = true) ∧
    ∀ d, (match (s.district d).st with
      | .isolated _ => isolationSet s d
      | _ => true) = true

theorem isolationSound_of_check {s : State} (h : IsolationCheck s) : IsolationSound s where
  held := h.1
  isolated d r hr := by simpa [hr] using h.2 d

/-- `SlotsSound`, decidable. -/
abbrev SlotsCheck (s : State) : Prop :=
  (∀ m n, ∀ x ∈ s.slot m, ∀ y ∈ s.slot n, x.node = y.node → m = n) ∧
    (∀ n, ∀ x ∈ s.slot n, 1 ≤ x.node.toNat ∧ x.node.toNat ≤ 63) ∧
    ∀ d (n : SlotId), (s.district d).holders.getLsbD n.val = true → (s.slot n).isSome

theorem slotsSound_of_check {s : State} (h : SlotsCheck s) : SlotsSound s where
  distinct m n x y hx hy := h.1 m n x hx y hy
  node n x hx := h.2.1 n x hx
  holder := h.2.2

/-- `EpisodesSound`, decidable. -/
abbrev EpisodesCheck (s : State) : Prop :=
  ∀ f, ∀ e ∈ s.episode f, (e.members ≠ [] ∧ e.members.Nodup ∧ ∀ d ∈ e.members, (s.dcfg d).feed = f) ∧
    ∀ c : ChannelId, e.waiting.getLsbD c.val = true → ∃ p ∈ s.channel c, p.feed = f

theorem episodesSound_of_check {s : State} (h : EpisodesCheck s) : EpisodesSound s where
  present f e he := (h f e he).1.1
  distinct f e he := (h f e he).1.2.1
  feed f e he := (h f e he).1.2.2
  waiting f e c he hc := by
    obtain ⟨p, hp, hf⟩ := (h f e he).2 c hc
    exact ⟨p, hp, hf⟩

/-- `TimersSound`, decidable. -/
abbrev TimersCheck (s : State) : Prop :=
  (∀ d, timerFits s d = true) ∧
  (∀ d, (s.timer d).mode = if (s.timer d).purpose = some .patrol then .repeating else .oneShot) ∧
  ∀ d, (s.timer d).count ≤ 65535 ∧ ((s.timer d).purpose.isSome → 1 ≤ (s.timer d).count)

theorem timersSound_of_check {s : State} (h : TimersCheck s) : TimersSound s where
  fits := h.1
  mode := h.2.1
  count := h.2.2

/-- `PolaritySound`, decidable. -/
abbrev PolarityCheck (s : State) : Prop :=
  (∀ d, (s.dcfg d).reversing = false → (s.district d).polarity = .normal) ∧
    ∀ d, (s.monitor d).window.isSome → (s.dcfg d).reversing = true ∧
      ((s.district d).st = .live ∨
        ∃ c, ∃ p ∈ s.channel c, p.district = d ∧ p.stage.isConfirm = true ∧ p.pause = none)

theorem polaritySound_of_check {s : State} (h : PolarityCheck s) : PolaritySound s where
  normal := h.1
  window d hw := by
    obtain ⟨hr, hs | ⟨c, p, hp, h⟩⟩ := h.2 d hw
    · exact ⟨hr, .inl hs⟩
    · exact ⟨hr, .inr ⟨c, p, hp, h⟩⟩

/-- The default configuration in force, with no image and no write in flight, is in range. -/
theorem configInRange_of_default {s : State} (hc : s.cfg = Profile.default) (hi : s.image = none)
    (hw : s.writing = none) : ConfigInRange s where
  cfg := by
    rw [hc]
    refine ⟨fun d => ⟨?_, ?_, ?_, ?_, ?_, ?_, ?_, ?_, ?_, ?_, ?_, ?_, ?_⟩, fun f => ⟨?_, ?_, ?_, ?_, ?_⟩, ?_,
      ⟨?_, ?_, ?_, ?_, ?_, ?_⟩⟩
    all_goals first
      | decide
      | (revert d; decide +kernel)
      | (revert f; decide +kernel)
      | (unfold JointConfig.InRange; decide +kernel)
  image p h := by simp [hi] at h
  writing p h := by simp [hw] at h

/-- RUN, with D0 LIVE, D4 QUEUED, D5 LOCKED with its look queued behind D4's entry, D8 in channel P0, and D12 held by
slot S0. -/
def busy : State :=
  let s := (inState .live).setDistrict 4 { District.reset with st := .queued }
  let s := (s.setDistrict 5 { District.reset with st := .locked .limit .queued, failures := 5 }).setQueue 1
    [⟨4, .full, 2⟩, ⟨5, .look, 2⟩]
  let s := (s.setDistrict 8 { District.reset with st := .probing }).setChannel 0
    (some { probeIn .full .precharge 7 with district := 8, feed := 2 })
  s.setDistrict 12 { District.reset with st := .isolated .queued, holders := 1#6 }

theorem witness_ConfigurationStaysInRange :
    let s := busy.setPending [.setDistrict 12#8 [0#8, 7#8, 0#8, 5#8]]
    ConfigInRange s ∧ ∃ t, step s = .next t :=
  ⟨configInRange_of_default rfl rfl rfl, _, rfl⟩

theorem witness_CountersStayInRange :
    let s := busy.setPending [.currentSample 0 950 true]
    CountersInRange s ∧ ∃ t, step s = .next t := by
  refine ⟨⟨?_, ?_, ?_, ?_, ?_, ?_, ?_⟩, _, rfl⟩ <;> decide +kernel

theorem witness_SlotsStaySound :
    let s := busy.setPending [.join 13#8 []]
    SlotsSound s ∧ ∃ t, step s = .next t :=
  ⟨slotsSound_of_check (by decide +kernel), _, rfl⟩

/-- `busy`, with D1 counting a cool-off, D2 ISOLATED with a retained count, and an episode of feed C: D9 its member,
D8's probe waiting on it. -/
def recovering : State :=
  let s := (busy.setDistrict 1 { District.reset with st := .cooling .counting }).setTimer 1 (loaded .cool 1)
  let s := (s.setDistrict 2 { District.reset with st := .isolated .coolRetained, holders := 1#6 }).setTimer 2
    { loaded .cool 65535 with running := false }
  (s.setDistrict 9 { District.reset with st := .cooling .merging }).setEpisode 2 (some
    { members := [9], stallFlag := false, waiting := 1#4,
      kind := .ordinary { remaining := 20, opening := 20, total := 0, out := false } })

theorem witness_QueuesAndChannelsFollowStates :
    let s := recovering.setPending [.hold 12#8 [8#8]]
    RecoverySound s ∧ BandsSorted s ∧ ConfigInRange s ∧ EpisodesSound s ∧ TimersSound s ∧ ∃ t, step s = .next t :=
  ⟨recoverySound_of_check (by decide +kernel), by decide +kernel, configInRange_of_default rfl rfl rfl,
    episodesSound_of_check (by decide +kernel), timersSound_of_check (by decide +kernel), _, rfl⟩

/-- Also for `OnlyFreeDistrictsArePowered`: D0's switch and D8's precharge path are closed. -/
theorem witness_IsolatedDistrictsStayDark :
    let s := busy.setPending [.hold 12#8 [0#8]]
    RecoverySound s ∧ IsolationSound s ∧ (∃ t, step s = .next t) ∧ isolationSet s 12 = true ∧
      switchDrive s 0 = .closed ∧ prechargeDrive s 8 = true :=
  ⟨recoverySound_of_check (by decide +kernel), isolationSound_of_check (by decide +kernel), ⟨_, rfl⟩,
    by decide +kernel⟩

/-- D5 stands at the limit, in LOCKED. -/
theorem witness_FailuresStayWithinTheLimit :
    let s := busy.setPending [.clear 12#8 [5#8]]
    ConfigInRange s ∧ RecoverySound s ∧ FailuresSound s ∧ ∃ t, step s = .next t :=
  ⟨configInRange_of_default rfl rfl rfl, recoverySound_of_check (by decide +kernel), by decide +kernel, _, rfl⟩

/-- The probes of the rows of R12's table, and one that a stall pauses. -/
def drivenProbes : List Probe :=
  [probeIn .full .sense 0, probeIn .look .precharge 0, probeIn .full (.ramp 4) 0, probeIn .full (.confirm true) 0,
   { probeIn .full .sense 0 with pause := some ⟨.stall, .sense⟩ }]

theorem witness_OnlyFreeDistrictsArePowered :
    (let s := busy.setPending [.grant 12#8 [0#8]]
     RecoverySound s ∧ IsolationSound s ∧ PolaritySound s ∧ ∃ t, step s = .next t) ∧
    ((busy.district 0).st = .live ∧ (busy.district 12).st ≠ .live ∧
      (∀ c, ∀ p ∈ busy.channel c, p.district ≠ 12) ∧ (busy.dcfg 0).reversing = false) ∧
    ∀ p ∈ drivenProbes, RecoverySound (probing p) ∧ (probing p).channel 0 = some p ∧ p.district = 0 :=
  have all : ∀ p ∈ drivenProbes, RecoveryCheck (probing p) ∧ (probing p).channel 0 = some p ∧ p.district = 0 := by
    decide +kernel
  ⟨⟨recoverySound_of_check (by decide +kernel), isolationSound_of_check (by decide +kernel),
    polaritySound_of_check (by decide +kernel), _, rfl⟩, by decide +kernel,
    fun p hp => ⟨recoverySound_of_check (all p hp).1, (all p hp).2⟩⟩

theorem witness_BudgetIsNeverExceeded :
    let s := busy.setPending [.setFeed 12#8 [2#8, 1#8, 3#8]]
    (∃ t, step s = .next t) ∧ budgetInUse s 2 = 4 :=
  ⟨⟨_, rfl⟩, by decide +kernel⟩

/-! ### Frames -/

theorem witness_RequestFramesDecode :
    let i := Instr.setDistrict 63#8 (List.replicate 16 0#8)
    i.wf = true ∧ ∃ bytes, frameOf 15#4 i = some bytes :=
  ⟨by decide, _, rfl⟩

/-- The first byte after SYNC, LEN raised or lowered, and the CHECK byte. -/
theorem witness_DamagedFramesAreCaught :
    ∀ x ∈ [(1, 0xFF#8), (4, 17#8), (4, 16#8), (4, 2#8), (4, 0#8), (6, 0xFF#8)],
      ∃ h : x.1 < (requestFrame 3#4 12#8 0x20#8 [10#8]).length,
        [10#8].length ≤ 16 ∧ 1 ≤ x.1 ∧ x.2 ≠ (requestFrame 3#4 12#8 0x20#8 [10#8])[x.1] := by decide

theorem witness_PlacementAtTheTailOfTheBand :
    ([⟨0, .full, 0⟩, ⟨1, .look, 2⟩, ⟨2, .full, 2⟩, ⟨3, .full, 3⟩] : List Entry).Pairwise
      (fun a b => a.priority ≤ b.priority) := by decide

/-- Each cause of a look, and an event that is none. -/
theorem witness_LookGrantsUntilNothingIsLeft :
    let s := running
    ((probing (probeIn .full .sense 0)).channel 0).isSome ∧ s.channel 0 = none ∧
      (busy.queue 1).head? ≠ (s.queue 1).head? ∧
      ((s.setFeed 3 Feed.reset).feed 3).stalled = true ∧ (s.feed 3).stalled = false ∧
      standby.mode = .standby ∧ s.mode = .run ∧ lookCaused s s = false := by decide +kernel

/-- Feed B has the turn after A, and P0 is taken. -/
theorem witness_GrantTakesItsTurn :
    let s := (busy.setLastGranted 0)
    s.channel 1 = none ∧ (∀ b, b < (1 : ChannelId) → (s.channel b).isSome) ∧
      s.queue 1 = [⟨4, .full, 2⟩, ⟨5, .look, 2⟩] ∧ admissible s 1 = true ∧
      (∀ g : FeedId, (g - s.lastGranted - 1).val < ((1 : FeedId) - s.lastGranted - 1).val →
        admissible s g = false) := by
  decide +kernel

/-! ### The line -/

/-- A reply to node 12 that is due, or is being sent. -/
def replyTo12 : Reply := ⟨12#8, 0x10#8, .ok, [0#8, 0#8]⟩

def withLine (c : LineCond) : State := running.setLine { Line.reset with cond := c }

theorem witness_FramesStartAndFail :
    running.line.cond = .hunting ∧ (withLine .inFrame).line.cond = .inFrame := by decide +kernel

theorem witness_StrayFrames :
    lineClosed running = false ∧ 1#8 ≠ running.lineAddress.setWidth 8 ∧ (0#8 = 0#8 ∧ 63 < (64#8).toNat) ∧
      Taken running 1#8 [] ∧ Taken running 63#8 (List.replicate 16 0#8) ∧ 0x46#8 ∉ requestKinds := by decide +kernel

theorem witness_ReplyIsSentAndEnds :
    (withLine (.replyDue replyTo12)).line.cond = .replyDue replyTo12 ∧
      (withLine (.replying replyTo12)).line.cond = .replying replyTo12 := by decide +kernel

theorem witness_ClosedReceiveSideLosesFrames :
    lineClosed (withLine (.replyDue replyTo12)) = true ∧ lineClosed (withLine (.replying replyTo12)) = true := by
  decide +kernel

theorem witness_RefusedRequestsChangeNothing :
    Taken running 12#8 [0#8] ∧ (∃ t, exec (requestOf 12#8 0x30#8 [0#8]) running = .next t) ∧
      (replyOf (after (requestOf 12#8 0x30#8 [0#8]) running)).map Prod.fst = some .refusedState :=
  ⟨by decide +kernel, ⟨_, rfl⟩, by decide +kernel⟩

theorem witness_OutsidersChangeNothing :
    Taken running 13#8 [0#8] ∧ slotOf running 13#8 = none ∧ 0x20#8 ≠ 0x10#8 ∧
      ∃ t, exec (requestOf 13#8 0x20#8 [0#8]) running = .next t :=
  ⟨by decide +kernel, by decide +kernel, by decide, _, rfl⟩

/-! ### Requests

Node 12 stands in slot S0 of `running`, and every request below is taken. -/

/-- A payload too long, one that names no record, and one of another half. -/
theorem witness_ReadsAnswerAndChangeNothing :
    (Taken running 1#8 [] ∧ Taken running 63#8 []) ∧
    ∀ payload ∈ ([[16#8], [0#8, 2#8], [1#8, 0#8, 0#8]] : List (List Byte)),
      Taken running 12#8 payload ∧ payload ≠ [] ∧ (∀ d : DistrictId, payload ≠ [byte d.val]) ∧
        (∀ f : FeedId, payload ≠ [byte f.val]) ∧ (∀ j : JointId, payload ≠ [byte j.val]) ∧
        ∀ d : DistrictId, payload ≠ [byte d.val, 0#8] ∧ payload ≠ [byte d.val, 1#8] := by decide +kernel

theorem witness_StatusReadsRemoveTheItemRead :
    (Taken running 13#8 [] ∧ slotOf running 13#8 = none) ∧
      Taken running 12#8 [] ∧ slotOf running 12#8 = some 0 ∧ running.slot 0 = some (slotFor 12#8 0xFF#8) := by
  decide +kernel

theorem witness_DistrictStatusShowsTheRecord :
    let s := busy.setTimer 0 (loaded .probation 65535)
    ConfigInRange s ∧ CountersInRange s ∧ FailuresSound s ∧
      (∀ d, (s.timer d).count ≤ 65535 ∧ ((s.timer d).purpose = none → (s.timer d).count = 0)) ∧
      channelOf s 0 = none ∧ channelOf s 8 = some 0 ∧ (s.channel 0).isSome = true := by
  refine ⟨configInRange_of_default rfl rfl rfl, ⟨?_, ?_, ?_, ?_, ?_, ?_, ?_⟩, ?_, ?_, ?_⟩ <;> decide +kernel

/-- Every slot is occupied. -/
def crowded : State :=
  { running with slots := Vector.ofFn (fun n => some (slotFor (byte (12 + n.val)) 0xFF#8)) }

/-- Payloads that suit neither a request of no payload, of one byte nor of two, and an empty one. -/
def unsuited : List (List Byte) := [[1#8, 2#8, 3#8], List.replicate 16 0#8]

theorem witness_payloads_that_do_not_suit :
    (∀ payload ∈ unsuited,
      Taken running 12#8 payload ∧ payload ≠ [] ∧ payload.length ≠ 1 ∧ payload.length ≠ 2) ∧
    Taken running 12#8 [] ∧ ([] : List Byte).length ≠ 1 ∧ ([] : List Byte).length ≠ 2 := by decide +kernel

theorem witness_JoinGivesOneSlot :
    (Taken running 12#8 [] ∧ slotOf running 12#8 = some 0 ∧ (running.slot 0).isSome) ∧
      (Taken running 63#8 [] ∧ slotOf running 63#8 = none ∧ running.slot 1 = none ∧
        ∀ m, m < (1 : SlotId) → (running.slot m).isSome) ∧
      (Taken crowded 63#8 [] ∧ slotOf crowded 63#8 = none ∧ ∀ n, (crowded.slot n).isSome) := by decide +kernel

theorem witness_LeaveAndSubscribe :
    Taken running 12#8 [] ∧ slotOf running 12#8 = some 0 ∧ running.slot 0 = some (slotFor 12#8 0xFF#8) ∧
      (∀ d, (running.district d).holders.getLsbD 0 = false) ∧ Taken busy 12#8 [] ∧ slotOf busy 12#8 = some 0 ∧
      (busy.district 12).holders.getLsbD 0 = true ∧ (3#8).toNat ≤ 3 ∧ 3 < (4#8).toNat ∧
      slotOf running 13#8 = none := by decide +kernel

/-- A request of node 12 about district D0 is taken in this state. -/
abbrev TakenFrom12 (s : State) : Prop := Taken s 12#8 [] ∧ slotOf s 12#8 = some 0

theorem witness_HoldOpensALiveDistrict :
    TakenFrom12 (inState .live) ∧ isolationSet (inState .live) 0 = false ∧ ((inState .live).district 0).st = .live := by
  decide +kernel

theorem witness_HoldSuspendsRecovery :
    (∀ x ∈ ([.off, .cooling .merging, .cooling .counting, .awaitingGrant, .queued, .locked .limit .noLook,
        .locked .grantLapsed .queued] : List DistrictState),
      TakenFrom12 (inState x) ∧ isolationSet (inState x) 0 = false ∧ ((inState x).district 0).st = x) ∧
    (∀ p ∈ [probeIn .full .sense 0, probeIn .look .precharge 199],
      TakenFrom12 (probing p) ∧ isolationSet (probing p) 0 = false ∧ channelOf (probing p) 0 = some 0 ∧
        (((probing p).district 0).st = .probing ∨ ((probing p).district 0).st = .locked .limit .inFlight)) := by
  decide +kernel

/-- RUN, with D0 ISOLATED by these holders, and by joint J7 if `joint` is set. -/
def isolatedBy (h : BitVec 6) (joint : Bool) (x : DistrictState) : State :=
  ((running.setDistrict 0 { District.reset with st := x, holders := h }).setJcfg 7
    { JointConfig.default with enabled := joint, cover := 1#16 })

theorem witness_HoldersChangeWithinTheSet :
    (16 ≤ (16#8).toNat ∧ slotOf running 13#8 = none) ∧
    (∀ s ∈ [isolatedBy 2#6 false (.isolated .queued), isolatedBy 0#6 true (.isolated .queued)],
      TakenFrom12 s ∧ (s.district 0).holders.getLsbD 0 = false ∧ isolationSet s 0 = true) ∧
    (let s := isolatedBy 1#6 true (.isolated .queued)
     TakenFrom12 s ∧ (s.district 0).holders.getLsbD 0 = true ∧ jointPart s 0 ≠ 0#8 ∧ (s.district 0).holders ≠ 0#6) ∧
    (let s := isolatedBy 3#6 false (.isolated .queued)
     TakenFrom12 s ∧ (s.district 0).holders.getLsbD 0 = true ∧
       (s.district 0).holders &&& ~~~(BitVec.twoPow 6 0) ≠ 0#6) ∧
    (TakenFrom12 running ∧ (running.district 0).holders = 0#6) ∧
    (let s := isolatedBy 1#6 false (.isolated .queued)
     TakenFrom12 s ∧ (s.district 0).holders = BitVec.twoPow 6 0 ∧ jointPart s 0 = 0#8) := by decide +kernel

theorem witness_ReleaseReturnsTheDistrict :
    ∀ x ∈ ([.isolated .coolRetained, .isolated .coolPending, .isolated .awaitingGrant, .isolated .queued, .off,
        .locked .limit .noLook] : List DistrictState),
      let s := isolatedBy 1#6 false x
      TakenFrom12 s ∧ (s.district 0).holders = BitVec.twoPow 6 0 ∧ jointPart s 0 = 0#8 ∧ (s.district 0).st = x := by
  decide +kernel

theorem witness_AcceptJointCouplesAFault :
    ∀ x ∈ ([{ Joint.reset with st := .fault, input := true }, { Joint.reset with st := .fault },
        { Joint.reset with st := .docking, input := true }] : List Joint),
      TakenFrom12 (withJoint x) ∧ (withJoint x).joint 2 = x ∧ 8 ≤ (8#8).toNat ∧
        slotOf (withJoint x) 13#8 = none := by decide +kernel

/-- Every state a district may stand in, for `GrantByState`, `RetryNowByState` and `ClearEndsALockout`. -/
def everyState : List DistrictState :=
  [.off, .live, .cooling .merging, .cooling .counting, .awaitingGrant, .queued, .probing, .isolated .coolRetained,
   .isolated .awaitingGrant, .locked .limit .noLook, .locked .manualPolicy .queued, .locked .grantLapsed .inFlight]

theorem witness_GrantByState :
    ∀ x ∈ everyState, TakenFrom12 (inState x) ∧ ((inState x).district 0).st = x := by decide +kernel
theorem witness_RetryNowByState :
    ∀ x ∈ everyState, TakenFrom12 (inState x) ∧ ((inState x).district 0).st = x := by decide +kernel
theorem witness_ClearEndsALockout :
    (∀ x ∈ everyState, TakenFrom12 (inState x) ∧ ((inState x).district 0).st = x) ∧
      (let s := probing (probeIn .look .sense 0)
       TakenFrom12 s ∧ (s.district 0).st = .locked .limit .inFlight ∧ channelOf s 0 = some 0) := by decide +kernel

/-! ### Configuration writes and modes -/

theorem witness_SetDistrictChecksInOrder :
    Taken running 12#8 [16#8] ∧ 16 ≤ (16#8).toNat ∧ Taken running 12#8 [15#8, 19#8, 0#8] ∧
      parseEntries districtWidth [19#8, 0#8] = none ∧
      parseEntries districtWidth [7#8, 0x01#8, 0x2C#8] = some [(7, 300)] ∧
      parseEntries districtWidth [2#8, 1#8, 7#8, 0xFF#8, 0xFF#8] = some [(2, 1), (7, 65535)] ∧
      parseEntries districtWidth [2#8, 1#8, 2#8, 1#8] = none ∧ parseEntries districtWidth [7#8, 1#8] = none ∧
      parseEntries jointWidth [0#8, 0#8] = none := by decide +kernel

/-- A write that is refused for its codes, one refused for H, and one that is taken. -/
theorem witness_SetDistrictTakesClampedValues :
    takeDistrict (DistrictConfig.default 0) [(1, 4)] = none ∧
      takeDistrict (DistrictConfig.default 0) [(7, 791)] = none ∧
      (takeDistrict (DistrictConfig.default 0) [(7, 790)]).isSome ∧
      (takeDistrict (DistrictConfig.default 0) [(8, 301)]).isSome := by decide +kernel

theorem witness_SetDistrictEffects :
    (∀ x ∈ ([.off, .isolated .queued, .isolated .awaitingGrant, .locked .limit .noLook, .locked .limit .queued] :
        List DistrictState),
      ∀ s ∈ [inState x, (inState x).setMode .standby, isolatedBy 1#6 false x],
        TakenFrom12 s ∧ s.writing = none ∧ standsStill s 0 = true ∧ (s.district 0).st = x) ∧
    (let s := inState .off
     episodeMember s 0 = false ∧ probeKindOf (s.district 0).st = none ∧ entryOf (s.district 0).st = none) ∧
    (let s := probing (probeIn .look .sense 0)
     TakenFrom12 s ∧ s.writing = none ∧ standsStill s 0 = true ∧ (s.district 0).st = .locked .limit .inFlight ∧
       channelOf s 0 = some 0) ∧
    (∀ e ∈ ([(7, 300), (6, 1), (1, 3)] : List FieldEntry), e.1 ∉ ([2, 3, 4, 17] : List Nat)) := by decide +kernel

theorem witness_FeedAndGlobalsWrites :
    Taken running 12#8 [4#8] ∧ 4 ≤ (4#8).toNat ∧ Taken running 12#8 [3#8, 1#8, 63#8] ∧
      parseEntries feedWidth [1#8, 63#8] = some [(1, 63)] ∧
      (Taken running 12#8 [0#8, 9#8, 0#8] ∧ parseEntries feedWidth [9#8, 0#8] = none) ∧
      (Taken running 12#8 [2#8, 1#8] ∧ parseEntries globalsWidth [2#8, 1#8] = none ∧ Taken running 12#8 []) ∧
      (takeFeed FeedConfig.default [(3, 4)]).isNone = true ∧ (takeFeed FeedConfig.default [(3, 3)]).isSome = true ∧
      parseEntries globalsWidth [1#8, 7#8] = some [(1, 7)] := by decide +kernel

theorem witness_SetJointTakesTheWrite :
    Taken running 12#8 [8#8] ∧ 8 ≤ (8#8).toNat ∧ Taken running 12#8 [7#8, 5#8, 5#8] ∧
      parseEntries jointWidth [7#8, 0#8] = none ∧
      parseEntries jointWidth [5#8, 5#8] = some [(5, 5)] ∧
      parseEntries jointWidth [5#8, 4#8, 6#8, 0#8] = some [(5, 4), (6, 0)] ∧
      settleCode .s4 = 4 ∧ dockingCode .s1 = 0 ∧ DockingTimeout.samples .s1 ≤ SettleTime.samples .s4 := by
  decide +kernel

theorem witness_ProfileWrites :
    Taken standby 12#8 [] ∧ (after (.storeProfile 12#8 []) standby).writing = some standby.cfg ∧
      standby.writing = none := by decide +kernel

theorem witness_EnteringRun :
    (TakenFrom12 standby ∧ standby.mode = .standby ∧ standby.writing = none ∧ (∀ f, standby.queue f = [])) ∧
      RecoverySound standby ∧ (TakenFrom12 running ∧ running.mode = .run) ∧
      (let s := standby.setProfileStore none true (some Profile.default)
       TakenFrom12 s ∧ s.mode = .standby ∧ s.writing.isSome) ∧
      (Taken running 12#8 [2#8] ∧ Taken running 13#8 [1#8] ∧ slotOf running 13#8 = none) :=
  ⟨by decide +kernel, recoverySound_of_check (by decide +kernel), by decide +kernel, by decide +kernel,
    by decide +kernel⟩

theorem witness_LeavingRun : TakenFrom12 busy ∧ busy.mode = .run := by decide +kernel

/-! ### Timers and probes -/

/-- A count that a tick marks due; and a period with no command, with a probe, and nothing due before it. -/
theorem witness_TickBoundarySteps :
    (let s := (inState (.cooling .counting)).setTimer 0 (loaded .cool 1)
     (∀ d, (s.timer d).boundary = false) ∧ (s.timer 0).running = true) ∧
    (let s := probing (probeIn .full .sense 7)
     s.pending = [] ∧ (∀ d, swapSuccessDue s d = false ∧ (s.timer d).boundary = false) ∧
       (∀ c, ∀ p ∈ s.channel c, stageDue s p = false) ∧ (s.channel 0).isSome = true ∧
       (∀ f, closeDue s f = none ∧ filterFull s f = false) ∧
       ∀ j, debounceFull s j = false ∧ settleDue s j = false ∧ dockingDue s j = false) := by decide +kernel

theorem witness_TimerExpiries :
    (∀ q ∈ [Policy.auto, Policy.supervised, Policy.manual],
      let s := ((inState (.cooling .counting)).setTimer 0 (dueTimer .cool)).setDcfg 0
        { DistrictConfig.default 0 with policy := q }
      (s.district 0).st = .cooling .counting ∧ timerDue (s.timer 0) .cool = true ∧ (s.dcfg 0).policy = q) ∧
    (∀ x ∈ ([(.awaitingGrant, .grant), (.locked .limit .noLook, .patrol), (.locked .limit .queued, .patrol),
        (.locked .limit .inFlight, .patrol)] : List (DistrictState × Purpose)),
      let s := (inState x.1).setTimer 0 (dueTimer x.2)
      (s.district 0).st = x.1 ∧ timerDue (s.timer 0) x.2 = true ∧ isolationSet s 0 = false) ∧
    (let s := (running.setDistrict 0 { District.reset with st := .live, probation := true }).setTimer 0
      (dueTimer .probation)
     (s.district 0).st = .live ∧ (s.district 0).probation = true ∧ timerDue (s.timer 0) .probation = true) ∧
    (∀ q ∈ [Purpose.cool, .grant, .probation, .patrol], timerDue (running.timer 0) q = false) ∧
    (let s := threeDue
     timerDue (s.timer 4) .cool = true ∧ (s.dcfg 4).feed = (s.dcfg 5).feed ∧
       (∀ e, e < (4 : DistrictId) → (s.timer e).boundary = false) ∧
       ((earlierTaken s 5).district 5).st = .cooling .counting ∧ (earlierTaken s 5).timer 5 = s.timer 5 ∧
       ((earlierTaken s 5).district 6).st = .locked .limit .noLook ∧ (earlierTaken s 6).timer 6 = s.timer 6) := by
  decide +kernel

/-- An episode of feed A on which the probes of these channels wait. -/
def waitedOn (w : BitVec 4) (s : State) : State :=
  s.setEpisode 0 (some
    { members := [1], stallFlag := false, waiting := w,
      kind := .ordinary { remaining := 1, opening := 20, total := 3, out := true } })

theorem witness_SenseAndPrechargeEnds :
    (let s := probing (probeIn .full .sense 8)
     s.channel 0 = some (probeIn .full .sense 8) ∧ stageDue s (probeIn .full .sense 8) = true) ∧
    (∀ k ∈ [EntryKind.full, .look], ∀ w ∈ [0#4, 1#4], ∀ m ∈ [40, 41],
      let p := probeIn k .precharge 200
      let s := waitedOn w ((probing p).setMonitor 0 { Monitor.reset with history := Vector.replicate 8 m })
      s.channel 0 = some p ∧ p.pause = none ∧ 4 * p.profile.preTime ≤ p.elapsed ∧
        (s.monitor 0).history.toList.sum / 8 = m ∧ waits s p.feed 0 = (w == 1#4)) ∧
    (let p := probeIn .full .sense 7
     stageDue (probing p) p = false) := by decide +kernel

theorem witness_RampAndConfirmEnds :
    (∀ k ∈ [3, 4], ∀ w ∈ [0#4, 1#4], ∀ v ∈ [false, true],
      let p := probeIn .full (.ramp k) 80
      let s := waitedOn w ((probing p).setMonitor 0 { Monitor.reset with voltage := v })
      s.channel 0 = some p ∧ p.pause = none ∧ 4 * p.profile.stepTime ≤ p.elapsed ∧ waits s p.feed 0 = (w == 1#4) ∧
        (s.monitor 0).voltage = v) ∧
    (∀ v ∈ [false, true],
      let p := probeIn .full (.confirm false) 800
      let s := (probing p).setMonitor 0 { Monitor.reset with voltage := v }
      s.channel 0 = some p ∧ 4 * p.profile.confirmTime ≤ p.elapsed ∧ (s.monitor 0).window = none) ∧
    (let p := probeIn .full (.ramp 1) 79
     stageDue (probing p) p = false) := by decide +kernel

theorem witness_EndsAndFailuresOfProbes :
    ∀ p ∈ [probeIn .full (.ramp 2) 5, probeIn .look .precharge 5],
      (probing p).channel 0 = some p ∧
        (p.kind = .look → ((probing p).district 0).st = .locked .limit .inFlight) := by decide +kernel

/-! ### Joints and lines -/

theorem witness_JointEvents :
    (∀ v ∈ [false, true],
      let x := { Joint.reset with filterRun := 64, lastShown := v }
      ((withJoint x).joint 2) = x ∧ ((withJoint x).jcfg 2).debounce.samples ≤ x.filterRun) ∧
    (∀ c ∈ [(JointState.coupled, true), (.opened, false), (.docking, true), (.fault, true)],
      let x := { Joint.reset with st := c.1, decided := true, input := c.2, filterRun := 64 }
      ((withJoint x).joint 2) = x ∧ ((withJoint x).jcfg 2).debounce.samples ≤ x.filterRun) ∧
    (∀ st ∈ [JointState.opened, .docking],
      let x := { Joint.reset with st := st, settle := some ⟨1, true⟩, docking := some ⟨1, true⟩, filterRun := 63 }
      ((withJoint x).joint 2) = x ∧ ¬((withJoint x).jcfg 2).debounce.samples ≤ x.filterRun) := by decide +kernel

theorem witness_LineSamplesCount :
    let x := { Joint.reset with filterRun := 63, settle := some ⟨1, false⟩, docking := some ⟨2, false⟩ }
    (running.feed 3).filterRun < (running.fcfg 3).stallFilter.samples ∧
      (((running.setFeed 3 { running.feed 3 with filterRun := 3 }).feed 3).filterRun <
        (running.fcfg 3).stallFilter.samples) ∧
      ((withJoint x).joint 2) = x ∧ x.filterRun < ((withJoint x).jcfg 2).debounce.samples := by decide +kernel

/-! ### Stalls, sheds, episodes -/

/-- The feed record with the filter run full at the default filter of 4. -/
def fullFilter (stalled decided shown : Bool) (phase : ShedPhase) : Feed :=
  { stalled := stalled, decided := decided, filterRun := 4, lastShown := shown, phase := phase }

theorem witness_StallAssertionPausesTheFeed :
    let s := busy.setFeed 2 (fullFilter false true true .idle)
    let z := s.setFcfg 2 { FeedConfig.default with shedDelay := 0 }
    (RecoverySound s ∧ assertionDue s 2 = true ∧ (s.mode = .run → (s.fcfg 2).shedDelay ≠ 0) ∧
      ∃ p, s.channel 0 = some p ∧ p.feed = 2 ∧ stallPaused p = false) ∧
    (RecoverySound z ∧ assertionDue z 2 = true ∧ z.mode = .run ∧ (z.fcfg 2).shedDelay = 0) :=
  ⟨⟨recoverySound_of_check (by decide +kernel), by decide +kernel, by decide +kernel, _, rfl, by decide +kernel⟩,
    recoverySound_of_check (by decide +kernel), by decide +kernel⟩

theorem witness_StallClearResumesTheFeed :
    ∀ x ∈ [fullFilter true true false .idle, fullFilter true true false (.pending 1), fullFilter true true false .shed,
        fullFilter true false false .idle, fullFilter true false true .idle],
      let s := busy.setFeed 0 x
      (s.feed 0) = x ∧ (s.feed 0).stalled = true ∧ filterFull s 0 = true := by decide +kernel

theorem witness_ShedTakesTheFeed :
    let s := (busy.setFeed 2 { fullFilter true true true (.pending 1) with filterRun := 0 }).setChannel 0
      (some { probeIn .full .precharge 0 with district := 8, feed := 2, pause := some ⟨.stall, .precharge 1⟩ })
    RecoverySound s ∧ shedPending s 2 = true :=
  ⟨recoverySound_of_check (by decide +kernel), by decide +kernel⟩

theorem witness_EpisodeClosesGiveCounts :
    (let e : Episode := { members := [0, 3], stallFlag := true, waiting := 0#4, kind := .shed }
     ((inState (.cooling .merging)).setEpisode 0 (some e)).episode 0 = some e) ∧
    ∀ w ∈ [(⟨1, 20, 159, true⟩ : EpisodeWindow), ⟨7, 20, 160, false⟩],
      let e : Episode := { members := [0, 3], stallFlag := false, waiting := 0#4, kind := .ordinary w }
      let s := (inState (.cooling .merging)).setEpisode 0 (some e)
      s.episode 0 = some e ∧ e.members.Nodup ∧ closeDue s 0 = some (if w.out then .window else .cap) := by
  decide +kernel

theorem witness_WaitingProbesTakeTheClass :
    (∃ e p, massExample.episode 2 = some e ∧ massExample.channel 0 = some p ∧ p.feed = 2 ∧ p.kind = .full ∧
      (massExample.monitor p.district).window = none ∧ p.pause = some ⟨.sibling, .ramp 4⟩ ∧ p.stage = .ramp 3 ∧
      closeDue massExample 2 = some .window ∧
      ∀ c : ChannelId, e.waiting.getLsbD c.val = true → ∃ p, massExample.channel c = some p ∧ p.feed = 2) ∧
    (∀ p ∈ [probeIn .full .sense 0, { probeIn .full .precharge 0 with pause := some ⟨.sibling, .ramp 1⟩ },
        { probeIn .full (.ramp 4) 0 with pause := some ⟨.sibling, .confirm⟩ },
        { probeIn .look .precharge 0 with pause := some ⟨.sibling, .lookPass⟩ }],
      let s := waitedOn 1#4 (probing p)
      (s.episode 0).isSome ∧ s.channel 0 = some p ∧ p.feed = 0 ∧ (s.monitor 0).window = none ∧
        (p.kind = .look → (s.district 0).st = .locked .limit .inFlight)) := by
  refine ⟨⟨_, _, rfl, rfl, rfl, rfl, rfl, rfl, rfl, by decide +kernel, ?_⟩, by decide +kernel⟩
  intro c h
  have hc : c = 0 := by
    revert c
    decide +kernel
  subst hc
  exact ⟨_, rfl, rfl⟩

/-! ### Samples -/

/-- No event is due of the sample before. -/
abbrev NothingDue (s : State) (d : DistrictId) : Prop :=
  swapSuccessDue s d = false ∧ (s.sampled.getLsbD d.val = true → ∀ f, closeDue s f = none)

/-- D0 LIVE, reversing or not, with this integrator and window. -/
def liveWith (reversing : Bool) (a : Nat) (w : Option SwapWindow) : State :=
  ((inState .live).setDcfg 0 { DistrictConfig.default 0 with reversing := reversing }).setMonitor 0
    { Monitor.reset with integrator := a, window := w }

theorem witness_SamplesOutsideProbes :
    (NothingDue running 0 ∧ channelOf running 0 = none ∧ detection running 0 = none) ∧
    (let s := running.setSampled 1#16
     s.sampled.getLsbD 0 = true ∧ NothingDue s 0) ∧
    (∀ r ∈ [false, true], ∀ x ∈ [(1899, 400, none), (1900, 400, some TripCause.overload), (0, 800, some .hard)],
      let s := liveWith r x.1 none
      NothingDue s 0 ∧ channelOf s 0 = none ∧ (s.district 0).st = .live ∧ (s.monitor 0).window = none ∧
        (s.feed (s.dcfg 0).feed).stalled = false ∧ (s.dcfg 0).reversing = r ∧
        trippedBy (s.dcfg 0) x.1 x.2.1 (s.dcfg 0).allowance = x.2.2) ∧
    (∀ n ∈ [1, 64],
      let w : SwapWindow := ⟨n, .normal, .live, false⟩
      let s := liveWith true 0 (some w)
      NothingDue s 0 ∧ channelOf s 0 = none ∧ (s.district 0).st = .live ∧ (s.monitor 0).window = some w) := by
  decide +kernel

/-- The probes of the clauses of `SamplesInProbes`, each one sample before its stage ends. -/
def sampledProbes : List Probe :=
  [probeIn .full .sense 7, probeIn .look .precharge 199, probeIn .full (.ramp 1) 79, probeIn .full (.confirm true) 0,
   probeIn .full (.confirm false) 799, { probeIn .full (.ramp 2) 0 with pause := some ⟨.sibling, .ramp 3⟩ },
   { probeIn .full .sense 0 with pause := some ⟨.stall, .sense⟩ }]

/-- A probe in CONFIRM, with a swap window. -/
def swapInConfirm : State :=
  (probing (probeIn .full (.confirm false) 10)).setMonitor 0
    { Monitor.reset with window := some ⟨1, .normal, .confirm, false⟩ }

theorem witness_SamplesInProbes :
    (∀ p ∈ sampledProbes, RecoverySound (probing p)) ∧
    (∀ p ∈ sampledProbes, (probing p).channel 0 = some p ∧ p.district = 0 ∧ stageDue (probing p) p = false ∧
      NothingDue (probing p) 0 ∧ ((probing p).monitor 0).window = none) ∧
    RecoverySound swapInConfirm ∧
    (swapInConfirm.channel 0 = some (probeIn .full (.confirm false) 10) ∧ NothingDue swapInConfirm 0 ∧
      stageDue swapInConfirm (probeIn .full (.confirm false) 10) = false ∧
      (swapInConfirm.monitor 0).window.isSome) ∧
    trippedBy (DistrictConfig.default 0) 1900 400 2000 = some .overload ∧
      trippedBy (DistrictConfig.default 0) 1899 400 2000 = none :=
  have all : ∀ p ∈ sampledProbes, RecoveryCheck (probing p) := by decide +kernel
  ⟨fun p hp => recoverySound_of_check (all p hp), by decide +kernel, recoverySound_of_check (by decide +kernel),
    by decide +kernel, by decide, by decide⟩

theorem witness_SwapWindowSucceeds :
    (let s := liveWith true 7 (some ⟨1, .normal, .live, true⟩)
     (s.district 0).st = .live ∧ channelOf s 0 = none ∧ s.monitor 0 = { Monitor.reset with
       integrator := 7, window := some ⟨1, .normal, .live, true⟩ }) ∧
    (∀ n ∈ [799, 800],
      let p := probeIn .full (.confirm false) n
      let s := (probing p).setMonitor 0 { Monitor.reset with window := some ⟨1, .normal, .confirm, true⟩ }
      (s.district 0).st = .probing ∧ (s.district 0).probation = false ∧ channelOf s 0 = some 0 ∧
        s.channel 0 = some p ∧ p.pause = none ∧ (s.monitor 0).window = some ⟨1, .normal, .confirm, true⟩) ∧
    (∀ n ∈ [799, 800], ∀ v ∈ [false, true],
      let p := probeIn .full (.confirm true) n
      let s := (probing p).setMonitor 0
        { Monitor.reset with voltage := v, window := some ⟨1, .normal, .confirm, true⟩ }
      (s.district 0).st = .probing ∧ (s.district 0).probation = false ∧ channelOf s 0 = some 0 ∧
        s.channel 0 = some p ∧ p.pause = none ∧ (s.monitor 0).voltage = v ∧
        (s.monitor 0).window = some ⟨1, .normal, .confirm, true⟩) := by
  decide +kernel

end Sys2Proof.Tests
end

section
/-! What one record reads after a walk in which each step changes its own record alone. -/

namespace Sys2Proof.Machine

theorem foldl_read {ι β : Type} [DecidableEq ι] {g : ι → State → State} {I : State → Prop} {read : State → β}
    {φ : β → β} {i : ι} (keeps : ∀ j t, I t → I (g j t)) (own : ∀ t, I t → read (g i t) = φ (read t))
    (other : ∀ j, j ≠ i → ∀ t, I t → read (g j t) = read t) (l : List ι) (nodup : l.Nodup) :
    ∀ t, I t → read (l.foldl (fun t j => g j t) t) = if i ∈ l then φ (read t) else read t := by
  induction l with
  | nil => intro t _; simp
  | cons j l ih =>
    intro t h
    obtain ⟨hj, hl⟩ := List.nodup_cons.mp nodup
    rw [List.foldl_cons, ih hl _ (keeps j t h)]
    by_cases hi : j = i
    · subst hi
      simp [hj, own t h]
    · simp [other j hi t h, Ne.symm hi]

theorem mem_allDistricts : ∀ d, d ∈ allDistricts := by decide
theorem mem_allChannels : ∀ c, c ∈ allChannels := by decide
theorem mem_allFeeds : ∀ f, f ∈ allFeeds := by decide
theorem mem_allSlots : ∀ n, n ∈ allSlots := by decide

variable {β : Type} {I : State → Prop} {read : State → β} {φ : β → β} {t : State}

theorem forDistricts_read {g : DistrictId → State → State} {d : DistrictId} (keeps : ∀ e t, I t → I (g e t))
    (own : ∀ t, I t → read (g d t) = φ (read t))
    (other : ∀ e, e ≠ d → ∀ t, I t → read (g e t) = read t) (h : I t) :
    read (forDistricts g t) = φ (read t) := by
  rw [forDistricts, foldl_read keeps own other _ (by decide) t h, if_pos (mem_allDistricts d)]

theorem forChannels_read {g : ChannelId → State → State} {c : ChannelId} (keeps : ∀ b t, I t → I (g b t))
    (own : ∀ t, I t → read (g c t) = φ (read t))
    (other : ∀ b, b ≠ c → ∀ t, I t → read (g b t) = read t) (h : I t) :
    read (forChannels g t) = φ (read t) := by
  rw [forChannels, foldl_read keeps own other _ (by decide) t h, if_pos (mem_allChannels c)]

theorem forFeeds_read {g : FeedId → State → State} {f : FeedId} (keeps : ∀ e t, I t → I (g e t))
    (own : ∀ t, I t → read (g f t) = φ (read t))
    (other : ∀ e, e ≠ f → ∀ t, I t → read (g e t) = read t) (h : I t) :
    read (forFeeds g t) = φ (read t) := by
  rw [forFeeds, foldl_read keeps own other _ (by decide) t h, if_pos (mem_allFeeds f)]

theorem forSlots_read {g : SlotId → State → State} {n : SlotId} (keeps : ∀ e t, I t → I (g e t))
    (own : ∀ t, I t → read (g n t) = φ (read t))
    (other : ∀ e, e ≠ n → ∀ t, I t → read (g e t) = read t) (h : I t) :
    read (forSlots g t) = φ (read t) := by
  rw [forSlots, foldl_read keeps own other _ (by decide) t h, if_pos (mem_allSlots n)]

/-- A read that no step of a walk over the channels changes. -/
theorem forChannels_same {g : ChannelId → State → State} (keeps : ∀ b t, I t → I (g b t))
    (same : ∀ b t, I t → read (g b t) = read t) (h : I t) : read (forChannels g t) = read t :=
  (forChannels_keeps (P := fun u => I u ∧ read u = read t)
    (fun b u hu => ⟨keeps b u hu.1, (same b u hu.1).trans hu.2⟩) ⟨h, rfl⟩).2

/-- A read that no step of a walk over the districts changes. -/
theorem forDistricts_same {g : DistrictId → State → State} (keeps : ∀ d t, I t → I (g d t))
    (same : ∀ d t, I t → read (g d t) = read t) (h : I t) : read (forDistricts g t) = read t :=
  (forDistricts_keeps (P := fun u => I u ∧ read u = read t)
    (fun d u hu => ⟨keeps d u hu.1, (same d u hu.1).trans hu.2⟩) ⟨h, rfl⟩).2

end Sys2Proof.Machine
end

section
/-! Marks and the shared operations of chapters 2, 3 and 7, each given once as a chain of named updates. -/

namespace Sys2Proof.Machine

variable (s : State)

/-! ### Marks change the slots alone, so they may be taken last (R162) -/

@[simp] theorem markDistrict_setDistrict (ks : List Mark) (d e : DistrictId) (x : District) :
    (markDistrict ks d s).setDistrict e x = markDistrict ks d (s.setDistrict e x) := rfl
@[simp] theorem markDistrict_setMonitor (ks : List Mark) (d e : DistrictId) (x : Monitor) :
    (markDistrict ks d s).setMonitor e x = markDistrict ks d (s.setMonitor e x) := rfl
@[simp] theorem markDistrict_setTimer (ks : List Mark) (d e : DistrictId) (x : Timer) :
    (markDistrict ks d s).setTimer e x = markDistrict ks d (s.setTimer e x) := rfl
@[simp] theorem markDistrict_setEpisode (ks : List Mark) (d : DistrictId) (f : FeedId) (x : Option Episode) :
    (markDistrict ks d s).setEpisode f x = markDistrict ks d (s.setEpisode f x) := rfl
@[simp] theorem markDistrict_setChannel (ks : List Mark) (d : DistrictId) (c : ChannelId) (x : Option Probe) :
    (markDistrict ks d s).setChannel c x = markDistrict ks d (s.setChannel c x) := rfl
@[simp] theorem markFeed_setFeed (f g : FeedId) (x : Feed) :
    (markFeed f s).setFeed g x = markFeed f (s.setFeed g x) := rfl

/-! ### A record rebuilt from its own fields -/

@[simp] theorem District.mk_own (r : District) : District.mk r.st r.failures r.probation r.lastTrip r.lastFail r.trips
    r.swaps r.polarity r.holders = r := rfl
@[simp] theorem Monitor.mk_own (m : Monitor) :
    Monitor.mk m.history m.voltage m.integrator m.window m.confirmSwapUsed = m := rfl

/-- The polarity of `d` once its swap window, if one is present, is given up (R37, R39). -/
def polarityBefore (d : DistrictId) : Polarity :=
  match (s.monitor d).window with
  | some w => w.before
  | none => (s.district d).polarity

theorem restorePolarity_eq (d : DistrictId) : restorePolarity d s =
    (s.setMonitor d { s.monitor d with window := none }).setDistrict d
      { s.district d with polarity := polarityBefore s d } := by
  unfold restorePolarity polarityBefore State.modMonitor State.modDistrict
  cases h : (s.monitor d).window <;> simp [← h]

theorem abandonWindow_eq (d : DistrictId) : abandonWindow d s =
    (s.setMonitor d { s.monitor d with window := none, integrator := 0 }).setDistrict d
      { s.district d with polarity := polarityBefore s d } := by
  simp [abandonWindow, restorePolarity_eq, clearIntegrator, State.modMonitor]

theorem endProbe_channel {c : ChannelId} {p : Probe} (h : s.channel c = some p) : endProbe c s =
    (((s.setEpisode p.feed ((s.episode p.feed).map (fun x =>
      { x with waiting := x.waiting &&& ~~~(BitVec.twoPow 4 c.val) }))).setMonitor p.district
        { s.monitor p.district with window := none, integrator := 0 }).setDistrict p.district
          { s.district p.district with polarity := polarityBefore s p.district }).setChannel c none := by
  simp [endProbe_eq s h, abandonWindow_eq, stopWaiting, State.modEpisode, removeItem]

/-! ### What an event of recovery leaves for the PATROL timer (R88) -/

theorem SameOuter.isolationSet {s t : State} (h : SameOuter s t) (d : DistrictId) :
    isolationSet t d = isolationSet s d := by
  simp only [Machine.isolationSet, jointPart, jointIsolates, State.jcfg, State.joint, h.holders, h.cfg, h.joints]

theorem SameOuter.dcfg {s t : State} (h : SameOuter s t) (d : DistrictId) : t.dcfg d = s.dcfg d := by
  simp only [State.dcfg, h.cfg]

/-- The timer of a district that enters LOCKED (R88). -/
def lockedTimer (d : DistrictId) : Timer :=
  if (s.dcfg d).patrol = true ∧ isolationSet s d = false ∧ s.mode = .run then
    loaded .patrol s.cfg.globals.patrol else Timer.empty

theorem SameOuter.lockedTimer {s t : State} (h : SameOuter s t) (d : DistrictId) :
    lockedTimer t d = lockedTimer s d := by
  simp only [Machine.lockedTimer, h.dcfg, h.isolationSet, h.mode, h.cfg]

theorem enterLocked_state (d : DistrictId) (cause : LockCause) : enterLocked d cause s =
    (s.setDistrict d { s.district d with st := .locked cause .noLook }).setTimer d (lockedTimer s d) := by
  have same : SameOuter s (s.setDistrict d { s.district d with st := .locked cause .noLook }) :=
    (sameOuter_keeps s).district _ _ _ rfl (SameOuter.refl s)
  have runs : patrolRuns (s.setDistrict d { s.district d with st := .locked cause .noLook }) d = true ↔
      (s.dcfg d).patrol = true ∧ isolationSet s d = false ∧ s.mode = .run := by
    simp [patrolRuns, same.isolationSet, and_assoc]
  simp only [enterLocked_eq, lockedTimer, runs]

@[simp] theorem episodeMember_setDistrict (d e : DistrictId) (x : District) :
    episodeMember (s.setDistrict d x) e = episodeMember s e := rfl

/-! ### Failed probes (R121, R122, R126) -/

theorem endProbe_sameOuter (c : ChannelId) : SameOuter s (endProbe c s) :=
  endProbe_keeps (sameOuter_keeps s) c (SameOuter.refl s)

theorem endProbe_memberOf (c : ChannelId) (f : FeedId) (d : DistrictId) :
    memberOf (endProbe c s) f d = memberOf s f d := by
  cases h : s.channel c with
  | none => rw [endProbe_free s h]
  | some p =>
    by_cases hf : p.feed = f
    · subst hf
      cases he : s.episode p.feed <;> simp [memberOf, endProbe_channel s h, he]
    · simp [memberOf, endProbe_channel s h, State.setEpisode_episode, hf]

theorem failFull_eq (c : ChannelId) (d : DistrictId) (cause : FailCause) : failFull c d cause s =
    let e := endProbe c s
    let k := s.dcfg d
    let f := min k.lockoutLimit ((e.district d).failures + 1)
    let becomes := fun x => e.setDistrict d { e.district d with st := x, failures := f, lastFail := some cause }
    let locked := fun why => markDistrict [.failed, .locked] d
      ((becomes (.locked why .noLook)).setTimer d (lockedTimer s d))
    if k.lockoutLimit ≤ f then locked .limit
    else if k.policy = .manual then locked .manualPolicy
    else if episodeMember s d then markDistrict [.failed] d ((becomes (.cooling .merging)).setTimer d Timer.empty)
    else markDistrict [.failed] d ((becomes (.cooling .counting)).setTimer d
      (loaded .cool (min s.cfg.globals.ceiling (s.cfg.globals.base * 2 ^ f)))) := by
  have same := endProbe_sameOuter s c
  have member : episodeMember (endProbe c s) d = episodeMember s d := by
    simp only [episodeMember, endProbe_memberOf]
  have raised : ∀ r : District, r.holders = ((endProbe c s).district d).holders →
      SameOuter s ((endProbe c s).setDistrict d r) :=
    fun r hr => (sameOuter_keeps s).district _ _ _ hr same
  simp only [failFull, failedState, raiseFailures, writeFail, enterLocked_state, State.modDistrict,
    clearTimer_eq, loadTimer_eq, setSt, backoff, beq_iff_eq]
  simp [member, (raised _ _).lockedTimer, same.dcfg, same.cfg]

theorem setLook_locked {d : DistrictId} {why : LockCause} {look : LookStatus}
    (h : (s.district d).st = .locked why look) (x : LookStatus) :
    setLook d x s = s.setDistrict d { s.district d with st := .locked why x } := by
  simp [setLook, h, setSt, State.modDistrict]

theorem failLook_eq {c : ChannelId} {d : DistrictId} {why : LockCause} {look : LookStatus}
    (h : ((endProbe c s).district d).st = .locked why look) (cause : FailCause) :
    failLook c d cause s = markDistrict [.failed] d ((endProbe c s).setDistrict d
      { (endProbe c s).district d with st := .locked why .noLook, lastFail := some cause }) := by
  rw [failLook, setLook_locked (why := why) (look := look) _ (by simp [writeFail, State.modDistrict, h])]
  simp [writeFail, State.modDistrict]

theorem endProbe_district_self {c : ChannelId} {p : Probe} (h : s.channel c = some p) :
    (endProbe c s).district p.district =
      { s.district p.district with polarity := polarityBefore s p.district } := by
  simp [endProbe_channel s h]

theorem endProbe_queue (c : ChannelId) (f : FeedId) : (endProbe c s).queue f = s.queue f := by
  cases h : s.channel c with
  | none => rw [endProbe_free s h]
  | some p => simp [endProbe_channel s h]

theorem lifetimeExpiry_full {c : ChannelId} {p : Probe} (h : s.channel c = some p) (hk : p.kind = .full) :
    lifetimeExpiry c s = arbitrate s (markDistrict [.failed] p.district
      (((endProbe c s).setDistrict p.district { (endProbe c s).district p.district with
        st := .queued, lastFail := some .lifetime }).setQueue (s.dcfg p.district).feed
          (queueWith s p.district .full))) := by
  simp [lifetimeExpiry, h, expireProbe, hk, becomeQueued_eq, writeFail, State.modDistrict, queueWith, endProbe_queue,
    (endProbe_sameOuter s c).dcfg]

theorem lifetimeExpiry_look {c : ChannelId} {p : Probe} (h : s.channel c = some p) (hk : p.kind = .look)
    {why : LockCause} {look : LookStatus} (hd : (s.district p.district).st = .locked why look) :
    lifetimeExpiry c s = arbitrate s (markDistrict [.failed] p.district ((endProbe c s).setDistrict p.district
      { (endProbe c s).district p.district with st := .locked why .noLook, lastFail := some .lifetime })) := by
  have locked : ((endProbe c s).district p.district).st = .locked why look := by rw [endProbe_district_self s h, ← hd]
  have fails := failLook_eq s locked .lifetime
  rw [failLook] at fails
  simp only [lifetimeExpiry, h, expireProbe, hk, fails]

end Sys2Proof.Machine
end
section
open Sys2Proof Sys2Proof.Machine
/-- Settles O50: an end of a probe is a chain of named updates, on which a failure and a lifetime expiry build. -/
theorem endsAndFailuresOfProbes : Obligations.EndsAndFailuresOfProbes := by
  intro s c p cause hc
  refine ⟨endProbe_channel s hc, fun full => ⟨?_, ?_⟩, fun look why l hd => ⟨?_, ?_⟩⟩
  · rw [failProbe, full]
    dsimp only
    rw [failFull_eq]
    simp only [endProbe_district_self s hc]
    rfl
  · exact congrArg _ (lifetimeExpiry_full s hc full)
  · rw [failProbe, look]
    exact failLook_eq s (by rw [endProbe_district_self s hc, ← hd]) cause
  · exact congrArg _ (lifetimeExpiry_look s hc look hd)
end

section
/-! The success of a swap window (R38), and the checks of CONFIRM that it held (R36, R118). -/

namespace Sys2Proof.Machine

variable (s : State)

/-! ### What detection and the Arbiter's look read (R28, R105) -/

theorem channelOf_congr {s t : State} (h : t.channels = s.channels) (d : DistrictId) :
    channelOf t d = channelOf s d := by
  simp only [channelOf, State.channel, h]

theorem detection_congr {s t : State} {d : DistrictId}
    (hw : (t.monitor d).window.isSome = (s.monitor d).window.isSome) (hst : (t.district d).st = (s.district d).st)
    (hcfg : t.cfg = s.cfg) (hf : t.feeds = s.feeds) (hc : t.channels = s.channels) : detection t d = detection s d := by
  have probe : probeOf t d = probeOf s d := by simp only [probeOf, channelOf_congr hc, State.channel, hc]
  simp only [detection, probe, State.dcfg, State.feed, hw, hst, hcfg, hf]
  rfl

theorem arbitrate_idle {before after : State} (hc : ∀ c, (before.channel c).isSome → (after.channel c).isSome)
    (hq : after.queues = before.queues) (hf : after.feeds = before.feeds) (hm : after.mode = before.mode) :
    arbitrate before after = after :=
  arbitrate_quiet hc (fun f => by simp only [State.queue, hq]) (fun f => by simp only [State.feed, hf, imp_self]) hm

theorem channel_isSome_setChannel {t : State} {c : ChannelId} (q : Probe)
    (h : ∀ k, (s.channel k).isSome → (t.channel k).isSome) (k : ChannelId) (hk : (s.channel k).isSome) :
    ((t.setChannel c (some q)).channel k).isSome := by
  rw [State.setChannel_channel]
  split
  · rfl
  · exact h k hk

theorem channelOf_some {d : DistrictId} {c : ChannelId} {p : Probe} (h : channelOf s d = some c)
    (hc : s.channel c = some p) : p.district = d := by
  have := List.find?_some h
  simpa [hc] using this

/-! ### The channels after the end of a probe (R107) -/

theorem endProbe_channel_read {c : ChannelId} {p : Probe} (h : s.channel c = some p) (k : ChannelId) :
    (endProbe c s).channel k = if c = k then none else s.channel k := by
  simp [endProbe_channel s h, State.setChannel_channel]

theorem failedState_channels (d : DistrictId) : (failedState d s).channels = s.channels := by
  simp only [failedState, enterLocked_state, clearTimer_eq, loadTimer_eq, setSt, State.modDistrict]
  split_ifs <;> simp

theorem setLook_channels (d : DistrictId) (x : LookStatus) : (setLook d x s).channels = s.channels := by
  unfold setLook setSt State.modDistrict
  split <;> simp

theorem failProbe_channels (c : ChannelId) (p : Probe) (cause : FailCause) :
    (failProbe c p cause s).channels = (endProbe c s).channels := by
  unfold failProbe
  cases p.kind with
  | full => simp [failFull, failedState_channels, raiseFailures, writeFail, State.modDistrict]
  | look => simp [failLook, setLook_channels, writeFail, State.modDistrict]

theorem failProbe_channel {c : ChannelId} {p : Probe} (h : s.channel c = some p) (q : Probe) (cause : FailCause)
    (k : ChannelId) : (failProbe c q cause s).channel k = if c = k then none else s.channel k := by
  rw [← endProbe_channel_read s h, State.channel, failProbe_channels, State.channel]

/-! ### The success of a swap window (R38) -/

/-- A check of CONFIRM that a swap window held: the start check if it is pending, then the end if it is due (R118). -/
def heldChecks (c : ChannelId) (p : Probe) (t : State) : State :=
  let t := startCheck c p t
  match t.channel c with
  | some q => if stageDue t q then endConfirm c q t else t
  | none => t

/-- The checks of CONFIRM that the swap window of `d` held are made now (R36, R118). -/
def takeHeldChecks (d : DistrictId) (t : State) : State :=
  match channelOf t d with
  | none => t
  | some c =>
    match t.channel c with
    | none => t
    | some p => if p.stage.isConfirm && p.pause == none then heldChecks c p t else t

/-- The swap window of `d` is removed, and its swap counted and marked (R38). -/
def countSwap (d : DistrictId) (t : State) : State :=
  markDistrict [.reversal] d ((t.setMonitor d { t.monitor d with window := none }).setDistrict d
    { t.district d with swaps := min 255 ((t.district d).swaps + 1) })

/-- A probation that is set is loaded anew (R86). -/
def reloadProbation (d : DistrictId) (t : State) : State :=
  if (t.district d).probation then loadTimer d .probation t.cfg.globals.probation t else t

/-- The integrator is set to 0 where detection is inactive (R29). -/
def quietIntegrator (d : DistrictId) (t : State) : State :=
  if (detection t d).isSome then t else clearIntegrator d t

theorem swapSuccess_eq {d : DistrictId} {w : SwapWindow} (hw : (s.monitor d).window = some w) :
    swapSuccess d s = if w.ended then
      arbitrate s (takeHeldChecks d (quietIntegrator d (reloadProbation d (countSwap d s)))) else s := by
  have due : swapSuccessDue s d = w.ended := by simp [swapSuccessDue, hw]
  rw [← due]
  rfl

/-- The state once the swap window of `d` has succeeded, before a held check of CONFIRM is made. -/
def windowSucceeded (d : DistrictId) (integrator : Nat) (t : Timer) : State :=
  markDistrict [.reversal] d
    (((s.setMonitor d { s.monitor d with window := none, integrator := integrator }).setDistrict d
      { s.district d with swaps := min 255 ((s.district d).swaps + 1) }).setTimer d t)

theorem countSwap_reloadProbation (d : DistrictId) : reloadProbation d (countSwap d s) =
    windowSucceeded s d (s.monitor d).integrator
      (if (s.district d).probation then loaded .probation s.cfg.globals.probation else s.timer d) := by
  unfold reloadProbation countSwap windowSucceeded
  cases h : (s.district d).probation <;> simp [h, loadTimer_eq]

theorem quietIntegrator_windowSucceeded (d : DistrictId) (a : Nat) (t : Timer) :
    quietIntegrator d (windowSucceeded s d a t) =
      windowSucceeded s d (if (detection (windowSucceeded s d a t) d).isSome then a else 0) t := by
  unfold quietIntegrator
  split
  · rfl
  · simp [windowSucceeded, clearIntegrator, State.modMonitor]

/-- The allowance of the detection check of a probe, with Q from the configuration in CONFIRM (R28). -/
def probeDetection (p : Probe) (q : Nat) : Option Nat :=
  match p.pause with
  | some ⟨.sibling, _⟩ => some p.profile.allowance
  | some ⟨.stall, _⟩ => none
  | none =>
    match p.stage with
    | .ramp _ => some p.profile.allowance
    | .confirm _ => some q
    | .sense => none
    | .precharge => none

theorem detection_window {d : DistrictId} (h : (s.monitor d).window.isSome = true) :
    detection s d = some (s.dcfg d).allowance := by simp [detection, h]

theorem detection_live {d : DistrictId} (hw : (s.monitor d).window = none) (hl : (s.district d).st = .live) :
    detection s d = if (s.feed (s.dcfg d).feed).stalled then none else some (s.dcfg d).allowance := by
  simp [detection, hw, hl]

theorem detection_free {d : DistrictId} (hw : (s.monitor d).window = none) (hl : (s.district d).st ≠ .live)
    (hc : channelOf s d = none) : detection s d = none := by
  simp [detection, hw, hl, probeOf, hc]

theorem detection_probe {d : DistrictId} {c : ChannelId} {p : Probe} (hw : (s.monitor d).window = none)
    (hl : (s.district d).st ≠ .live) (hc : channelOf s d = some c) (hp : s.channel c = some p) :
    detection s d = probeDetection p (s.dcfg d).allowance := by
  simp [detection, hw, hl, probeOf, hc, hp]
  rfl

/-! ### The reads of the state after a swap window's success -/

section
variable (d : DistrictId) (a : Nat) (t : Timer)

@[simp] theorem windowSucceeded_channels : (windowSucceeded s d a t).channels = s.channels := by simp [windowSucceeded]
@[simp] theorem windowSucceeded_queues : (windowSucceeded s d a t).queues = s.queues := by simp [windowSucceeded]
@[simp] theorem windowSucceeded_feeds : (windowSucceeded s d a t).feeds = s.feeds := by simp [windowSucceeded]
@[simp] theorem windowSucceeded_mode : (windowSucceeded s d a t).mode = s.mode := by simp [windowSucceeded]
@[simp] theorem windowSucceeded_dcfg (e : DistrictId) : (windowSucceeded s d a t).dcfg e = s.dcfg e := by
  simp [windowSucceeded]
@[simp] theorem windowSucceeded_feed (f : FeedId) : (windowSucceeded s d a t).feed f = s.feed f := by
  simp [windowSucceeded]
@[simp] theorem windowSucceeded_channel (c : ChannelId) : (windowSucceeded s d a t).channel c = s.channel c := by
  simp [windowSucceeded]
@[simp] theorem windowSucceeded_monitor : (windowSucceeded s d a t).monitor d =
    { s.monitor d with window := none, integrator := a } := by simp [windowSucceeded]
@[simp] theorem windowSucceeded_st : ((windowSucceeded s d a t).district d).st = (s.district d).st := by
  simp [windowSucceeded]
@[simp] theorem windowSucceeded_channelOf (e : DistrictId) : channelOf (windowSucceeded s d a t) e = channelOf s e :=
  channelOf_congr (windowSucceeded_channels s d a t) e
end

theorem arbitrate_windowSucceeded (d : DistrictId) (a : Nat) (t : Timer) :
    arbitrate s (windowSucceeded s d a t) = windowSucceeded s d a t :=
  arbitrate_idle (by simp) (by simp) (by simp) (by simp)

/-- Outside every channel, the window's success is all there is (R38). -/
theorem swapSuccess_free {d : DistrictId} {w : SwapWindow} (hw : (s.monitor d).window = some w) (he : w.ended = true)
    (hl : (s.district d).st = .live) (hc : channelOf s d = none) : swapSuccess d s =
      windowSucceeded s d (if (s.feed (s.dcfg d).feed).stalled then 0 else (s.monitor d).integrator)
        (if (s.district d).probation then loaded .probation s.cfg.globals.probation else s.timer d) := by
  have active : (detection (windowSucceeded s d (s.monitor d).integrator
      (if (s.district d).probation then loaded .probation s.cfg.globals.probation else s.timer d)) d).isSome =
        !(s.feed (s.dcfg d).feed).stalled := by
    rw [detection_live _ (by simp) (by simp [hl])]
    cases h : (s.feed (s.dcfg d).feed).stalled <;> simp [h]
  rw [swapSuccess_eq s hw, he, if_pos rfl, countSwap_reloadProbation, quietIntegrator_windowSucceeded, active]
  cases h : (s.feed (s.dcfg d).feed).stalled <;> simp [takeHeldChecks, hc, arbitrate_windowSucceeded]

/-- In CONFIRM the window's success is followed by the checks that it held (R36, R118). -/
theorem swapSuccess_confirm {d : DistrictId} {w : SwapWindow} {c : ChannelId} {p : Probe} {b : Bool}
    (hw : (s.monitor d).window = some w) (he : w.ended = true) (hl : (s.district d).st = .probing)
    (hb : (s.district d).probation = false) (hc : channelOf s d = some c) (hp : s.channel c = some p)
    (hn : p.pause = none) (hs : p.stage = .confirm b) : swapSuccess d s =
      arbitrate s (heldChecks c p (windowSucceeded s d (s.monitor d).integrator (s.timer d))) := by
  have active : (detection (windowSucceeded s d (s.monitor d).integrator (s.timer d)) d).isSome = true := by
    rw [detection_probe (p := p) (c := c) _ (by simp) (by simp [hl]) (by simp [hc]) (by simp [hp])]
    simp [probeDetection, hn, hs]
  rw [swapSuccess_eq s hw, he, if_pos rfl, countSwap_reloadProbation, hb, if_neg Bool.false_ne_true,
    quietIntegrator_windowSucceeded, active, if_pos rfl]
  simp [takeHeldChecks, hc, hp, hn, hs, Stage.isConfirm]

theorem startCheck_absent {c : ChannelId} {p : Probe} (hs : p.stage = .confirm true)
    (hv : (s.monitor p.district).voltage = false) : startCheck c p s = failProbe c p .noVoltage s := by
  simp [startCheck, hs, hv]

theorem startCheck_present {c : ChannelId} {p : Probe} (hs : p.stage = .confirm true)
    (hv : (s.monitor p.district).voltage = true) :
    startCheck c p s = s.modChannel c (fun q => { q with stage := .confirm false }) := by
  simp [startCheck, hs, hv]

theorem startCheck_made {c : ChannelId} {p : Probe} (h : p.stage ≠ .confirm true) : startCheck c p s = s := by
  unfold startCheck
  split
  · contradiction
  · rfl

theorem heldChecks_made {c : ChannelId} {p : Probe} (hc : s.channel c = some p) (hn : p.pause = none)
    (hs : p.stage = .confirm false) (hw : (s.monitor p.district).window = none) :
    heldChecks c p s = if 4 * p.profile.confirmTime ≤ p.elapsed then endConfirm c p s else s := by
  simp [heldChecks, startCheck_made s (c := c) (p := p) (by simp [hs]), hs, hc, stageDue, hn, stageSamples, hw]

theorem heldChecks_absent {c : ChannelId} {p : Probe} (hc : s.channel c = some p) (hs : p.stage = .confirm true)
    (hv : (s.monitor p.district).voltage = false) : heldChecks c p s = failProbe c p .noVoltage s := by
  simp [heldChecks, startCheck_absent s hs hv, failProbe_channel s hc]

theorem heldChecks_present {c : ChannelId} {p : Probe} (hc : s.channel c = some p) (hn : p.pause = none)
    (hs : p.stage = .confirm true) (hw : (s.monitor p.district).window = none)
    (hv : (s.monitor p.district).voltage = true) : heldChecks c p s =
      let checked := s.setChannel c (some { p with stage := .confirm false })
      if 4 * p.profile.confirmTime ≤ p.elapsed then succeed c p.district checked else checked := by
  have checked : startCheck c p s =
      startCheck c { p with stage := .confirm false } (s.setChannel c (some { p with stage := .confirm false })) := by
    rw [startCheck_present s hs hv, startCheck_made _ (by simp)]
    simp [State.modChannel, hc]
  have made := heldChecks_made (s.setChannel c (some { p with stage := .confirm false })) (c := c)
    (p := { p with stage := .confirm false }) (by simp) hn rfl (by simpa using hw)
  unfold heldChecks at made ⊢
  rw [checked, made, endConfirm, State.setChannel_monitor, hv, if_pos rfl]

end Sys2Proof.Machine

open Sys2Proof Sys2Proof.Machine
/-- Settles O60: outside CONFIRM the window's success is all there is; in CONFIRM the start check and then the end
follow it, by whether the start check was pending and Tc has run out. -/
theorem swapWindowSucceeds : Obligations.SwapWindowSucceeds := by
  intro s d w hw
  refine ⟨fun he => ?_, fun he hl hc => congrArg _ (swapSuccess_free s hw he hl hc), ?_, ?_⟩
  · show Host.Outcome.next (swapSuccess d s) = _
    rw [swapSuccess_eq s hw, he]
    rfl
  · intro c p he hl hb hc hp hn hs u
    have step := swapSuccess_confirm s hw he hl hb hc hp hn hs
    obtain rfl := channelOf_some s hc hp
    rw [heldChecks_made _ (by simp [hp]) hn hs (by simp)] at step
    refine ⟨fun hlt => ?_, fun hle => ?_⟩
    · rw [if_neg (by omega), arbitrate_windowSucceeded] at step
      exact congrArg _ step
    · rw [if_pos hle, endConfirm] at step
      simp only [windowSucceeded_monitor] at step
      exact congrArg _ step
  · intro c p he hl hb hc hp hn hs u checked
    have step := swapSuccess_confirm s hw he hl hb hc hp hn hs
    obtain rfl := channelOf_some s hc hp
    refine ⟨fun hv => ?_, fun hv hlt => ?_, fun hv hle => ?_⟩
    · rw [heldChecks_absent _ (by simp [hp]) hs (by simp [hv])] at step
      exact congrArg _ step
    · rw [heldChecks_present _ (by simp [hp]) hn hs (by simp) (by simp [hv])] at step
      dsimp only at step
      rw [if_neg (by omega), arbitrate_idle (channel_isSome_setChannel s _ (by simp)) (by simp) (by simp) (by simp)]
        at step
      exact congrArg _ step
    · rw [heldChecks_present _ (by simp [hp]) hn hs (by simp) (by simp [hv])] at step
      dsimp only at step
      rw [if_pos hle] at step
      exact congrArg _ step
end

section
/-! One sample with nothing due before it (R27, R30, R62), and trip reports outside every channel (R41, R63, R64). -/

namespace Sys2Proof.Machine

variable (s : State)

/-! ### The recording of a sample (R27, R62) -/

theorem episode_advance_eq (e : Episode) : e.advance = advanced e := by
  cases h : e.kind <;> simp only [Episode.advance, advanced, h, EpisodeWindow.advance]

theorem periodBoundary_eq (ds : BitVec 16) : periodBoundary ds s =
    { s with sampled := ds, episodes := Vector.ofFn (fun f => (s.episode f).map advanced) } := by
  have step : Episode.advance = advanced := funext episode_advance_eq
  have walk : (forFeeds (fun f t => t.modEpisode f Episode.advance) (s.setSampled ds)).episodes =
      Vector.ofFn (fun f => (s.episode f).map advanced) := by
    have read (f : FeedId) : (forFeeds (fun f t => t.modEpisode f Episode.advance) (s.setSampled ds)).episode f =
        (s.episode f).map advanced :=
      forFeeds_read (f := f) (g := fun f t => t.modEpisode f Episode.advance) (read := fun t => t.episode f)
        (φ := Option.map advanced) (I := fun _ => True)
        (fun _ _ _ => trivial) (fun t _ => by simp [State.modEpisode, step])
        (fun e he t _ => by simp [State.modEpisode, State.setEpisode_episode, he]) trivial
    ext1 i hi
    rw [Vector.getElem_ofFn]
    exact read ⟨i, hi⟩
  rw [← walk]
  rfl

theorem recorded_eq (d : DistrictId) (units : Nat) (voltage : Bool) :
    (countSample d s).modMonitor d (fun m =>
      { m with history := pushSample m.history (min 1000 units), voltage := voltage }) =
      recorded s d units voltage := by
  cases h : s.sampled.getLsbD d.val
  · simp only [countSample, beginsPeriod, h, recorded, if_neg Bool.false_ne_true]; rfl
  · simp only [countSample, beginsPeriod, h, recorded, if_true, periodBoundary_eq]; rfl

section
variable (d : DistrictId) (units : Nat) (voltage : Bool)

@[simp] theorem recorded_cfg : (recorded s d units voltage).cfg = s.cfg := rfl
@[simp] theorem recorded_mode : (recorded s d units voltage).mode = s.mode := rfl
@[simp] theorem recorded_districts : (recorded s d units voltage).districts = s.districts := rfl
@[simp] theorem recorded_feeds : (recorded s d units voltage).feeds = s.feeds := rfl
@[simp] theorem recorded_queues : (recorded s d units voltage).queues = s.queues := rfl
@[simp] theorem recorded_channels : (recorded s d units voltage).channels = s.channels := rfl
@[simp] theorem recorded_dcfg (e : DistrictId) : (recorded s d units voltage).dcfg e = s.dcfg e := rfl
@[simp] theorem recorded_fcfg (f : FeedId) : (recorded s d units voltage).fcfg f = s.fcfg f := rfl
@[simp] theorem recorded_district (e : DistrictId) : (recorded s d units voltage).district e = s.district e := rfl
@[simp] theorem recorded_feed (f : FeedId) : (recorded s d units voltage).feed f = s.feed f := rfl
@[simp] theorem recorded_queue (f : FeedId) : (recorded s d units voltage).queue f = s.queue f := rfl
@[simp] theorem recorded_channel (c : ChannelId) : (recorded s d units voltage).channel c = s.channel c := rfl
@[simp] theorem recorded_channelOf (e : DistrictId) : channelOf (recorded s d units voltage) e = channelOf s e := rfl
@[simp] theorem recorded_voltage : ((recorded s d units voltage).monitor d).voltage = voltage := by
  simp [recorded, State.monitor]
@[simp] theorem recorded_integrator : ((recorded s d units voltage).monitor d).integrator = (s.monitor d).integrator := by
  simp [recorded, State.monitor]
@[simp] theorem recorded_window : ((recorded s d units voltage).monitor d).window = (s.monitor d).window := by
  simp [recorded, State.monitor]
@[simp] theorem recorded_confirmSwapUsed :
    ((recorded s d units voltage).monitor d).confirmSwapUsed = (s.monitor d).confirmSwapUsed := by
  simp [recorded, State.monitor]

theorem recorded_sameOuter : SameOuter s (recorded s d units voltage) := by
  constructor <;> intros <;> rfl

theorem recorded_detection : detection (recorded s d units voltage) d = detection s d :=
  detection_congr (by simp) rfl rfl rfl rfl
end

/-! ### The sample with nothing due before it -/

theorem swapSuccess_notDue {d : DistrictId} (h : swapSuccessDue s d = false) : swapSuccess d s = s := by
  simp [swapSuccess, h]

theorem stageEnd_notDue {c : ChannelId} (h : ∀ p, s.channel c = some p → stageDue s p = false) : stageEnd c s = s := by
  unfold stageEnd
  cases hc : s.channel c with
  | none => rfl
  | some p => simp [h p hc]

theorem episodeExpiry_notDue {f : FeedId} (h : closeDue s f = none) : episodeExpiry f s = s := by
  simp [episodeExpiry, h]

/-- Nothing of the sample before stands due on district `d` (log entry 3). -/
structure Settled (s : State) (d : DistrictId) : Prop where
  window : swapSuccessDue s d = false
  stage : ∀ c p, channelOf s d = some c → s.channel c = some p → stageDue s p = false
  closes : s.sampled.getLsbD d.val = true → ∀ f, closeDue s f = none

theorem Settled.periodStart {s : State} {d : DistrictId} (h : Settled s d) :
    (if beginsPeriod s d then forFeeds episodeExpiry s else s) = s := by
  cases hb : beginsPeriod s d with
  | false => rfl
  | true => simp [forFeeds, allFeeds, episodeExpiry_notDue, h.closes hb]

theorem settleDistrict_settled {s : State} {d : DistrictId} (h : Settled s d) : settleDistrict d s = s := by
  cases hc : channelOf s d with
  | none =>
    simp only [settleDistrict, swapSuccess_notDue s h.window, hc]
    exact h.periodStart
  | some c =>
    simp only [settleDistrict, swapSuccess_notDue s h.window, hc, stageEnd_notDue s (fun p => h.stage c p hc)]
    exact h.periodStart

theorem Settled.currentSample {s : State} {d : DistrictId} (h : Settled s d) (units : Nat) (voltage : Bool) :
    exec (.currentSample d units voltage) s =
      .next (arbitrate s (stageSample d (detect d (min 1000 units) (recorded s d units voltage)))) := by
  rw [← recorded_eq]
  show Host.Outcome.next (arbitrate (settleDistrict d s) (sample d (min 1000 units) voltage (settleDistrict d s))) = _
  rw [settleDistrict_settled h]
  rfl

/-! ### The detection check (R30) -/

theorem judge_eq (k : DistrictConfig) (a i z : Nat) : judge k a i z =
    match trippedBy k a i z with
    | some cause => .trip cause
    | none => .pass (integrated k a i) := by
  unfold judge trippedBy integrated
  split_ifs <;> simp_all

theorem detect_inactive {d : DistrictId} (h : detection s d = none) (i : Nat) : detect d i s = s := by
  simp [detect, h]

theorem detect_pass {d : DistrictId} {i z : Nat} (h : detection s d = some z)
    (ht : trippedBy (s.dcfg d) (s.monitor d).integrator i z = none) :
    detect d i s = s.setMonitor d { s.monitor d with
      integrator := integrated (s.dcfg d) (s.monitor d).integrator i
      window := (s.monitor d).window.map SwapWindow.countDown } := by
  simp [detect, h, judge_eq, ht, countWindow, State.modMonitor]

theorem detect_trip {d : DistrictId} {i z : Nat} {cause : TripCause} (h : detection s d = some z)
    (ht : trippedBy (s.dcfg d) (s.monitor d).integrator i z = some cause) : detect d i s = takeTrip d cause s := by
  simp [detect, h, judge_eq, ht]

theorem takeTrip_window {d : DistrictId} (h : (s.monitor d).window.isSome = true) (cause : TripCause) :
    takeTrip d cause s = handTrip d .reversalFailed (abandonWindow d s) := by
  simp [takeTrip, h, abandonWindow]

theorem takeTrip_swap {d : DistrictId} {x : WindowSetting} (h : (s.monitor d).window = none)
    (hx : swapSetting s d = some x) (cause : TripCause) : takeTrip d cause s = startSwap d x s := by
  simp [takeTrip, h, hx]

theorem takeTrip_hand {d : DistrictId} (h : (s.monitor d).window = none) (hx : swapSetting s d = none)
    (cause : TripCause) : takeTrip d cause s = handTrip d cause (abandonWindow d s) := by
  simp [takeTrip, h, hx, abandonWindow, restorePolarity]

theorem stageSample_free {d : DistrictId} (h : channelOf s d = none) : stageSample d s = s := by
  simp [stageSample, h]

theorem startSwap_eq (d : DistrictId) (x : WindowSetting) : startSwap d x s =
    (s.setMonitor d { s.monitor d with
      integrator := 0
      window := some ⟨(s.dcfg d).swapWindow, (s.district d).polarity, x, false⟩
      confirmSwapUsed := match x with
        | .confirm => true
        | .live => (s.monitor d).confirmSwapUsed }).setDistrict d
      { s.district d with polarity := (s.district d).polarity.toggle } := rfl

/-! ### Trip reports (R41, R63, R64) -/

/-- The state that a trip report gives a district with failure count `n` (R41, R42). -/
def reportedState (k : DistrictConfig) (n : Nat) : DistrictState :=
  if k.policy = .manual then .locked .manualPolicy .noLook
  else if k.lockoutLimit ≤ n then .locked .limit .noLook else .cooling .merging

theorem trippedState_eq (d : DistrictId) : trippedState d s =
    let x := reportedState (s.dcfg d) (s.district d).failures
    markDistrict (if isLocked x then [.trip, .locked] else [.trip]) d
      ((s.setDistrict d { s.district d with st := x }).setTimer d
        (if isLocked x then lockedTimer s d else Timer.empty)) := by
  simp only [trippedState, reportedState, beq_iff_eq]
  split_ifs <;> simp_all [isLocked, enterLocked_state, clearTimer_eq, setSt, State.modDistrict]

/-- The episode of feed `f` after a trip report of district `d`, from the open episode `e` if there is one (R63, R64). -/
def joinedBy (f : FeedId) (d : DistrictId) (e : Option Episode) : Episode :=
  match e with
  | none =>
    { members := [d], stallFlag := (s.feed f).stalled, waiting := siblingProbes s f,
      kind := .ordinary
        { remaining := (s.fcfg f).mergeWindow.samples, opening := (s.fcfg f).mergeWindow.samples, total := 0,
          out := false } }
  | some e =>
    { e with
      members := withMember e.members d
      kind := e.kind.reload (s.fcfg f).mergeWindow.samples
      waiting := match e.kind with
        | .ordinary _ => e.waiting ||| siblingProbes s f
        | .shed => e.waiting }

theorem arrive_eq (f : FeedId) (d : DistrictId) :
    arrive f d s = s.setEpisode f (some (joinedBy s f d (s.episode f))) := by
  unfold arrive joinedBy
  cases s.episode f <;> rfl

theorem joinedBy_congr {s t : State} (hcfg : t.cfg = s.cfg) (hf : t.feeds = s.feeds) (hc : t.channels = s.channels)
    (f : FeedId) (d : DistrictId) (e : Option Episode) : joinedBy t f d e = joinedBy s f d e := by
  have siblings : siblingProbes t f = siblingProbes s f := by simp only [siblingProbes, State.channel, hc]
  have feed : t.feed f = s.feed f := by simp only [State.feed, hf]
  have fcfg : t.fcfg f = s.fcfg f := by simp only [State.fcfg, hcfg]
  unfold joinedBy
  rw [siblings, feed, fcfg]

/-- The failure count of district `d` after a trip report (R41). -/
def reportedFailures (d : DistrictId) : Nat :=
  if (s.district d).probation then min (s.dcfg d).lockoutLimit ((s.district d).failures + 1) else (s.district d).failures

/-- The state after a trip report of district `d` (R41). -/
def reported (d : DistrictId) (cause : TripCause) : State :=
  let k := s.dcfg d
  let x := reportedState k (reportedFailures s d)
  (markDistrict (if isLocked x then [.trip, .locked] else [.trip]) d
    (((s.setMonitor d { s.monitor d with integrator := 0 }).setDistrict d
      { s.district d with
        st := x, failures := reportedFailures s d, probation := false, trips := min 65535 ((s.district d).trips + 1),
        lastTrip := some cause }).setTimer d
      (if isLocked x then lockedTimer s d else Timer.empty))).setEpisode k.feed
    (some (joinedBy s k.feed d (s.episode k.feed)))

/-- The state in which the new state of a tripped district is chosen: the trip is counted, F has risen under probation,
which ends, and the integrator is 0 (R41). -/
def reportCounted (d : DistrictId) (cause : TripCause) : State :=
  ((s.setTimer d (if (s.district d).probation then Timer.empty else s.timer d)).setDistrict d
    { s.district d with
      failures := reportedFailures s d, probation := false, trips := min 65535 ((s.district d).trips + 1),
      lastTrip := some cause }).setMonitor d { s.monitor d with integrator := 0 }

theorem reportCounted_sameOuter (d : DistrictId) (cause : TripCause) : SameOuter s (reportCounted s d cause) :=
  (sameOuter_keeps s).monitor _ _ _ ((sameOuter_keeps s).district _ _ _ rfl
    ((sameOuter_keeps s).timer _ _ _ (SameOuter.refl s)))

theorem tripReport_counted (d : DistrictId) (cause : TripCause) :
    tripReport d cause s = arrive (s.dcfg d).feed d (trippedState d (reportCounted s d cause)) := by
  unfold tripReport reportCounted reportedFailures
  cases h : (s.district d).probation <;>
    simp [State.modDistrict, h, clearIntegrator, State.modMonitor, satSucc, endProbation, raiseFailures, clearTimer_eq]

theorem tripReport_eq (d : DistrictId) (cause : TripCause) : tripReport d cause s = reported s d cause := by
  rw [tripReport_counted, trippedState_eq, (reportCounted_sameOuter s d cause).lockedTimer, arrive_eq]
  dsimp only
  rw [joinedBy_congr (s := s) (by simp [reportCounted]) (by simp [reportCounted]) (by simp [reportCounted])]
  simp [reported, reportCounted]

theorem swapSetting_live {d : DistrictId} (h : (s.monitor d).window = none) (hl : (s.district d).st = .live) :
    swapSetting s d = if (s.dcfg d).reversing then some .live else none := by
  simp [swapSetting, h, hl]

theorem reportTimer_eq (d : DistrictId) (x : DistrictState) : (if isLocked x then lockedTimer s d else Timer.empty) =
    if isLocked x = true ∧ (s.dcfg d).patrol = true ∧ isolationSet s d = false ∧ s.mode = .run then
      loaded .patrol s.cfg.globals.patrol else Timer.empty := by
  cases h : isLocked x <;> simp [lockedTimer]

theorem toggle_eq (x : Polarity) : x.toggle = if x = .normal then .swapped else .normal := by cases x <;> rfl

theorem handTrip_live {d : DistrictId} (h : (s.district d).st = .live) (cause : TripCause) :
    handTrip d cause s = reported s d cause := by
  simp [handTrip, h, tripReport_eq]

theorem getLsbD_addItem {n : Nat} (b : BitVec n) (i j : Nat) :
    (addItem b i).getLsbD j = (b.getLsbD j || decide (j < n) && decide (j = i)) := by
  by_cases h : j = i
  · simp [addItem, BitVec.getLsbD_twoPow, h]
  · simp [addItem, BitVec.getLsbD_twoPow, h, Ne.symm h]

theorem getLsbD_bitmap (n : Nat) (p : Nat → Bool) (j : Nat) :
    (bitmap n p).getLsbD j = (decide (j < n) && p j) := by
  have walk : ∀ (l : List Nat) (b : BitVec n),
      (l.foldl (fun b i => if p i then addItem b i else b) b).getLsbD j =
        (b.getLsbD j || decide (j < n) && decide (j ∈ l) && p j) := by
    intro l
    induction l with
    | nil => simp
    | cons i l ih =>
      intro b
      rw [List.foldl_cons, ih]
      cases hp : p i <;> by_cases hj : j = i <;> simp_all [getLsbD_addItem]
  rw [bitmap, walk]
  simp

theorem siblingProbes_iff (f : FeedId) (c : ChannelId) : (siblingProbes s f).getLsbD c.val = true ↔
    ∃ p, s.channel c = some p ∧ p.feed = f ∧
      ((p.pause = none ∧ p.stage.isConfirm = false) ∨ ∃ x, p.pause = some ⟨.sibling, x⟩) := by
  have reaches (p : Probe) : siblingReaches p = true ↔
      (p.pause = none ∧ p.stage.isConfirm = false) ∨ ∃ x, p.pause = some ⟨.sibling, x⟩ := by
    unfold siblingReaches
    obtain hn | ⟨⟨- | -, x⟩, hp⟩ := Option.eq_none_or_eq_some p.pause <;> simp [*]
  rw [siblingProbes, getLsbD_bitmap]
  cases hc : s.channel c with
  | none => simp [hc]
  | some p => simp [hc, reaches]

/-! ### What a sample becomes (R27, R30) -/

/-- The cause with which a sample of district `d` trips against allowance `z`, if it trips (R30). -/
def sampleTrip (d : DistrictId) (units z : Nat) : Option TripCause :=
  trippedBy (s.dcfg d) (s.monitor d).integrator (min 1000 units) z

/-- The state after a sample that detection passes: the integrator moves, and a swap window counts down (R30, R36). -/
def passed (d : DistrictId) (units : Nat) (voltage : Bool) : State :=
  let b := recorded s d units voltage
  b.setMonitor d { b.monitor d with
    integrator := integrated (s.dcfg d) (b.monitor d).integrator (min 1000 units)
    window := (b.monitor d).window.map SwapWindow.countDown }

section
variable (d : DistrictId) (units : Nat) (voltage : Bool)

@[simp] theorem passed_channels : (passed s d units voltage).channels = s.channels := by simp [passed]
@[simp] theorem passed_queues : (passed s d units voltage).queues = s.queues := by simp [passed]
@[simp] theorem passed_feeds : (passed s d units voltage).feeds = s.feeds := by simp [passed]
@[simp] theorem passed_mode : (passed s d units voltage).mode = s.mode := by simp [passed]
@[simp] theorem passed_channel (c : ChannelId) : (passed s d units voltage).channel c = s.channel c := by simp [passed]
@[simp] theorem passed_window :
    ((passed s d units voltage).monitor d).window = (s.monitor d).window.map SwapWindow.countDown := by simp [passed]
@[simp] theorem passed_voltage : ((passed s d units voltage).monitor d).voltage = voltage := by simp [passed]
@[simp] theorem passed_channelOf (e : DistrictId) : channelOf (passed s d units voltage) e = channelOf s e :=
  channelOf_congr (passed_channels s d units voltage) e

theorem passed_unwindowed (h : (s.monitor d).window = none) : passed s d units voltage =
    let b := recorded s d units voltage
    b.setMonitor d { b.monitor d with
      integrator := integrated (s.dcfg d) (b.monitor d).integrator (min 1000 units) } := by
  have kept : ((recorded s d units voltage).monitor d).window.map SwapWindow.countDown =
      ((recorded s d units voltage).monitor d).window := by rw [recorded_window, h]; rfl
  simp only [passed, kept]
end

section
variable {s} {d : DistrictId} (units : Nat) (voltage : Bool) (settled : Settled s d)
include settled

theorem sample_unchecked (h : detection s d = none) :
    exec (.currentSample d units voltage) s = .next (arbitrate s (stageSample d (recorded s d units voltage))) := by
  rw [settled.currentSample, detect_inactive _ (by rw [recorded_detection, h])]

theorem sample_passes {z : Nat} (h : detection s d = some z) (ht : sampleTrip s d units z = none) :
    exec (.currentSample d units voltage) s = .next (arbitrate s (stageSample d (passed s d units voltage))) := by
  rw [settled.currentSample, detect_pass (z := z) _ (by rw [recorded_detection, h])
    (by rw [recorded_integrator]; exact ht)]
  rfl

theorem sample_trips {z : Nat} (h : detection s d = some z) {cause : TripCause}
    (ht : sampleTrip s d units z = some cause) : exec (.currentSample d units voltage) s =
      .next (arbitrate s (stageSample d (takeTrip d cause (recorded s d units voltage)))) := by
  rw [settled.currentSample, detect_trip (z := z) (cause := cause) _ (by rw [recorded_detection, h])
    (by rw [recorded_integrator]; exact ht)]

/-! ### Samples outside every channel -/

variable (free : channelOf s d = none)
include free

theorem sample_unchecked_free (h : detection s d = none) :
    exec (.currentSample d units voltage) s = .next (recorded s d units voltage) := by
  rw [sample_unchecked units voltage settled h, stageSample_free _ (by simp [free]),
    arbitrate_idle (by simp) (by simp) (by simp) (by simp)]

theorem sample_passes_free {z : Nat} (h : detection s d = some z) (ht : sampleTrip s d units z = none) :
    exec (.currentSample d units voltage) s = .next (passed s d units voltage) := by
  rw [sample_passes units voltage settled h ht, stageSample_free _ (by simp [free]),
    arbitrate_idle (by simp) (by simp) (by simp) (by simp)]

theorem sample_swaps_free {z : Nat} (h : detection s d = some z) {cause : TripCause}
    (ht : sampleTrip s d units z = some cause) {x : WindowSetting}
    (swap : takeTrip d cause (recorded s d units voltage) = startSwap d x (recorded s d units voltage)) :
    exec (.currentSample d units voltage) s = .next (startSwap d x (recorded s d units voltage)) := by
  rw [sample_trips units voltage settled h ht, swap, startSwap_eq,
    stageSample_free _ (by rw [channelOf_congr (s := s) (by simp), free]),
    arbitrate_idle (by simp) (by simp) (by simp) (by simp)]
end

section
variable {s} {d : DistrictId} (units : Nat) (voltage : Bool)

/-- A trip report causes no look of the Arbiter: it frees no channel and places no entry. -/
theorem arbitrate_reported (b u : State) (cause : TripCause) (hc : u.channels = b.channels) (hq : u.queues = b.queues)
    (hf : u.feeds = b.feeds) (hm : u.mode = b.mode) : arbitrate b (reported u d cause) = reported u d cause :=
  arbitrate_idle (by simp [reported, State.channel, hc]) (by simp [reported, hq]) (by simp [reported, hf])
    (by simp [reported, hm])

/-- A trip report after a sample is recorded, the swap window given up (R37, R41). -/
theorem reported_recorded (d : DistrictId) (cause : TripCause) :
    reported (abandonWindow d (recorded s d units voltage)) d cause =
      let b := recorded s d units voltage
      let k := s.dcfg d
      let x := reportedState k (reportedFailures s d)
      (markDistrict (if isLocked x then [.trip, .locked] else [.trip]) d
        (((b.setMonitor d { b.monitor d with integrator := 0, window := none }).setDistrict d
          { s.district d with
            st := x, failures := reportedFailures s d, probation := false,
            trips := min 65535 ((s.district d).trips + 1), lastTrip := some cause,
            polarity := polarityBefore s d }).setTimer d
          (if isLocked x then lockedTimer s d else Timer.empty))).setEpisode k.feed
        (some (joinedBy s k.feed d (b.episode k.feed))) := by
  have same : SameOuter s (abandonWindow d (recorded s d units voltage)) :=
    abandonWindow_keeps (sameOuter_keeps s) d (recorded_sameOuter s d units voltage)
  have failures : reportedFailures (abandonWindow d (recorded s d units voltage)) d = reportedFailures s d := by
    simp [reportedFailures, abandonWindow_eq]
  have polarity : polarityBefore (recorded s d units voltage) d = polarityBefore s d := by
    simp [polarityBefore]
  unfold reported
  rw [failures, same.lockedTimer]
  dsimp only
  rw [joinedBy_congr (s := s) same.cfg (by simp [abandonWindow_eq]) (by simp [abandonWindow_eq])]
  simp [abandonWindow_eq, polarity]

theorem sample_reports_free (settled : Settled s d) (free : channelOf s d = none) (live : (s.district d).st = .live)
    {z : Nat} (h : detection s d = some z) {cause why : TripCause}
    (ht : sampleTrip s d units z = some cause)
    (taken : takeTrip d cause (recorded s d units voltage) =
      handTrip d why (abandonWindow d (recorded s d units voltage))) :
    exec (.currentSample d units voltage) s =
      .next (reported (abandonWindow d (recorded s d units voltage)) d why) := by
  have live' : ((abandonWindow d (recorded s d units voltage)).district d).st = .live := by simp [abandonWindow_eq, live]
  rw [sample_trips units voltage settled h ht, taken, handTrip_live _ live',
    stageSample_free _ (by rw [channelOf_congr (s := s) (by simp [reported, abandonWindow_eq]), free]),
    arbitrate_reported _ _ _ (by simp [abandonWindow_eq]) (by simp [abandonWindow_eq]) (by simp [abandonWindow_eq])
      (by simp [abandonWindow_eq])]

end

end Sys2Proof.Machine

open Sys2Proof Sys2Proof.Machine

/-- Settles O58: with nothing due, a sample is recorded and then passed, swapped on or reported, by what detection makes
of it on a LIVE district and in a swap window. -/
theorem samplesOutsideProbes : Obligations.SamplesOutsideProbes := by
  intro s d units voltage hs free closes b m r k sampled less hit counted report
  have settled : Settled s d := ⟨hs, fun c p hc => by simp [free] at hc, closes⟩
  have window : m.window = (s.monitor d).window := recorded_window s d units voltage
  have trip : hit = sampleTrip s d units k.allowance := by simp [hit, m, b, k, sampleTrip]
  have reports (cause : TripCause) :
      reported (abandonWindow d b) d cause = report cause (polarityBefore s d) := by
    refine (reported_recorded units voltage d cause).trans ?_
    simp only [reportTimer_eq]
    rfl
  refine ⟨sample_unchecked_free units voltage settled free, ?_, fun live hw clear => ?_, fun w live hw => ?_,
    siblingProbes_iff s⟩
  · rw [window]
    cases hw : (s.monitor d).window with
    | some w => simp [detection_window s (d := d) (by simp [hw]), k]
    | none =>
      by_cases live : r.st = .live
      · cases hf : (s.feed k.feed).stalled <;> simp [detection_live s hw live, live, hf, k]
      · simp [detection_free s hw live free, live]
  · have active : detection s d = some k.allowance := by
      simp [detection_live s (window.symm.trans hw) live, k, clear]
    have before : polarityBefore s d = r.polarity := by simp [polarityBefore, ← window, hw, r]
    have setting := swapSetting_live b hw live
    rw [trip]
    refine ⟨fun ht => ?_, fun cause ht rev => ?_, fun cause ht rev => ?_⟩
    · refine (sample_passes_free units voltage settled free active ht).trans ?_
      rw [passed_unwindowed s d units voltage (window.symm.trans hw)]
    · have swap := takeTrip_swap b hw (setting.trans (if_pos rev)) cause
      refine (sample_swaps_free units voltage settled free active ht swap).trans ?_
      rw [startSwap_eq, toggle_eq]
      rfl
    · have taken := takeTrip_hand b hw (setting.trans (if_neg (Bool.eq_false_iff.mp rev))) cause
      rw [← before, ← reports]
      exact sample_reports_free units voltage settled free live active ht taken
  · have active : detection s d = some k.allowance := detection_window s (by simp [← window, hw])
    have before : polarityBefore s d = w.before := by simp [polarityBefore, ← window, hw]
    rw [trip]
    refine ⟨fun ht => ?_, fun cause ht => ?_⟩
    · refine (sample_passes_free units voltage settled free active ht).trans ?_
      have down : m.window.map SwapWindow.countDown = some (less w) := by rw [hw]; rfl
      rw [← down]
      rfl
    · have taken := takeTrip_window b (d := d) (hw ▸ rfl) cause
      rw [← before, ← reports]
      exact sample_reports_free units voltage settled free live active ht taken
end

section
/-! One sample of a probed district: the stage it counts towards, and the trips that fail a probe (R44, R114, R118). -/

namespace Sys2Proof.Machine

/-! ### The channel of a probed district (R112) -/

theorem RecoverySound.channelOf_eq {s : State} (sound : RecoverySound s) {c : ChannelId} {p : Probe}
    (hc : s.channel c = some p) : channelOf s p.district = some c := by
  cases h : channelOf s p.district with
  | none =>
    have none_holds := List.find?_eq_none.mp h c (mem_allChannels c)
    simp [hc] at none_holds
  | some b =>
    have holds := List.find?_some h
    cases hb : s.channel b with
    | none => simp [hb] at holds
    | some q =>
      simp only [hb, beq_iff_eq] at holds
      rw [sound.channel b c q p hb hc holds]

theorem RecoverySound.not_live {s : State} (sound : RecoverySound s) {c : ChannelId} {p : Probe}
    (hc : s.channel c = some p) : (s.district p.district).st ≠ .live := by
  intro live
  have kind := (sound.context c p hc).2
  simp [live, probeKindOf] at kind

/-- Beyond PRECHARGE there are FULL probes alone (R124). -/
theorem RecoverySound.full_of_stage {s : State} (sound : RecoverySound s) {c : ChannelId} {p : Probe}
    (hc : s.channel c = some p) (hs : p.stage.isSense = false) (hp : p.stage.isPrecharge = false) : p.kind = .full := by
  cases hk : p.kind with
  | full => rfl
  | look =>
    have look := sound.look c p hc hk
    simp [lookStage, hs, hp] at look

theorem RecoverySound.channelOf_ended {s t : State} (sound : RecoverySound s) {c : ChannelId} {p : Probe}
    (hc : s.channel c = some p) (ended : ∀ k, t.channel k = if c = k then none else s.channel k) :
    channelOf t p.district = none := by
  refine List.find?_eq_none.mpr fun k _ => ?_
  rw [ended]
  by_cases hk : c = k
  · simp [hk]
  · cases hq : s.channel k with
    | none => simp [hk]
    | some q => simpa [hk] using fun same => hk (sound.channel c k p q hc hq same.symm)

variable (s : State)

/-! ### The sample of a probed district (R114, R118) -/

theorem stageSample_paused {d : DistrictId} {c : ChannelId} {p : Probe} (hc : channelOf s d = some c)
    (hp : s.channel c = some p) (hn : p.pause ≠ none) : stageSample d s = s := by
  simp [stageSample, hc, hp, hn]

theorem stageSample_windowed {d : DistrictId} {c : ChannelId} {p : Probe} (hc : channelOf s d = some c)
    (hp : s.channel c = some p) (hn : p.pause = none) (hw : (s.monitor d).window ≠ none) :
    stageSample d s = s.setChannel c (some { p with elapsed := p.elapsed + 1 }) := by
  simp [stageSample, hc, hp, hn, State.modChannel, hw]

theorem stageSample_running {d : DistrictId} {c : ChannelId} {p : Probe} (hc : channelOf s d = some c)
    (hp : s.channel c = some p) (hn : p.pause = none) (hw : (s.monitor d).window = none) :
    stageSample d s = startCheck c p (s.setChannel c (some { p with elapsed := p.elapsed + 1 })) := by
  simp [stageSample, hc, hp, hn, State.modChannel, hw]

/-- A sample that a running probe counts causes no look of the Arbiter. -/
theorem arbitrate_going {s t : State} (c : ChannelId) (q : Probe) (hc : t.channels = s.channels)
    (hq : t.queues = s.queues) (hf : t.feeds = s.feeds) (hm : t.mode = s.mode) :
    arbitrate s (t.setChannel c (some q)) = t.setChannel c (some q) :=
  arbitrate_idle (channel_isSome_setChannel s q (by simp [State.channel, hc])) (by simp [hq]) (by simp [hf])
    (by simp [hm])

/-! ### Trips of probed districts (R44) -/

/-- The state in which a tripped probe fails: the cause is written, the integrator is 0, and a swap window is gone
with the polarity restored (R37, R44). -/
def probeTripped (d : DistrictId) (cause : TripCause) : State :=
  (s.setMonitor d { s.monitor d with integrator := 0, window := none }).setDistrict d
    { s.district d with lastTrip := some cause, polarity := polarityBefore s d }

theorem handTrip_probe {d : DistrictId} {c : ChannelId} {p : Probe} (hd : p.district = d)
    (hl : (s.district d).st ≠ .live) (hc : channelOf s d = some c) (hp : s.channel c = some p) (cause : TripCause) :
    handTrip d cause (abandonWindow d s) = failProbe c p (tripFailCause p) (probeTripped s d cause) := by
  subst hd
  have hc' : channelOf (abandonWindow p.district s) p.district = some c := by
    rw [channelOf_congr (s := s) (by simp [abandonWindow_eq]), hc]
  simp only [handTrip, hc']
  simp [abandonWindow_eq, hl, hp, probeTrip, probeTripped, clearIntegrator, State.modMonitor, State.modDistrict]

theorem swapSetting_probe {d : DistrictId} {c : ChannelId} {p : Probe} (hw : (s.monitor d).window = none)
    (hl : (s.district d).st ≠ .live) (hc : channelOf s d = some c) (hp : s.channel c = some p) :
    swapSetting s d = if (s.dcfg d).reversing = true ∧ p.stage.isConfirm = true ∧ p.pause = none ∧
      (s.monitor d).confirmSwapUsed = false then some .confirm else none := by
  simp only [swapSetting, probeOf, hw, hc, hp, Option.bind_some]
  by_cases hr : (s.dcfg d).reversing = true <;> simp [hr, hl, and_assoc]

/-- A probe that has counted one more sample of its stage (R114). -/
def Probe.counted (p : Probe) : Probe := { p with elapsed := p.elapsed + 1 }

section
variable {s} {c : ChannelId} {p : Probe} (units : Nat) (voltage : Bool) (sound : RecoverySound s)
  (hc : s.channel c = some p) (settled : Settled s p.district)
include sound hc

theorem detection_probed (hw : (s.monitor p.district).window = none) :
    detection s p.district = probeDetection p (s.dcfg p.district).allowance :=
  detection_probe s hw (sound.not_live hc) (sound.channelOf_eq hc) hc

include settled

/-- A trip of a probed district that starts no swap fails its probe (R44). -/
theorem sample_fails {z : Nat} {cause why : TripCause} (h : detection s p.district = some z)
    (ht : sampleTrip s p.district units z = some cause)
    (taken : takeTrip p.district cause (recorded s p.district units voltage) =
      handTrip p.district why (abandonWindow p.district (recorded s p.district units voltage))) :
    exec (.currentSample p.district units voltage) s = .next (arbitrate s (failProbe c p (tripFailCause p)
      (probeTripped (recorded s p.district units voltage) p.district why))) := by
  rw [sample_trips units voltage settled h ht, taken, handTrip_probe (recorded s p.district units voltage) rfl
    (sound.not_live hc) (sound.channelOf_eq hc) hc, stageSample_free]
  refine sound.channelOf_ended hc fun k => ?_
  rw [failProbe_channel _ (p := p) (by simp [probeTripped, hc])]
  simp [probeTripped]

/-- A stall pause only records the sample (R28). -/
theorem sample_stalled {x : ResumePoint} (hx : p.pause = some ⟨.stall, x⟩)
    (hw : (s.monitor p.district).window = none) :
    exec (.currentSample p.district units voltage) s = .next (recorded s p.district units voltage) := by
  have unchecked : probeDetection p (s.dcfg p.district).allowance = none := by rw [probeDetection, hx]
  rw [sample_unchecked units voltage settled ((detection_probed sound hc hw).trans unchecked),
    stageSample_paused _ (by simpa using sound.channelOf_eq hc) (by simpa using hc) (by simp [hx]),
    arbitrate_idle (by simp) (by simp) (by simp) (by simp)]

/-- In a swap window a passed sample counts the window down, and the checks of CONFIRM are held (R36, R118). -/
theorem sample_passes_windowed (hn : p.pause = none) {w : SwapWindow} (hw : (s.monitor p.district).window = some w)
    (ht : sampleTrip s p.district units (s.dcfg p.district).allowance = none) :
    exec (.currentSample p.district units voltage) s =
      .next ((passed s p.district units voltage).setChannel c (some p.counted)) := by
  rw [sample_passes units voltage settled (detection_window s (by simp [hw])) ht,
    stageSample_windowed _ (by simpa using sound.channelOf_eq hc) (by simpa using hc) hn (by simp [hw]),
    arbitrate_going c _ (by simp) (by simp) (by simp) (by simp)]
  rfl

/-! #### Outside a swap window -/

variable (hw : (s.monitor p.district).window = none)
include hw

/-- SENSE and PRECHARGE detect nothing and count the sample (R28, R114). -/
theorem sample_early (hn : p.pause = none) (stage : p.stage = .sense ∨ p.stage = .precharge) :
    exec (.currentSample p.district units voltage) s =
      .next ((recorded s p.district units voltage).setChannel c (some p.counted)) := by
  have unchecked : probeDetection p (s.dcfg p.district).allowance = none := by
    rw [probeDetection, hn]
    obtain stage | stage := stage <;> rw [stage]
  rw [sample_unchecked units voltage settled ((detection_probed sound hc hw).trans unchecked),
    stageSample_running _ (by simpa using sound.channelOf_eq hc) (by simpa using hc) hn (by simp [hw]),
    startCheck_made _ (by obtain stage | stage := stage <;> simp [stage]),
    arbitrate_going c _ (by simp) (by simp) (by simp) (by simp)]
  rfl

variable {z : Nat} (h : probeDetection p (s.dcfg p.district).allowance = some z)
include h

theorem sample_fails_unwindowed (noSwap : ¬((s.dcfg p.district).reversing = true ∧ p.stage.isConfirm = true ∧
      p.pause = none ∧ (s.monitor p.district).confirmSwapUsed = false)) {cause : TripCause}
    (ht : sampleTrip s p.district units z = some cause) :
    exec (.currentSample p.district units voltage) s = .next (arbitrate s (failProbe c p (tripFailCause p)
      (probeTripped (recorded s p.district units voltage) p.district cause))) := by
  have hw' : ((recorded s p.district units voltage).monitor p.district).window = none := by simp [hw]
  refine sample_fails units voltage sound hc settled ((detection_probed sound hc hw).trans h) ht
    (takeTrip_hand _ hw' ((swapSetting_probe _ hw' (sound.not_live hc) (sound.channelOf_eq hc) hc).trans
      (if_neg ?_)) cause)
  simpa using noSwap

/-- The one swap of CONFIRM (R40). -/
theorem sample_swaps_confirm (hn : p.pause = none) (hs : p.stage.isConfirm = true)
    (rev : (s.dcfg p.district).reversing = true) (fresh : (s.monitor p.district).confirmSwapUsed = false)
    {cause : TripCause} (ht : sampleTrip s p.district units z = some cause) :
    exec (.currentSample p.district units voltage) s = .next
      ((startSwap p.district .confirm (recorded s p.district units voltage)).setChannel c (some p.counted)) := by
  have hw' : ((recorded s p.district units voltage).monitor p.district).window = none := by simp [hw]
  have swap := takeTrip_swap _ hw' ((swapSetting_probe _ hw' (sound.not_live hc) (sound.channelOf_eq hc) hc).trans
    (if_pos ⟨rev, hs, hn, by simp [fresh]⟩)) cause
  rw [sample_trips units voltage settled ((detection_probed sound hc hw).trans h) ht, swap, startSwap_eq,
    stageSample_windowed _ ((channelOf_congr (by simp) _).trans (sound.channelOf_eq hc)) (by simpa using hc) hn (by simp),
    arbitrate_going c _ (by simp) (by simp) (by simp) (by simp)]
  rfl

variable (ht : sampleTrip s p.district units z = none)
include ht

/-- A sibling pause counts no sample (R134). -/
theorem sample_passes_paused (hn : p.pause ≠ none) :
    exec (.currentSample p.district units voltage) s = .next (passed s p.district units voltage) := by
  rw [sample_passes units voltage settled ((detection_probed sound hc hw).trans h) ht,
    stageSample_paused _ (by simpa using sound.channelOf_eq hc) (by simpa using hc) hn,
    arbitrate_idle (by simp) (by simp) (by simp) (by simp)]

/-- A running probe counts the sample it passes, and makes a start check that is pending (R114, R118). -/
theorem sample_passes_running (hn : p.pause = none) :
    exec (.currentSample p.district units voltage) s = .next (arbitrate s
      (startCheck c p ((passed s p.district units voltage).setChannel c (some p.counted)))) := by
  rw [sample_passes units voltage settled ((detection_probed sound hc hw).trans h) ht,
    stageSample_running _ (by simpa using sound.channelOf_eq hc) (by simpa using hc) hn (by simp [hw])]
  rfl

/-- Nothing is left to check in RAMP, and in CONFIRM once its start check is made. -/
theorem sample_passes_made (hn : p.pause = none) (made : p.stage ≠ .confirm true) :
    exec (.currentSample p.district units voltage) s =
      .next ((passed s p.district units voltage).setChannel c (some p.counted)) := by
  rw [sample_passes_running units voltage sound hc settled hw h ht hn, startCheck_made _ made,
    arbitrate_going c _ (by simp) (by simp) (by simp) (by simp)]

/-- A sample that shows voltage makes the start check of CONFIRM (R118). -/
theorem sample_passes_check (hn : p.pause = none) (pending : p.stage = .confirm true) (hv : voltage = true) :
    exec (.currentSample p.district units voltage) s = .next ((passed s p.district units voltage).setChannel c
      (some { p.counted with stage := .confirm false })) := by
  rw [sample_passes_running units voltage sound hc settled hw h ht hn, startCheck_present _ pending (by simp [hv])]
  simp only [State.modChannel, State.setChannel_channel_self, Option.map_some, State.setChannel_setChannel]
  rw [arbitrate_going c _ (by simp) (by simp) (by simp) (by simp)]

/-- A sample that shows no voltage fails the start check of CONFIRM (R118). -/
theorem sample_fails_check (hn : p.pause = none) (pending : p.stage = .confirm true) (hv : voltage = false) :
    exec (.currentSample p.district units voltage) s = .next (arbitrate s (failProbe c p .noVoltage
      ((passed s p.district units voltage).setChannel c (some p.counted)))) := by
  rw [sample_passes_running units voltage sound hc settled hw h ht hn, startCheck_absent _ pending (by simp [hv])]
end

end Sys2Proof.Machine
open Sys2Proof Sys2Proof.Machine

/-- Settles O59: one lemma per stage or pause, chosen by the probe's stage, its pause and the swap window. -/
theorem samplesInProbes : Obligations.SamplesInProbes := by
  intro s d units voltage c p sound hc hd hs hw closes b m r k sampled less hit counted going failed tripped
  subst hd
  have settled : Settled s p.district :=
    ⟨hw, fun e q he hq => by
      cases (sound.channelOf_eq hc).symm.trans he
      cases hc.symm.trans hq
      exact hs, closes⟩
  have window : m.window = (s.monitor p.district).window := recorded_window s p.district units voltage
  have used : m.confirmSwapUsed = (s.monitor p.district).confirmSwapUsed :=
    recorded_confirmSwapUsed s p.district units voltage
  have trip (z : Nat) : hit z = sampleTrip s p.district units z := by simp [hit, m, b, k, sampleTrip]
  have unwindowed (hw : m.window = none) :
      passed s p.district units voltage = b.setMonitor p.district { m with integrator := counted } :=
    passed_unwindowed s p.district units voltage (window.symm.trans hw)
  simp only [trip]
  refine ⟨?_, fun hn stage hw => sample_early units voltage sound hc settled (window.symm.trans hw) hn stage,
    fun step hn stage hw => ?_, fun pending hn stage => ?_, fun x hx stage hw => ?_,
    fun x hx hw => sample_stalled units voltage sound hc settled hx (window.symm.trans hw)⟩
  · rw [window]
    cases hw : (s.monitor p.district).window with
    | some w => simp [detection_window s (d := p.district) (by simp [hw]), k]
    | none =>
      rw [detection_probed sound hc hw, probeDetection]
      obtain hn | ⟨⟨- | -, x⟩, hn⟩ := Option.eq_none_or_eq_some p.pause <;> cases p.stage <;> simp [hn, k]
  · have ramp : probeDetection p k.allowance = some p.profile.allowance := by rw [probeDetection, hn, stage]
    have why : tripFailCause p = .rampTrip := by
      simp [tripFailCause, sound.full_of_stage hc (by rw [stage]; rfl) (by rw [stage]; rfl), stage, Stage.isConfirm]
    have sw := window.symm.trans hw
    refine ⟨fun ht => ?_, fun cause ht => ?_⟩
    · rw [← unwindowed hw]
      exact sample_passes_made units voltage sound hc settled sw ramp ht hn (by simp [stage])
    · have fails := sample_fails_unwindowed units voltage sound hc settled sw ramp (by simp [stage, Stage.isConfirm]) ht
      rwa [why] at fails
  · have confirm : probeDetection p k.allowance = some k.allowance := by rw [probeDetection, hn, stage]
    have why : tripFailCause p = .confirmTrip := by
      simp [tripFailCause, sound.full_of_stage hc (by rw [stage]; rfl) (by rw [stage]; rfl), stage, Stage.isConfirm]
    refine ⟨fun ht hw hv => ?_, fun ht hw hv hp => ?_, fun w ht hw => ?_, fun cause ht hw rev fresh => ?_,
      fun cause ht hw done => ?_, fun cause ht hw => ?_⟩
    · rw [← unwindowed hw]
      have sw := window.symm.trans hw
      cases pending with
      | false =>
        have same : ({ going with stage := .confirm false } : Probe) = p.counted := by simp [going, Probe.counted, stage]
        rw [same]
        exact sample_passes_made units voltage sound hc settled sw confirm ht hn (by simp [stage])
      | true =>
        exact sample_passes_check units voltage sound hc settled sw confirm ht hn stage (hv.resolve_right (by simp))
    · rw [← unwindowed hw]
      exact sample_fails_check units voltage sound hc settled (window.symm.trans hw) confirm ht hn (hp ▸ stage) hv
    · have down : m.window.map SwapWindow.countDown = some (less w) := by rw [hw]; rfl
      rw [← down]
      exact sample_passes_windowed units voltage sound hc settled hn (window.symm.trans hw) ht
    · refine (sample_swaps_confirm units voltage sound hc settled (window.symm.trans hw) confirm hn (by rw [stage]; rfl)
        rev (used.symm.trans fresh) ht).trans ?_
      rw [startSwap_eq, toggle_eq]
      rfl
    · have noSwap : ¬(k.reversing = true ∧ p.stage.isConfirm = true ∧ p.pause = none ∧
          (s.monitor p.district).confirmSwapUsed = false) := by
        rintro ⟨rev, -, -, fresh⟩
        simp [rev, used, fresh] at done
      have fails := sample_fails_unwindowed units voltage sound hc settled (window.symm.trans hw) confirm noSwap ht
      rwa [why] at fails
    · have fails := sample_fails units voltage sound hc settled (detection_window s (by rw [← window]; exact hw)) ht
        (takeTrip_window b hw cause)
      rwa [why] at fails
  · have paused : probeDetection p k.allowance = some p.profile.allowance := by rw [probeDetection, hx]
    have why : tripFailCause p = if p.kind = .look then .shortPersists else .rampTrip := by
      cases hk : p.kind <;> simp [tripFailCause, hk, stage]
    have sw := window.symm.trans hw
    refine ⟨fun ht => ?_, fun cause ht => ?_⟩
    · rw [← unwindowed hw]
      exact sample_passes_paused units voltage sound hc settled sw paused ht (by simp [hx])
    · have fails := sample_fails_unwindowed units voltage sound hc settled sw paused (by simp [hx]) ht
      rwa [why] at fails
end

section
/-! The stall clear: the end of the shed, and the restart of detection and of stall-paused probes (R52, R53, R139). -/

namespace Sys2Proof.Machine

variable (s : State)

/-! ### The close of an episode leaves the feeds alone -/

theorem endProbe_feeds (c : ChannelId) : (endProbe c s).feeds = s.feeds := by
  cases h : s.channel c with
  | none => rw [endProbe_free s h]
  | some p => simp [endProbe_channel s h]

theorem setLook_feeds (d : DistrictId) (x : LookStatus) : (setLook d x s).feeds = s.feeds := by
  unfold setLook
  split <;> rfl

theorem passLook_feeds (c : ChannelId) (d : DistrictId) : (passLook c d s).feeds = s.feeds := by
  unfold passLook
  dsimp only
  split
  · rw [markDistrict_feeds]
    exact endProbe_feeds s c
  · rw [markDistrict_feeds]
    exact endProbe_feeds s c

theorem localResume_feeds (f : FeedId) (c : ChannelId) : (localResume f c s).feeds = s.feeds := by
  unfold localResume
  dsimp only
  split
  · split
    · split
      · split <;> rfl
      · rfl
      · exact passLook_feeds _ _ _
      · rfl
      · rfl
    · rfl
  · rfl

theorem abandonProbe_feeds (f : FeedId) (c : ChannelId) : (abandonProbe f c s).feeds = s.feeds := by
  unfold abandonProbe
  split
  · split
    · simp [joinMerging, clearTimer_eq, State.modEpisode, setSt, State.modDistrict, endProbe_feeds]
    · rw [setLook_feeds, endProbe_feeds]
  · rfl

theorem resolveWaiting_feeds (f : FeedId) (x : EpisodeClass) (w : BitVec 4) :
    (resolveWaiting f x w s).feeds = s.feeds :=
  forChannels_keeps (P := fun t => t.feeds = s.feeds) (fun c t h => by
    split
    · split
      · rw [localResume_feeds, h]
      · rw [abandonProbe_feeds, h]
    · exact h) rfl

theorem handCounts_feeds (f : FeedId) (x : EpisodeClass) (ds : List DistrictId) :
    ∀ (i : Nat) (t : State), (handCounts f x ds i t).feeds = t.feeds := by
  induction ds with
  | nil => intro i t; rfl
  | cons d ds ih =>
    intro i t
    unfold handCounts
    split
    · rw [ih]
      unfold handCount
      split <;> rfl
    · exact ih i t

theorem closeEpisode_feeds (f : FeedId) (x : CloseCause) : (closeEpisode f x s).feeds = s.feeds := by
  unfold closeEpisode
  split
  · rfl
  · dsimp only
    split <;> simp [handCounts_feeds, resolveWaiting_feeds]

/-! ### The districts and the probes of a feed at a stall clear (R52, R139) -/

theorem clearLiveIntegrators_same (f : FeedId) : ∃ v, clearLiveIntegrators f s = { s with monitors := v } :=
  forDistricts_keeps (P := fun t => ∃ v, t = { s with monitors := v }) (fun d t h => by
    obtain ⟨v, rfl⟩ := h
    split
    · exact ⟨_, rfl⟩
    · exact ⟨v, rfl⟩) ⟨s.monitors, rfl⟩

theorem clearLiveIntegrators_channel (f : FeedId) (c : ChannelId) :
    (clearLiveIntegrators f s).channel c = s.channel c := by
  obtain ⟨v, h⟩ := clearLiveIntegrators_same s f
  rw [h]
  rfl

theorem clearLiveIntegrators_slot (f : FeedId) (n : SlotId) : (clearLiveIntegrators f s).slot n = s.slot n := by
  obtain ⟨v, h⟩ := clearLiveIntegrators_same s f
  rw [h]
  rfl

theorem clearLiveIntegrators_monitor (f : FeedId) (d : DistrictId) : (clearLiveIntegrators f s).monitor d =
    if (s.dcfg d).feed = f ∧ (s.district d).st = .live ∧ (s.monitor d).window = none then
      { s.monitor d with integrator := 0 } else s.monitor d := by
  refine forDistricts_read (d := d) (read := fun t => t.monitor d)
    (I := fun t => t.cfg = s.cfg ∧ t.districts = s.districts)
    (φ := fun m => if (s.dcfg d).feed = f ∧ (s.district d).st = .live ∧ m.window = none then
      { m with integrator := 0 } else m) ?_ ?_ ?_ ⟨rfl, rfl⟩
  · intro e t h
    split
    · exact h
    · exact h
  · rintro t ⟨hcfg, hdistricts⟩
    have hd : t.dcfg d = s.dcfg d := by simp only [State.dcfg, hcfg]
    have hr : t.district d = s.district d := by simp only [State.district, hdistricts]
    simp only [hd, hr, Bool.and_eq_true, beq_iff_eq, Option.isNone_iff_eq_none, and_assoc]
    split_ifs
    · simp [clearIntegrator, State.modMonitor]
    · rfl
  · intro e he t _
    split
    · simp [clearIntegrator, State.modMonitor, State.setMonitor_monitor, he]
    · rfl

/-- A stall-paused probe of feed `f` runs on (R139). -/
def continued (f : FeedId) (p : Probe) : Probe :=
  match p.pause with
  | some ⟨.stall, r⟩ => if p.feed = f then resumedAt r p else p
  | _ => p

theorem stallContinue_eq (f : FeedId) (c : ChannelId) :
    stallContinue f c s = s.setChannel c ((s.channel c).map (continued f)) := by
  unfold stallContinue continued
  cases h : s.channel c with
  | none =>
    have own : s.setChannel c none = s := by rw [← h, State.setChannel_own]
    exact own.symm
  | some p =>
    obtain hn | ⟨⟨- | -, r⟩, hn⟩ := Option.eq_none_or_eq_some p.pause <;> by_cases hf : p.feed = f <;>
      simp [hn, hf, State.modChannel, h] <;> simp [← h]

theorem stallContinue_walk_same (f : FeedId) : ∃ v, forChannels (stallContinue f) s = { s with channels := v } :=
  forChannels_keeps (P := fun t => ∃ v, t = { s with channels := v }) (fun c t h => by
    obtain ⟨v, rfl⟩ := h
    exact ⟨_, stallContinue_eq _ f c⟩) ⟨s.channels, rfl⟩

theorem stallContinue_walk_monitor (f : FeedId) (d : DistrictId) :
    (forChannels (stallContinue f) s).monitor d = s.monitor d := by
  obtain ⟨v, h⟩ := stallContinue_walk_same s f
  rw [h]
  rfl

theorem stallContinue_walk_slot (f : FeedId) (n : SlotId) :
    (forChannels (stallContinue f) s).slot n = s.slot n := by
  obtain ⟨v, h⟩ := stallContinue_walk_same s f
  rw [h]
  rfl

theorem stallContinue_walk_channel (f : FeedId) (c : ChannelId) :
    (forChannels (stallContinue f) s).channel c = (s.channel c).map (continued f) :=
  forChannels_read (c := c) (read := fun t => t.channel c) (I := fun _ => True) (φ := Option.map (continued f))
    (fun _ _ _ => trivial) (fun t _ => by simp [stallContinue_eq])
    (fun b hb t _ => by simp [stallContinue_eq, State.setChannel_channel, hb]) trivial

/-! ### The stall clear (R52, R53) -/

theorem endShed_quiet {f : FeedId} (h : (s.feed f).phase ≠ .shed) :
    endShed f s = s.setFeed f { s.feed f with phase := .idle } := by
  unfold endShed
  split
  · contradiction
  · rfl

theorem endShed_shed {f : FeedId} (h : (s.feed f).phase = .shed) :
    endShed f s = (closeEpisode f .stallClear s).setFeed f { s.feed f with phase := .idle } := by
  have feed : (closeEpisode f .stallClear s).feed f = s.feed f := by simp only [State.feed, closeEpisode_feeds]
  simp only [endShed, h, State.modFeed, feed]

/-- The state `clearStall` reaches from a state `t` in which the shed has ended and the feed is CLEAR. -/
def restarted (f : FeedId) (t : State) : State := forChannels (stallContinue f) (clearLiveIntegrators f (markFeed f t))

theorem restarted_same (f : FeedId) : ∃ v w x, restarted f s = { s with slots := x, monitors := v, channels := w } := by
  obtain ⟨x, hx⟩ := markFeed_same f s
  obtain ⟨v, hv⟩ := clearLiveIntegrators_same (markFeed f s) f
  obtain ⟨w, hw⟩ := stallContinue_walk_same (clearLiveIntegrators f (markFeed f s)) f
  exact ⟨v, w, x, by rw [restarted, hw, hv, hx]⟩

theorem restarted_slot (f : FeedId) (n : SlotId) : (restarted f s).slot n = (markFeed f s).slot n := by
  rw [restarted, stallContinue_walk_slot, clearLiveIntegrators_slot]

theorem restarted_feed (f g : FeedId) : (restarted f s).feed g = s.feed g := by
  obtain ⟨v, w, x, h⟩ := restarted_same s f
  rw [h]
  rfl

theorem restarted_channel (f : FeedId) (c : ChannelId) :
    (restarted f s).channel c = (s.channel c).map (continued f) := by
  rw [restarted, stallContinue_walk_channel, clearLiveIntegrators_channel, markFeed_channel]

theorem restarted_monitor (f : FeedId) (d : DistrictId) : (restarted f s).monitor d =
    if (s.dcfg d).feed = f ∧ (s.district d).st = .live ∧ (s.monitor d).window = none then
      { s.monitor d with integrator := 0 } else s.monitor d := by
  rw [restarted, stallContinue_walk_monitor, clearLiveIntegrators_monitor]
  simp

/-- A feed that becomes CLEAR makes the Arbiter look (R105). -/
theorem arbitrate_cleared {before after : State} {f : FeedId} (hb : (before.feed f).stalled = true)
    (ha : (after.feed f).stalled = false) : arbitrate before after = arbiterLook after := by
  have cleared : allFeeds.any (fun g => (before.feed g).stalled && !(after.feed g).stalled) = true :=
    List.any_eq_true.mpr ⟨f, mem_allFeeds f, by simp [hb, ha]⟩
  simp [arbitrate, lookCaused, cleared]

end Sys2Proof.Machine
open Sys2Proof Sys2Proof.Machine
/-- Settles O54: each clear is the end of the shed followed by the same restart of the feed, whose look the stall's end
causes. -/
theorem stallClearResumesTheFeed : Obligations.StallClearResumesTheFeed := by
  intro s f stalled full cleared
  have look (i : Instr) (x : Feed) (hx : x.stalled = false)
      (step : exec i s = .next (arbitrate s (restarted f (s.setFeed f x)))) : cleared i x := by
    refine ⟨restarted f (s.setFeed f x), ?_, fun g => ?_, fun c p hc => ?_, fun c hc => ?_, fun d => ?_, fun n => ?_,
      ?_⟩
    · rw [step, arbitrate_cleared stalled (by simp [restarted_feed, hx])]
    · rw [restarted_feed, State.setFeed_feed]
      simp only [eq_comm]
    · rw [restarted_channel, State.setFeed_channel, hc, Option.map_some, continued]
      obtain hn | ⟨⟨- | -, r⟩, hn⟩ := Option.eq_none_or_eq_some p.pause
      · rw [hn]
      · rw [hn]
      · cases r <;> simp [hn, resumedAt]
    · rw [restarted_channel, State.setFeed_channel, hc]
      rfl
    · exact restarted_monitor _ f d
    · exact restarted_slot _ f n
    · obtain ⟨v, w, y, h⟩ := restarted_same (s.setFeed f x) f
      rw [h]
      rfl
  have phase (x : Feed) (h : x.phase ≠ .shed) :
      clearStall f (s.setFeed f x) =
        restarted f (s.setFeed f { x with stalled := false, filterRun := 0, phase := .idle }) := by
    rw [clearStall, State.modFeed, endShed_quiet _ (by simpa using h)]
    simp [restarted]
  have clearing (decided : (s.feed f).decided = true) : stallClear f s = arbitrate s (clearStall f s) := by
    simp [stallClear, clearDue, decided, stalled, full]
  have deciding (undecided : (s.feed f).decided = false) : feedDecisionDue s f = true := by
    simp [feedDecisionDue, undecided, full]
  refine ⟨fun decided quiet => look _ _ rfl ?_, fun decided shed => ?_, fun undecided shown idle => look _ _ rfl ?_,
    fun undecided shown => ?_⟩
  · show Host.Outcome.next (stallClear f s) = _
    have same := phase (s.feed f) quiet
    rw [State.setFeed_own] at same
    rw [clearing decided, same]
  · show Host.Outcome.next (stallClear f s) = _
    have same : clearStall f s = restarted f ((closeEpisode f .stallClear
        (s.setFeed f { s.feed f with stalled := false, filterRun := 0 })).setFeed f
          { s.feed f with stalled := false, filterRun := 0, phase := .idle }) := by
      have ended := endShed_shed (s.setFeed f { s.feed f with stalled := false, filterRun := 0 }) (f := f)
        (by simpa using shed)
      rw [State.setFeed_feed_self] at ended
      rw [← ended]
      rfl
    rw [clearing decided, same, arbitrate_cleared stalled (by simp [restarted_feed])]
    rfl
  · show Host.Outcome.next (feedDecision f s) = _
    have same := phase { s.feed f with decided := true, filterRun := 0 } (by simp [idle])
    have decision : feedDecision f s =
        arbitrate s (clearStall f (s.setFeed f { s.feed f with decided := true, filterRun := 0 })) := by
      simp [feedDecision, deciding undecided, shown, State.modFeed]
    rw [decision, same]
    dsimp only
    rw [idle]
  · show Host.Outcome.next (feedDecision f s) = _
    simp [feedDecision, deciding undecided, shown, State.modFeed]
end

section
/-! The shed of a feed: what its walks over districts and channels take, in order (R54 to R56, R61, R67). -/

namespace Sys2Proof.Machine

/-! ### Walks in which each step reads its own record -/

/-- A walk over distinct items, each step of which changes `read` by what it finds at its own item. -/
theorem foldl_own {ι α β : Type} {g : ι → State → State} {item : State → ι → α} {read : State → β}
    {ψ : ι → β → β} {I : State → Prop} (s : State) (keeps : ∀ i t, I t → I (g i t))
    (other : ∀ i j t, I t → j ≠ i → item (g i t) j = item t j)
    (own : ∀ i t, I t → item t i = item s i → read (g i t) = ψ i (read t)) (l : List ι) (nodup : l.Nodup) :
    ∀ t, I t → (∀ i ∈ l, item t i = item s i) →
      read (l.foldl (fun t i => g i t) t) = l.foldl (fun b i => ψ i b) (read t) := by
  induction l with
  | nil => intro t _ _; rfl
  | cons i l ih =>
    intro t h same
    obtain ⟨hi, hl⟩ := List.nodup_cons.mp nodup
    have rest : ∀ j ∈ l, item (g i t) j = item s j := fun j hj =>
      (other i j t h fun e => hi (e ▸ hj)).trans (same j (List.mem_cons_of_mem i hj))
    rw [List.foldl_cons, List.foldl_cons, ih hl _ (keeps i t h) rest, own i t h (same i List.mem_cons_self)]

variable (s : State)

/-! ### Marks, by slot (R162) -/

/-- A slot after a mark of district `d`. -/
def Slot.marked (kinds : List Mark) (d : DistrictId) (x : Slot) : Slot :=
  if subscribes x kinds then { x with changedDistricts := addItem x.changedDistricts d.val } else x

theorem markDistrict_slot (ks : List Mark) (d : DistrictId) (n : SlotId) :
    (markDistrict ks d s).slot n = (s.slot n).map (Slot.marked ks d) :=
  forSlots_read (n := n) (read := fun t => t.slot n) (I := fun _ => True) (φ := Option.map (Slot.marked ks d))
    (fun _ _ _ => trivial) (fun t _ => by simp [State.modSlot]; rfl)
    (fun e he t _ => by simp [State.modSlot, State.setSlot_slot, he]) trivial

theorem markFeed_slot (f : FeedId) (n : SlotId) : (markFeed f s).slot n = (s.slot n).map (fun x =>
    if x.feedEnable then { x with changedFeeds := addItem x.changedFeeds f.val } else x) :=
  forSlots_read (n := n) (read := fun t => t.slot n) (I := fun _ => True)
    (φ := Option.map (fun x => if x.feedEnable then { x with changedFeeds := addItem x.changedFeeds f.val } else x))
    (fun _ _ _ => trivial) (fun t _ => by simp [State.modSlot])
    (fun e he t _ => by simp [State.modSlot, State.setSlot_slot, he]) trivial

theorem foldl_marked (ds : List DistrictId) (x : Slot) :
    ds.foldl (fun x d => Slot.marked [.trip] d x) x = { x with
      changedDistricts := if x.subscription.getLsbD 0 then
        ds.foldl (fun b d => b ||| BitVec.twoPow 16 d.val) x.changedDistricts else x.changedDistricts } := by
  induction ds generalizing x with
  | nil => simp
  | cons d ds ih =>
    have marked : Slot.marked [.trip] d x = if x.subscription.getLsbD 0 then
        { x with changedDistricts := x.changedDistricts ||| BitVec.twoPow 16 d.val } else x := by
      simp [Slot.marked, subscribes, Mark.bit, addItem]
    rw [List.foldl_cons, ih, marked]
    by_cases h : x.subscription.getLsbD 0 = true
    · simp only [h, if_true, List.foldl_cons]
    · simp only [h, if_false, Bool.false_eq_true]

/-! ### The shed, step by step (R54, R55) -/

/-- A shed episode with members `ms`. -/
def shedOf (ms : List DistrictId) : Episode := { members := ms, kind := .shed, stallFlag := true, waiting := 0#4 }

/-- District `d` becomes a member of feed `f`'s shed episode, with record `r`, marked TRIP (R54, R55). -/
def takeInto (f : FeedId) (ms : List DistrictId) (d : DistrictId) (r : District) : State :=
  markDistrict [.trip] d ((((s.setMonitor d { s.monitor d with window := none, integrator := 0 }).setDistrict d r
    ).setEpisode f (some (shedOf (withMember ms d)))).setTimer d Timer.empty)

theorem joinMerging_eq (f : FeedId) (d : DistrictId) : joinMerging f d s =
    markDistrict [.trip] d (((s.setDistrict d { s.district d with st := .cooling .merging }).setEpisode f
      ((s.episode f).map (fun e => e.addMember d))).setTimer d Timer.empty) := rfl

theorem shedDistrict_other {f : FeedId} {d : DistrictId}
    (h : ¬((s.dcfg d).feed = f ∧ (s.district d).st = .live)) : shedDistrict f d s = s := by
  simp only [shedDistrict, Bool.and_eq_true, beq_iff_eq, if_neg h]

theorem shedDistrict_live {f : FeedId} {d : DistrictId} {ms : List DistrictId} (he : s.episode f = some (shedOf ms))
    (h : (s.dcfg d).feed = f ∧ (s.district d).st = .live) : shedDistrict f d s =
      takeInto s f ms d
        { s.district d with st := .cooling .merging, probation := false, polarity := polarityBefore s d } := by
  simp only [shedDistrict, Bool.and_eq_true, beq_iff_eq, if_pos h, joinMerging_eq, endProbation, abandonWindow_eq,
    clearTimer_eq, State.modDistrict, takeInto]
  cases (s.district d).probation <;> simp [he, Episode.addMember, shedOf]

theorem shedProbe_free {f : FeedId} {c : ChannelId} (h : ∀ p, s.channel c = some p → p.feed ≠ f) :
    shedProbe f c s = s := by
  unfold shedProbe
  split
  · next p hc => simp [h p hc]
  · rfl

theorem shedProbe_full {f : FeedId} {c : ChannelId} {p : Probe} {ms : List DistrictId}
    (he : s.episode f = some (shedOf ms)) (hc : s.channel c = some p) (hf : p.feed = f) (hk : p.kind = .full) :
    shedProbe f c s = (takeInto s f ms p.district
      { s.district p.district with st := .cooling .merging, polarity := polarityBefore s p.district }).setChannel c
        none := by
  subst hf
  simp only [shedProbe, abandonProbe, hc, hk, joinMerging_eq, endProbe_channel s hc, takeInto]
  simp [he, Episode.addMember, shedOf]

/-- A district once its look has ended (R55). -/
def District.lookless (r : District) : District :=
  match r.st with
  | .locked cause _ => { r with st := .locked cause .noLook }
  | _ => r

theorem District.lookless_locked {r : District} {cause : LockCause} {k : LookStatus} (h : r.st = .locked cause k) :
    r.lookless = { r with st := .locked cause .noLook } := by
  simp [District.lookless, h]

theorem setLook_eq (d : DistrictId) : setLook d .noLook s = s.setDistrict d (s.district d).lookless := by
  unfold setLook District.lookless
  cases h : (s.district d).st <;> simp [setSt, State.modDistrict]

theorem shedProbe_look {f : FeedId} {c : ChannelId} {p : Probe} {ms : List DistrictId}
    (he : s.episode f = some (shedOf ms)) (hc : s.channel c = some p) (hf : p.feed = f) (hk : p.kind = .look) :
    shedProbe f c s = ((s.setMonitor p.district { s.monitor p.district with window := none, integrator := 0 }
      ).setDistrict p.district ({ s.district p.district with polarity := polarityBefore s p.district } : District).lookless
        ).setChannel c none := by
  subst hf
  have emptied : (s.episode p.feed).map (fun x => { x with waiting := x.waiting &&& ~~~(BitVec.twoPow 4 c.val) }) =
      s.episode p.feed := by simp [he, shedOf]
  simp only [shedProbe, abandonProbe, hc, hk, setLook_eq, endProbe_channel s hc, emptied, State.setEpisode_own]
  simp

/-! ### What the shed's walks keep -/

section
variable (f : FeedId) (ms : List DistrictId) (d : DistrictId) (r : District)

@[simp] theorem takeInto_channel (c : ChannelId) : (takeInto s f ms d r).channel c = s.channel c := by simp [takeInto]
@[simp] theorem takeInto_episode : (takeInto s f ms d r).episode f = some (shedOf (withMember ms d)) := by
  simp [takeInto]
@[simp] theorem takeInto_slot (n : SlotId) :
    (takeInto s f ms d r).slot n = (s.slot n).map (Slot.marked [.trip] d) := by
  rw [takeInto, markDistrict_slot]
  rfl
end

/-- Between the opening of feed `f`'s shed episode in state `s` and the end of its shed: the shed episode is open,
channels have only freed, and only the records of the shed differ. -/
structure ShedWalk (s : State) (f : FeedId) (t : State) : Prop where
  rest : { t with episodes := s.episodes, channels := s.channels, timers := s.timers, districts := s.districts,
                  monitors := s.monitors, slots := s.slots } = s
  opened : ∃ ms, t.episode f = some (shedOf ms)
  others : ∀ g, g ≠ f → t.episode g = s.episode g
  channels : ∀ c p, t.channel c = some p → s.channel c = some p

variable {s} {t : State} {f : FeedId}

theorem ShedWalk.dcfg (h : ShedWalk s f t) (d : DistrictId) : t.dcfg d = s.dcfg d := by
  have cfg := congrArg State.cfg h.rest
  exact congrArg (fun c : Profile => c.districts[d]) cfg

theorem ShedWalk.feed (h : ShedWalk s f t) (g : FeedId) : t.feed g = s.feed g := by
  have feeds := congrArg State.feeds h.rest
  exact congrArg (fun v : Vector Feed 4 => v[g]) feeds

theorem ShedWalk.takeInto (h : ShedWalk s f t) (ms : List DistrictId) (d : DistrictId) (r : District) :
    ShedWalk s f (takeInto t f ms d r) where
  rest := by
    obtain ⟨v, marked⟩ := markDistrict_same [.trip] d ((((t.setMonitor d
      { t.monitor d with window := none, integrator := 0 }
      ).setDistrict d r).setEpisode f (some (shedOf (withMember ms d)))).setTimer d Timer.empty)
    rw [Machine.takeInto, marked]
    exact h.rest
  opened := ⟨_, takeInto_episode t f ms d r⟩
  others g hg := by simp [Machine.takeInto, State.setEpisode_episode, Ne.symm hg, h.others g hg]
  channels c p hc := h.channels c p (by simpa using hc)

theorem ShedWalk.freed (h : ShedWalk s f t) (c : ChannelId) : ShedWalk s f (t.setChannel c none) where
  rest := h.rest
  opened := h.opened
  others := h.others
  channels b p hb := by
    rw [State.setChannel_channel] at hb
    split at hb
    · cases hb
    · exact h.channels b p hb

theorem ShedWalk.own (h : ShedWalk s f t) (d : DistrictId) (m : Monitor) (r : District) :
    ShedWalk s f ((t.setMonitor d m).setDistrict d r) := ⟨h.rest, h.opened, h.others, h.channels⟩

/-- Everything a step of the shed over the districts can do. -/
theorem shedDistrict_cases (h : ShedWalk s f t) (d : DistrictId) :
    (¬((s.dcfg d).feed = f ∧ (t.district d).st = .live) ∧ shedDistrict f d t = t) ∨
    ((s.dcfg d).feed = f ∧ (t.district d).st = .live) ∧ ∃ ms, t.episode f = some (shedOf ms) ∧
      shedDistrict f d t = takeInto t f ms d
        { t.district d with st := .cooling .merging, probation := false, polarity := polarityBefore t d } := by
  obtain ⟨ms, he⟩ := h.opened
  by_cases hd : (s.dcfg d).feed = f ∧ (t.district d).st = .live
  · exact .inr ⟨hd, ms, he, shedDistrict_live t he (by rwa [h.dcfg])⟩
  · exact .inl ⟨hd, shedDistrict_other t (by rwa [h.dcfg])⟩

/-- Everything a step of the shed over the channels can do. -/
theorem shedProbe_cases (h : ShedWalk s f t) (c : ChannelId) :
    ((∀ p, t.channel c = some p → p.feed ≠ f) ∧ shedProbe f c t = t) ∨
    ∃ p ms, t.channel c = some p ∧ p.feed = f ∧ t.episode f = some (shedOf ms) ∧
      ((p.kind = .full ∧ shedProbe f c t = (takeInto t f ms p.district
        { t.district p.district with st := .cooling .merging, polarity := polarityBefore t p.district }
          ).setChannel c none) ∨
      (p.kind = .look ∧ shedProbe f c t =
        ((t.setMonitor p.district { t.monitor p.district with window := none, integrator := 0 }).setDistrict p.district
          ({ t.district p.district with polarity := polarityBefore t p.district } : District).lookless
            ).setChannel c none)) := by
  obtain ⟨ms, he⟩ := h.opened
  by_cases hc : ∃ p, t.channel c = some p ∧ p.feed = f
  · obtain ⟨p, hp, hf⟩ := hc
    refine .inr ⟨p, ms, hp, hf, he, ?_⟩
    cases hk : p.kind with
    | full => exact .inl ⟨rfl, shedProbe_full t he hp hf hk⟩
    | look => exact .inr ⟨rfl, shedProbe_look t he hp hf hk⟩
  · have free : ∀ p, t.channel c = some p → p.feed ≠ f := fun p hp hf => hc ⟨p, hp, hf⟩
    exact .inl ⟨free, shedProbe_free t free⟩

theorem ShedWalk.shedDistrict (h : ShedWalk s f t) (d : DistrictId) : ShedWalk s f (shedDistrict f d t) := by
  obtain ⟨-, e⟩ | ⟨-, ms, -, e⟩ := shedDistrict_cases h d
  · rwa [e]
  · rw [e]
    exact h.takeInto ms d _

theorem ShedWalk.shedProbe (h : ShedWalk s f t) (c : ChannelId) : ShedWalk s f (shedProbe f c t) := by
  obtain ⟨-, e⟩ | ⟨p, ms, -, -, -, ⟨-, e⟩ | ⟨-, e⟩⟩ := shedProbe_cases h c
  · rwa [e]
  · rw [e]
    exact (h.takeInto ms p.district _).freed c
  · rw [e]
    exact (h.own p.district _ _).freed c

theorem ShedWalk.districts (h : ShedWalk s f t) : ShedWalk s f (forDistricts (Machine.shedDistrict f) t) :=
  forDistricts_keeps (fun d _ h => h.shedDistrict d) h

theorem ShedWalk.probes (h : ShedWalk s f t) : ShedWalk s f (forChannels (Machine.shedProbe f) t) :=
  forChannels_keeps (fun c _ h => h.shedProbe c) h

/-! ### The order of the members and the marks of the shed (R54, R55, R61) -/

theorem foldl_addMember (ds : List DistrictId) : ∀ ms, ds.foldl (fun e d => e.map (fun e => Episode.addMember e d))
    (some (shedOf ms)) = some (shedOf (ds.foldl withMember ms)) := by
  induction ds with
  | nil => exact fun ms => rfl
  | cons d ds ih => exact fun ms => ih (withMember ms d)

theorem foldl_map_marked (ds : List DistrictId) : ∀ x : Option Slot,
    ds.foldl (fun x d => x.map (Slot.marked [.trip] d)) x =
      x.map (fun x => ds.foldl (fun x d => Slot.marked [.trip] d x) x) := by
  induction ds with
  | nil => intro x; simp
  | cons d ds ih => intro x; rw [List.foldl_cons, ih]; cases x <;> rfl

/-- The LIVE districts of feed `f`, in ascending number (R54). -/
def liveOf (s : State) (f : FeedId) : List DistrictId :=
  allDistricts.filter (fun d => (s.dcfg d).feed == f && (s.district d).st == .live)

/-- The district of a FULL probe of feed `f` in channel `c` (R55). -/
def fullIn (s : State) (f : FeedId) (c : ChannelId) : Option DistrictId :=
  match s.channel c with
  | some p => if p.feed = f ∧ p.kind = .full then some p.district else none
  | none => none

/-- What the walk over the districts makes of a read that changes with each district taken. -/
theorem shedDistricts_read {β : Type} {read : State → β} {act : DistrictId → β → β}
    (taken : ∀ t ms d r, t.episode f = some (shedOf ms) → read (takeInto t f ms d r) = act d (read t))
    (h : ShedWalk s f t) (same : ∀ d, t.district d = s.district d) :
    read (forDistricts (shedDistrict f) t) = (liveOf s f).foldl (fun b d => act d b) (read t) := by
  rw [liveOf, List.foldl_filter]
  refine foldl_own (item := State.district) (read := read) (I := ShedWalk s f)
    (ψ := fun d b => if ((s.dcfg d).feed == f && (s.district d).st == .live) = true then act d b else b) s
    (fun d t h => h.shedDistrict d) ?_ ?_ allDistricts (by decide) t h (fun d _ => same d)
  · intro d e t h ne
    obtain ⟨-, step⟩ | ⟨-, ms, -, step⟩ := shedDistrict_cases h d
    · rw [step]
    · simp [step, takeInto, State.setDistrict_district, Ne.symm ne]
  · intro d t h own
    simp only [Bool.and_eq_true, beq_iff_eq, ← own]
    obtain ⟨no, step⟩ | ⟨yes, ms, he, step⟩ := shedDistrict_cases h d
    · rw [step, if_neg no]
    · rw [step, if_pos yes, taken t ms d _ he]

/-- What the walk over the channels makes of a read that changes with each district taken. -/
theorem shedProbes_read {β : Type} {read : State → β} {act : DistrictId → β → β}
    (taken : ∀ t ms d r, t.episode f = some (shedOf ms) → read (takeInto t f ms d r) = act d (read t))
    (freed : ∀ t c, read (t.setChannel c none) = read t)
    (looked : ∀ t d m r, read ((t.setMonitor d m).setDistrict d r) = read t)
    (h : ShedWalk s f t) (same : ∀ c, t.channel c = s.channel c) :
    read (forChannels (shedProbe f) t) =
      (allChannels.filterMap (fullIn s f)).foldl (fun b d => act d b) (read t) := by
  have order (b : β) : (allChannels.filterMap (fullIn s f)).foldl (fun b d => act d b) b =
      allChannels.foldl (fun b c => (fullIn s f c).elim b (fun d => act d b)) b := by
    rw [List.foldl_filterMap]
    congr 1
    funext b c
    cases fullIn s f c <;> rfl
  rw [order]
  refine foldl_own (item := State.channel) (read := read) (I := ShedWalk s f)
    (ψ := fun c b => (fullIn s f c).elim b (fun d => act d b)) s
    (fun c t h => h.shedProbe c) ?_ ?_ allChannels (by decide) t h (fun c _ => same c)
  · intro b c t h ne
    obtain ⟨-, step⟩ | ⟨p, ms, -, -, -, ⟨-, step⟩ | ⟨-, step⟩⟩ := shedProbe_cases h b <;>
      simp [step, State.setChannel_channel, Ne.symm ne]
  · intro c t h own
    obtain ⟨free, step⟩ | ⟨p, ms, hp, hf, he, ⟨hk, step⟩ | ⟨hk, step⟩⟩ := shedProbe_cases h c
    · have none_taken : fullIn s f c = none := by
        unfold fullIn
        rw [← own]
        cases hc : t.channel c with
        | none => rfl
        | some p => simp [free p hc]
      rw [step, none_taken, Option.elim_none]
    · have one_taken : fullIn s f c = some p.district := by simp [fullIn, ← own, hp, hf, hk]
      rw [step, one_taken, freed, taken t ms _ _ he, Option.elim_some]
    · have none_taken : fullIn s f c = none := by simp [fullIn, ← own, hp, hk]
      rw [step, none_taken, freed, looked, Option.elim_none]

/-! ### What the shed makes of one district -/

/-- The records that the shed changes of one district. -/
def ownOf (t : State) (d : DistrictId) : District × Monitor × Timer := (t.district d, t.monitor d, t.timer d)

/-- The polarity of record `r` once the swap window of monitor `m` is given up. -/
def polarityWith (m : Monitor) (r : District) : Polarity :=
  match m.window with
  | some w => w.before
  | none => r.polarity

theorem polarityBefore_eq (t : State) (d : DistrictId) :
    polarityBefore t d = polarityWith (t.monitor d) (t.district d) := rfl

/-- The records of a LIVE district that the shed takes (R54). -/
def liveTaken (x : District × Monitor × Timer) : District × Monitor × Timer :=
  ({ x.1 with st := .cooling .merging, probation := false, polarity := polarityWith x.2.1 x.1 },
    { x.2.1 with window := none, integrator := 0 }, Timer.empty)

/-- The records of a district whose probe the shed ends (R55). -/
def probeTaken (kind : EntryKind) (x : District × Monitor × Timer) : District × Monitor × Timer :=
  match kind with
  | .full => ({ x.1 with st := .cooling .merging, polarity := polarityWith x.2.1 x.1 },
      { x.2.1 with window := none, integrator := 0 }, Timer.empty)
  | .look => (({ x.1 with polarity := polarityWith x.2.1 x.1 } : District).lookless,
      { x.2.1 with window := none, integrator := 0 }, x.2.2)

theorem ownOf_setChannel (t : State) (c : ChannelId) (x : Option Probe) (d : DistrictId) :
    ownOf (t.setChannel c x) d = ownOf t d := rfl

theorem ownOf_takeInto (t : State) (f : FeedId) (ms : List DistrictId) (d e : DistrictId) (r : District) :
    ownOf (takeInto t f ms d r) e = if d = e then
      (r, { t.monitor d with window := none, integrator := 0 }, Timer.empty) else ownOf t e := by
  simp only [ownOf, takeInto]
  by_cases h : d = e
  · subst h; simp
  · simp [h, State.setDistrict_district, State.setMonitor_monitor, State.setTimer_timer]

theorem shedDistricts_own (h : ShedWalk s f t) (d : DistrictId) :
    ownOf (forDistricts (shedDistrict f) t) d =
      if (s.dcfg d).feed = f ∧ (t.district d).st = .live then liveTaken (ownOf t d) else ownOf t d := by
  refine forDistricts_read (d := d) (read := fun t => ownOf t d) (I := ShedWalk s f)
    (φ := fun x => if (s.dcfg d).feed = f ∧ x.1.st = .live then liveTaken x else x)
    (fun e t h => h.shedDistrict e) ?_ ?_ h
  · intro t h
    obtain ⟨no, step⟩ | ⟨yes, ms, -, step⟩ := shedDistrict_cases h d
    · rw [step]
      exact (if_neg no).symm
    · rw [step, ownOf_takeInto, if_pos rfl]
      exact (if_pos yes).symm
  · intro e ne t h
    obtain ⟨-, step⟩ | ⟨-, ms, -, step⟩ := shedDistrict_cases h e
    · rw [step]
    · rw [step, ownOf_takeInto, if_neg ne]

/-- A step over a channel that holds no probe of district `d` leaves `d`'s records. -/
theorem shedProbe_own_other (h : ShedWalk s f t) {b : ChannelId} {d : DistrictId}
    (free : ∀ p, t.channel b = some p → p.feed = f → p.district ≠ d) : ownOf (shedProbe f b t) d = ownOf t d := by
  obtain ⟨-, step⟩ | ⟨p, ms, hp, hf, -, ⟨-, step⟩ | ⟨-, step⟩⟩ := shedProbe_cases h b
  · rw [step]
  · rw [step, ownOf_setChannel, ownOf_takeInto, if_neg (free p hp hf)]
  · simp [step, ownOf, State.setDistrict_district, State.setMonitor_monitor, free p hp hf]

theorem shedProbes_own_other (h : ShedWalk s f t) {d : DistrictId}
    (free : ∀ c p, s.channel c = some p → p.feed = f → p.district ≠ d) :
    ownOf (forChannels (shedProbe f) t) d = ownOf t d :=
  forChannels_same (read := fun t => ownOf t d) (I := ShedWalk s f) (fun c _ h => h.shedProbe c)
    (fun c _ h => shedProbe_own_other h (fun p hp => free c p (h.channels c p hp))) h

theorem shedProbes_own (sound : RecoverySound s) (h : ShedWalk s f t) {c : ChannelId} {p : Probe}
    (hc : s.channel c = some p) (ht : t.channel c = some p) (hf : p.feed = f) :
    ownOf (forChannels (shedProbe f) t) p.district = probeTaken p.kind (ownOf t p.district) := by
  have walk := forChannels_read (c := c) (g := shedProbe f) (read := fun t => (t.channel c, ownOf t p.district))
    (I := ShedWalk s f) (φ := fun x => match x.1 with
      | some _ => (none, probeTaken p.kind x.2)
      | none => x)
    (fun b t h => h.shedProbe b) ?_ ?_ h
  · rw [ht] at walk
    exact congrArg Prod.snd walk
  · intro t h
    dsimp only
    obtain ⟨free, step⟩ | ⟨q, ms, hq, hf, -, ends⟩ := shedProbe_cases h c
    · cases hc' : t.channel c with
      | none => rw [step, hc']
      | some q =>
        cases hc.symm.trans (h.channels c q hc')
        exact absurd hf (free p hc')
    · cases hc.symm.trans (h.channels c q hq)
      rw [hq]
      obtain ⟨hk, step⟩ | ⟨hk, step⟩ := ends
      · rw [step, hk, State.setChannel_channel_self, ownOf_setChannel, ownOf_takeInto, if_pos rfl]
        rfl
      · rw [step, hk, State.setChannel_channel_self]
        simp [ownOf, probeTaken, polarityBefore_eq]
  · intro b ne t h
    have other : (shedProbe f b t).channel c = t.channel c := by
      obtain ⟨-, step⟩ | ⟨q, ms, -, -, -, ⟨-, step⟩ | ⟨-, step⟩⟩ := shedProbe_cases h b <;>
        simp [step, State.setChannel_channel, ne]
    have own := shedProbe_own_other h (b := b) (d := p.district) (fun q hq _ same =>
      ne (sound.channel b c q p (h.channels b q hq) hc same))
    rw [other, own]

theorem shedDistricts_channel (h : ShedWalk s f t) (c : ChannelId) :
    (forDistricts (shedDistrict f) t).channel c = t.channel c :=
  forDistricts_same (read := fun t => t.channel c) (I := ShedWalk s f) (fun d _ h => h.shedDistrict d) (fun d t h => by
    obtain ⟨-, step⟩ | ⟨-, ms, -, step⟩ := shedDistrict_cases h d <;> simp [step]) h

theorem shedProbes_channel (h : ShedWalk s f t) (c : ChannelId) :
    (forChannels (shedProbe f) t).channel c = (t.channel c).filter (fun p => p.feed ≠ f) := by
  refine forChannels_read (c := c) (read := fun t => t.channel c) (I := ShedWalk s f)
    (φ := Option.filter (fun p => p.feed ≠ f)) (fun b _ h => h.shedProbe b) ?_ ?_ h
  · intro t h
    obtain ⟨free, step⟩ | ⟨p, ms, hp, hf, -, ⟨-, step⟩ | ⟨-, step⟩⟩ := shedProbe_cases h c
    · cases hc : t.channel c with
      | none => rw [step, hc]; rfl
      | some p => simp [step, hc, free p hc, Option.filter_some]
    · simp [step, hp, hf, Option.filter_some]
    · simp [step, hp, hf, Option.filter_some]
  · intro b ne t h
    obtain ⟨-, step⟩ | ⟨p, ms, -, -, -, ⟨-, step⟩ | ⟨-, step⟩⟩ := shedProbe_cases h b <;>
      simp [step, State.setChannel_channel, ne]

/-! ### The state after the walks of a shed -/

/-- The members that an open episode brings into a shed episode (R67). -/
def foldedMembers (s : State) (f : FeedId) : List DistrictId :=
  match s.episode f with
  | some e => e.members
  | none => []

/-- The districts that the shed of feed `f` takes, in the order of the rule (R54, R55). -/
def shedTaken (s : State) (f : FeedId) : List DistrictId := liveOf s f ++ allChannels.filterMap (fullIn s f)

/-- The state once the shed of feed `f` has taken its districts and its probes. -/
def shedWalked (s : State) (f : FeedId) : State :=
  forChannels (shedProbe f) (forDistricts (shedDistrict f) (s.setEpisode f (some (shedOf (foldedMembers s f)))))

/-- The members of the shed episode, in the order of the rule (R54, R55, R61). -/
def shedMembers (s : State) (f : FeedId) : List DistrictId :=
  (shedTaken s f).foldl withMember (foldedMembers s f)

theorem shedWalk_opened (s : State) (f : FeedId) :
    ShedWalk s f (s.setEpisode f (some (shedOf (foldedMembers s f)))) where
  rest := rfl
  opened := ⟨_, State.setEpisode_episode_self _ _ _⟩
  others _ hg := State.setEpisode_episode_ne s hg _
  channels _ _ h := h

theorem shedWalk_walked (s : State) (f : FeedId) : ShedWalk s f (shedWalked s f) :=
  (shedWalk_opened s f).districts.probes

/-- What the shed makes of a read that changes with each district taken, and with nothing else. -/
theorem shedWalked_read {β : Type} {read : State → β} {act : DistrictId → β → β}
    (taken : ∀ t ms d r, t.episode f = some (shedOf ms) → read (takeInto t f ms d r) = act d (read t))
    (freed : ∀ t c, read (t.setChannel c none) = read t)
    (looked : ∀ t d m r, read ((t.setMonitor d m).setDistrict d r) = read t) :
    read (shedWalked s f) = (shedTaken s f).foldl (fun b d => act d b)
      (read (s.setEpisode f (some (shedOf (foldedMembers s f))))) := by
  have opened := shedWalk_opened s f
  rw [shedWalked, shedProbes_read taken freed looked opened.districts (shedDistricts_channel opened),
    shedDistricts_read taken opened (fun d => rfl), shedTaken, List.foldl_append]

theorem shedWalked_episode (s : State) (f : FeedId) :
    (shedWalked s f).episode f = some (shedOf (shedMembers s f)) := by
  rw [shedWalked_read (read := fun t => t.episode f) (act := fun d e => e.map (fun e => e.addMember d))
    (fun t ms d r he => by simp [he, Episode.addMember, shedOf]) (fun _ _ => rfl) (fun _ _ _ _ => rfl),
    State.setEpisode_episode_self, foldl_addMember]
  rfl

theorem shedWalked_slot (s : State) (f : FeedId) (n : SlotId) : (shedWalked s f).slot n = (s.slot n).map (fun x =>
    { x with changedDistricts := if x.subscription.getLsbD 0 then
        (shedTaken s f).foldl (fun b d => b ||| BitVec.twoPow 16 d.val) x.changedDistricts
        else x.changedDistricts }) := by
  rw [shedWalked_read (read := fun t => t.slot n) (act := fun d x => x.map (Slot.marked [.trip] d))
    (fun t ms d r _ => takeInto_slot t f ms d r n) (fun _ _ => rfl) (fun _ _ _ _ => rfl), foldl_map_marked]
  simp only [foldl_marked, State.setEpisode_slot]

theorem shedWalked_channel (s : State) (f : FeedId) (c : ChannelId) :
    (shedWalked s f).channel c = (s.channel c).filter (fun p => p.feed ≠ f) := by
  have opened := shedWalk_opened s f
  rw [shedWalked, shedProbes_channel opened.districts, shedDistricts_channel opened, State.setEpisode_channel]

theorem mem_liveOf {d : DistrictId} : d ∈ liveOf s f ↔ (s.dcfg d).feed = f ∧ (s.district d).st = .live := by
  simp [liveOf, mem_allDistricts]

/-- The district of a look of feed `f` in channel `c` (R55). -/
def lookIn (s : State) (f : FeedId) (c : ChannelId) : Option DistrictId :=
  match s.channel c with
  | some p => if p.feed = f ∧ p.kind = .look then some p.district else none
  | none => none

theorem mem_fulls {d : DistrictId} : d ∈ allChannels.filterMap (fullIn s f) ↔
    ∃ c p, s.channel c = some p ∧ p.feed = f ∧ p.kind = .full ∧ p.district = d := by
  rw [List.mem_filterMap]
  refine exists_congr fun c => ?_
  cases hc : s.channel c <;> simp [fullIn, hc, mem_allChannels, and_assoc]

theorem mem_looks {d : DistrictId} : d ∈ allChannels.filterMap (lookIn s f) ↔
    ∃ c p, s.channel c = some p ∧ p.feed = f ∧ p.kind = .look ∧ p.district = d := by
  rw [List.mem_filterMap]
  refine exists_congr fun c => ?_
  cases hc : s.channel c <;> simp [lookIn, hc, mem_allChannels, and_assoc]

/-- A LIVE district of the feed is in no channel, and only the walk over the districts takes it. -/
theorem shedWalked_own_live (sound : RecoverySound s) {d : DistrictId} (live : d ∈ liveOf s f) :
    ownOf (shedWalked s f) d = liveTaken (ownOf s d) := by
  have opened := shedWalk_opened s f
  rw [shedWalked, shedProbes_own_other opened.districts, shedDistricts_own opened, if_pos]
  · rfl
  · exact mem_liveOf.mp live
  · rintro c p hc - rfl
    exact sound.not_live hc (mem_liveOf.mp live).2

theorem shedWalked_own_probe (sound : RecoverySound s) {c : ChannelId} {p : Probe} (hc : s.channel c = some p)
    (hf : p.feed = f) : ownOf (shedWalked s f) p.district = probeTaken p.kind (ownOf s p.district) := by
  have opened := shedWalk_opened s f
  have held := (shedDistricts_channel opened c).trans hc
  rw [shedWalked, shedProbes_own sound opened.districts hc held hf, shedDistricts_own opened, if_neg]
  · rfl
  · exact fun live => sound.not_live hc live.2

theorem shedWalked_own_other {d : DistrictId} (dead : d ∉ liveOf s f)
    (free : ∀ c p, s.channel c = some p → p.feed = f → p.district ≠ d) :
    ownOf (shedWalked s f) d = ownOf s d := by
  have opened := shedWalk_opened s f
  rw [shedWalked, shedProbes_own_other opened.districts free, shedDistricts_own opened, if_neg]
  · rfl
  · exact fun live => dead (mem_liveOf.mpr live)

/-- What the shed makes of each district: taken from LIVE, taken from a FULL probe, its look ended, or left alone. -/
theorem shedWalked_own_cases (sound : RecoverySound s) (f : FeedId) (d : DistrictId) :
    (d ∈ liveOf s f ∧ d ∉ allChannels.filterMap (lookIn s f) ∧ ownOf (shedWalked s f) d = liveTaken (ownOf s d)) ∨
    (d ∉ liveOf s f ∧ d ∈ allChannels.filterMap (fullIn s f) ∧ d ∉ allChannels.filterMap (lookIn s f) ∧
      ownOf (shedWalked s f) d = probeTaken .full (ownOf s d)) ∨
    (d ∉ liveOf s f ∧ d ∉ allChannels.filterMap (fullIn s f) ∧ d ∈ allChannels.filterMap (lookIn s f) ∧
      ownOf (shedWalked s f) d = probeTaken .look (ownOf s d)) ∨
    (d ∉ liveOf s f ∧ d ∉ allChannels.filterMap (fullIn s f) ∧ d ∉ allChannels.filterMap (lookIn s f) ∧
      ownOf (shedWalked s f) d = ownOf s d) := by
  have dead {c p} (hc : s.channel c = some p) : p.district ∉ liveOf s f :=
    fun live => sound.not_live hc (mem_liveOf.mp live).2
  by_cases live : d ∈ liveOf s f
  · refine .inl ⟨live, fun look => ?_, shedWalked_own_live sound live⟩
    obtain ⟨c, p, hc, -, -, rfl⟩ := mem_looks.mp look
    exact dead hc live
  by_cases probed : ∃ c p, s.channel c = some p ∧ p.feed = f ∧ p.district = d
  · obtain ⟨c, p, hc, hf, rfl⟩ := probed
    have only {b q} (hb : s.channel b = some q) (same : q.district = p.district) : q = p := by
      cases sound.channel b c q p hb hc same
      exact Option.some.inj (hb.symm.trans hc)
    have own := shedWalked_own_probe sound hc hf
    cases hk : p.kind with
    | full =>
      refine .inr (.inl ⟨live, mem_fulls.mpr ⟨c, p, hc, hf, hk, rfl⟩, fun look => ?_, hk ▸ own⟩)
      obtain ⟨b, q, hb, -, hq, same⟩ := mem_looks.mp look
      cases (only hb same ▸ hq).symm.trans hk
    | look =>
      refine .inr (.inr (.inl ⟨live, fun full => ?_, mem_looks.mpr ⟨c, p, hc, hf, hk, rfl⟩, hk ▸ own⟩))
      obtain ⟨b, q, hb, -, hq, same⟩ := mem_fulls.mp full
      cases (only hb same ▸ hq).symm.trans hk
  · have free : ∀ c p, s.channel c = some p → p.feed = f → p.district ≠ d :=
      fun c p hc hf hd => probed ⟨c, p, hc, hf, hd⟩
    refine .inr (.inr (.inr ⟨live, fun full => ?_, fun look => ?_, shedWalked_own_other live free⟩))
    · obtain ⟨c, p, hc, hf, -, hd⟩ := mem_fulls.mp full
      exact free c p hc hf hd
    · obtain ⟨c, p, hc, hf, -, hd⟩ := mem_looks.mp look
      exact free c p hc hf hd

/-! ### The shed (R54 to R56) -/

theorem shedFeed_eq (s : State) (f : FeedId) : shedFeed f s = markFeed f (((shedWalked s f).setEpisode f
    (if shedMembers s f = [] then none else some (shedOf (shedMembers s f)))).setFeed f
      { s.feed f with phase := .shed }) := by
  have folded : shedEpisode (s.episode f) = shedOf (foldedMembers s f) := by
    cases he : s.episode f <;> simp [shedEpisode, shedOf, foldedMembers, he]
  have episode := shedWalked_episode s f
  have dropped : dropEmptyEpisode f (shedWalked s f) = (shedWalked s f).setEpisode f
      (if shedMembers s f = [] then none else some (shedOf (shedMembers s f))) := by
    unfold dropEmptyEpisode
    rw [episode]
    by_cases none_taken : shedMembers s f = []
    · simp [none_taken, shedOf]
    · have own : (shedWalked s f).setEpisode f (some (shedOf (shedMembers s f))) = shedWalked s f := by
        rw [← episode, State.setEpisode_own]
      rw [if_neg none_taken, own]
      simp [shedOf, none_taken]
  have walked : shedFeed f s =
      markFeed f ((dropEmptyEpisode f (shedWalked s f)).modFeed f (fun x => { x with phase := .shed })) := by
    rw [shedWalked, ← folded]
    rfl
  rw [walked, dropped, State.modFeed, State.setEpisode_feed, (shedWalk_walked s f).feed]

theorem shedFeed_own (s : State) (f : FeedId) (d : DistrictId) :
    ownOf (shedFeed f s) d = ownOf (shedWalked s f) d := by
  simp [shedFeed_eq, ownOf]

theorem shedFeed_rest (s : State) (f : FeedId) : { shedFeed f s with
    episodes := s.episodes, feeds := s.feeds, channels := s.channels, timers := s.timers, districts := s.districts,
    monitors := s.monitors, slots := s.slots } = s := by
  obtain ⟨v, marked⟩ := markFeed_same f (((shedWalked s f).setEpisode f
    (if shedMembers s f = [] then none else some (shedOf (shedMembers s f)))).setFeed f
      { s.feed f with phase := .shed })
  have walked := (shedWalk_walked s f).rest
  have feeds := congrArg State.feeds walked
  rw [shedFeed_eq, marked]
  generalize shedWalked s f = t at walked feeds
  change t.feeds = s.feeds at feeds
  show { t with episodes := s.episodes, feeds := s.feeds, channels := s.channels, timers := s.timers,
                districts := s.districts, monitors := s.monitors, slots := s.slots } = s
  rw [← feeds]
  exact walked

end Sys2Proof.Machine
open Sys2Proof Sys2Proof.Machine
/-- Settles O55: each district is taken from LIVE, taken from a FULL probe, has its look ended, or is left alone, and
the walks take them in the order of the rule. -/
theorem shedTakesTheFeed : Obligations.ShedTakesTheFeed := by
  intro s f sound pending
  refine ⟨shedFeed f s, ?_, ?_⟩
  · show Host.Outcome.next (shedExpiry f s) = _
    rw [shedExpiry, if_pos pending]
  intro live probed looked folded members
  obtain ⟨live_eq, full_eq, look_eq, members_eq⟩ : live = liveOf s f ∧ probed = allChannels.filterMap (fullIn s f) ∧
    looked = allChannels.filterMap (lookIn s f) ∧ members = shedMembers s f := ⟨rfl, rfl, rfl, rfl⟩
  clear_value live probed looked folded members
  subst live_eq full_eq look_eq members_eq
  have walk := shedWalk_walked s f
  have cases_of (d : DistrictId) := shedWalked_own_cases sound f d
  simp only [← shedFeed_own] at cases_of
  refine ⟨fun g => ?_, fun g => ?_, fun c => ?_, fun d => ?_, fun d hd => ?_, fun d cause hd hl => ?_, fun d hd => ?_,
    fun d hd => ?_, fun n => ?_, ?_⟩
  · rw [shedFeed_eq]
    by_cases hg : g = f
    · subst hg
      simp only [markFeed_episode, State.setFeed_episode, State.setEpisode_episode_self, if_true]
      rfl
    · simp [State.setEpisode_episode, Ne.symm hg, walk.others g hg, hg]
  · rw [shedFeed_eq]
    by_cases hg : g = f
    · subst hg
      simp
    · simp [State.setFeed_feed, Ne.symm hg, hg, walk.feed]
  · simp only [shedFeed_eq, markFeed_channel, State.setFeed_channel, State.setEpisode_channel, shedWalked_channel]
    cases s.channel c <;> simp [Option.filter_some]
  · show (ownOf (shedFeed f s) d).2.2 = _
    obtain ⟨hl, -, own⟩ | ⟨-, hp, -, own⟩ | ⟨hl, hp, -, own⟩ | ⟨hl, hp, -, own⟩ := cases_of d
    · rw [own, if_pos (List.mem_append_left _ hl)]
      rfl
    · rw [own, if_pos (List.mem_append_right _ hp)]
      rfl
    · rw [own, if_neg (List.not_mem_append hl hp)]
      rfl
    · rw [own, if_neg (List.not_mem_append hl hp)]
      rfl
  · show (ownOf (shedFeed f s) d).1 = _
    obtain ⟨hl, -, own⟩ | ⟨hl, -, -, own⟩ | ⟨hl, hp, -, -⟩ | ⟨hl, hp, -, -⟩ := cases_of d
    · rw [own, if_pos hl]
      rfl
    · rw [own, if_neg hl]
      rfl
    · exact absurd hd (List.not_mem_append hl hp)
    · exact absurd hd (List.not_mem_append hl hp)
  · show (ownOf (shedFeed f s) d).1 = _
    obtain ⟨-, no, -⟩ | ⟨-, -, no, -⟩ | ⟨-, -, -, own⟩ | ⟨-, -, no, -⟩ := cases_of d
    · exact absurd hd no
    · exact absurd hd no
    · rw [own]
      exact District.lookless_locked hl
    · exact absurd hd no
  · have own : ownOf (shedFeed f s) d = ownOf s d := by
      simp only [List.mem_append, not_or] at hd
      obtain ⟨⟨hl, hp⟩, hk⟩ := hd
      obtain ⟨yes, -, -⟩ | ⟨-, yes, -, -⟩ | ⟨-, -, yes, -⟩ | ⟨-, -, -, own⟩ := cases_of d
      · exact absurd yes hl
      · exact absurd yes hp
      · exact absurd yes hk
      · exact own
    exact ⟨congrArg (fun x => x.1) own, congrArg (fun x => x.2.1) own⟩
  · show (ownOf (shedFeed f s) d).2.1 = _
    obtain ⟨-, -, own⟩ | ⟨-, -, -, own⟩ | ⟨-, -, -, own⟩ | ⟨hl, hp, hk, -⟩ := cases_of d
    · rw [own]; rfl
    · rw [own]; rfl
    · rw [own]; rfl
    · exact absurd hd (List.not_mem_append (List.not_mem_append hl hp) hk)
  · rw [shedFeed_eq, markFeed_slot, State.setFeed_slot, State.setEpisode_slot, shedWalked_slot, Option.map_map]
    congr 1
    funext x
    dsimp only [Function.comp]
    split <;> rfl
  · exact shedFeed_rest s f
end

section
/-! The stall assertion (R49 to R51, R66, R138), and its shed at once when the shed delay is 0 (R53). -/

namespace Sys2Proof.Machine

/-! ### What an assertion and a shed do reads neither the feed's configuration nor its own record -/

/-- The state with feed `f`'s configuration and own record replaced. -/
def withFeed (f : FeedId) (c : FeedConfig) (x : Feed) (s : State) : State := (s.setFcfg f c).setFeed f x

variable (s : State) (f : FeedId) (c : FeedConfig) (x : Feed)

theorem withFeed_own : withFeed f (s.fcfg f) x s = s.setFeed f x := by simp [withFeed]

theorem withFeed_setFeed (y : Feed) : (withFeed f c x s).setFeed f y = withFeed f c y s := by simp [withFeed]

@[simp] theorem withFeed_dcfg (d : DistrictId) : (withFeed f c x s).dcfg d = s.dcfg d := by simp [withFeed]

@[simp] theorem withFeed_channel (b : ChannelId) : (withFeed f c x s).channel b = s.channel b := rfl
@[simp] theorem withFeed_queue (g : FeedId) : (withFeed f c x s).queue g = s.queue g := rfl
@[simp] theorem withFeed_mode : (withFeed f c x s).mode = s.mode := rfl
@[simp] theorem withFeed_fcfg_self : (withFeed f c x s).fcfg f = c := by simp [withFeed]
theorem withFeed_feed (g : FeedId) : (withFeed f c x s).feed g = if f = g then x else s.feed g := by
  simp [withFeed, State.setFeed_feed]

theorem forDistricts_withFeed {g : DistrictId → State → State}
    (step : ∀ d t, g d (withFeed f c x t) = withFeed f c x (g d t)) :
    forDistricts g (withFeed f c x s) = withFeed f c x (forDistricts g s) :=
  List.foldl_hom (withFeed f c x) (fun t d => step d t)

theorem forChannels_withFeed {g : ChannelId → State → State}
    (step : ∀ b t, g b (withFeed f c x t) = withFeed f c x (g b t)) :
    forChannels g (withFeed f c x s) = withFeed f c x (forChannels g s) :=
  List.foldl_hom (withFeed f c x) (fun t b => step b t)

theorem abandonWindow_withFeed (d : DistrictId) :
    abandonWindow d (withFeed f c x s) = withFeed f c x (abandonWindow d s) := by
  rw [abandonWindow_eq, abandonWindow_eq]
  rfl

theorem clearLiveIntegrators_withFeed :
    clearLiveIntegrators f (withFeed f c x s) = withFeed f c x (clearLiveIntegrators f s) :=
  forDistricts_withFeed s f c x fun d t => by
    rw [withFeed_dcfg, apply_ite (withFeed f c x)]
    rfl

theorem stallPause_withFeed (b : ChannelId) :
    stallPause f b (withFeed f c x s) = withFeed f c x (stallPause f b s) := by
  unfold stallPause
  rw [withFeed_channel]
  cases s.channel b with
  | none => rfl
  | some p =>
    dsimp only
    rw [abandonWindow_withFeed]
    split
    · split <;> rfl
    · rfl

theorem markDistrict_withFeed (ks : List Mark) (d : DistrictId) :
    markDistrict ks d (withFeed f c x s) = withFeed f c x (markDistrict ks d s) := rfl

theorem markFeed_withFeed : markFeed f (withFeed f c x s) = withFeed f c x (markFeed f s) := rfl

theorem endProbation_withFeed (d : DistrictId) :
    endProbation d (withFeed f c x s) = withFeed f c x (endProbation d s) := by
  unfold endProbation
  rw [apply_ite (withFeed f c x)]
  rfl

theorem joinMerging_withFeed (d : DistrictId) :
    joinMerging f d (withFeed f c x s) = withFeed f c x (joinMerging f d s) := by
  rw [joinMerging_eq, joinMerging_eq, ← markDistrict_withFeed]
  rfl

theorem shedDistrict_withFeed (d : DistrictId) :
    shedDistrict f d (withFeed f c x s) = withFeed f c x (shedDistrict f d s) := by
  unfold shedDistrict
  rw [withFeed_dcfg, abandonWindow_withFeed, endProbation_withFeed, joinMerging_withFeed, apply_ite (withFeed f c x)]
  rfl

theorem setLook_withFeed (d : DistrictId) (k : LookStatus) :
    setLook d k (withFeed f c x s) = withFeed f c x (setLook d k s) := by
  have district : (withFeed f c x s).district d = s.district d := rfl
  unfold setLook
  rw [district]
  split <;> rfl

theorem endProbe_withFeed (b : ChannelId) : endProbe b (withFeed f c x s) = withFeed f c x (endProbe b s) := by
  cases h : s.channel b with
  | none => rw [endProbe_free s h, endProbe_free (withFeed f c x s) h]
  | some p =>
    rw [endProbe_channel s h, endProbe_channel (withFeed f c x s) h]
    rfl

theorem abandonProbe_withFeed (b : ChannelId) :
    abandonProbe f b (withFeed f c x s) = withFeed f c x (abandonProbe f b s) := by
  unfold abandonProbe
  rw [withFeed_channel, endProbe_withFeed]
  cases s.channel b with
  | none => rfl
  | some p =>
    dsimp only
    cases p.kind with
    | full => exact joinMerging_withFeed _ f c x p.district
    | look => exact setLook_withFeed _ f c x p.district .noLook

theorem shedProbe_withFeed (b : ChannelId) :
    shedProbe f b (withFeed f c x s) = withFeed f c x (shedProbe f b s) := by
  unfold shedProbe
  rw [withFeed_channel, abandonProbe_withFeed]
  cases s.channel b with
  | none => rfl
  | some p => exact (apply_ite (withFeed f c x) _ _ _).symm

theorem shedFeed_withFeed :
    shedFeed f (withFeed f c x s) = withFeed f c { x with phase := .shed } (shedFeed f s) := by
  have walked : shedWalked (withFeed f c x s) f = withFeed f c x (shedWalked s f) := by
    unfold shedWalked
    rw [← forChannels_withFeed _ f c x (fun b t => shedProbe_withFeed t f c x b),
      ← forDistricts_withFeed _ f c x (fun d t => shedDistrict_withFeed t f c x d)]
    rfl
  have members : shedMembers (withFeed f c x s) f = shedMembers s f := by
    simp only [shedMembers, shedTaken, liveOf, withFeed_dcfg]
    rfl
  rw [shedFeed_eq, shedFeed_eq, walked, members, withFeed_feed, if_pos rfl]
  generalize (if shedMembers s f = [] then none else some (shedOf (shedMembers s f))) = e
  generalize shedWalked s f = t
  have swap : (withFeed f c x t).setEpisode f e = withFeed f c x (t.setEpisode f e) := rfl
  rw [swap, withFeed_setFeed, ← markFeed_withFeed]
  simp [withFeed]

/-- What an assertion does to the feed's districts, probes and episode, and its mark (R50, R51, R66, R162). -/
def stallTold : State := markFeed f (assertionEffects f s)

theorem stallTold_withFeed : stallTold (withFeed f c x s) f = withFeed f c x (stallTold s f) := by
  rw [stallTold, assertionEffects, clearLiveIntegrators_withFeed,
    forChannels_withFeed _ f c x (fun b t => stallPause_withFeed t f c x b), stallTold, assertionEffects]
  generalize forChannels (stallPause f) (clearLiveIntegrators f s) = t
  rw [← markFeed_withFeed]
  rfl

/-! ### The Arbiter reads of the feed's configuration its budget alone (R101, R102) -/

section
variable {s f c} (budget : c.budget = (s.fcfg f).budget)
include budget

theorem setFcfg_budget (g : FeedId) : ((s.setFcfg f c).fcfg g).budget = (s.fcfg g).budget := by
  rw [State.setFcfg_fcfg]
  split
  · next h => rw [← h, budget]
  · rfl

theorem effectiveWeight_setFcfg (g : FeedId) (e : Entry) :
    effectiveWeight (s.setFcfg f c) g e = effectiveWeight s g e := by
  simp only [effectiveWeight, setFcfg_budget budget, State.setFcfg_dcfg]

theorem admissible_setFcfg (g : FeedId) : admissible (s.setFcfg f c) g = admissible s g := by
  simp only [admissible, effectiveWeight_setFcfg budget, setFcfg_budget budget]
  rfl

theorem grantChannel_setFcfg (g : FeedId) (b : ChannelId) (e : Entry) (rest : List Entry) :
    grantChannel (s.setFcfg f c) g b e rest = (grantChannel s g b e rest).setFcfg f c := by
  have start : startProbe (s.setFcfg f c) g e (effectiveWeight (s.setFcfg f c) g e) =
      startProbe s g e (effectiveWeight s g e) := by
    simp only [startProbe, effectiveWeight_setFcfg budget, State.setFcfg_dcfg]
  rw [grantChannel, start, grantChannel]
  cases e.kind with
  | full => rfl
  | look =>
    simp only [grantedState, setLook, State.setLastGranted_district, State.setChannel_district,
      State.setQueue_district, State.setFcfg_district]
    split <;> rfl

theorem nextGrant_setFcfg : nextGrant (s.setFcfg f c) = (nextGrant s).map (fun t => t.setFcfg f c) := by
  have order : (roundRobin (s.setFcfg f c).lastGranted).find? (admissible (s.setFcfg f c)) =
      (roundRobin s.lastGranted).find? (admissible s) := by
    rw [funext (admissible_setFcfg budget), State.setFcfg_lastGranted]
  have free : freeChannel (s.setFcfg f c) = freeChannel s := rfl
  simp only [nextGrant, order, free, State.setFcfg_queue, grantChannel_setFcfg budget]
  split
  · split <;> rfl
  · rfl

end

theorem nextGrant_fcfg {t : State} (h : nextGrant s = some t) : t.fcfg f = s.fcfg f := by
  obtain ⟨b, g, e, rest, -, -, -, rfl⟩ := nextGrant_some s h
  unfold grantChannel grantedState setLook
  split
  · rfl
  · split <;> rfl

theorem grants_setFcfg (n : Nat) : ∀ s : State, c.budget = (s.fcfg f).budget →
    grants n (s.setFcfg f c) = (grants n s).setFcfg f c := by
  induction n with
  | zero => exact fun _ _ => rfl
  | succ n ih =>
    intro s budget
    unfold grants
    rw [nextGrant_setFcfg budget]
    cases granted : nextGrant s with
    | none => rfl
    | some t => exact ih t (by rw [budget, nextGrant_fcfg s f granted])

/-! ### What the assertion makes of the feed's probes (R51, R138) -/

/-- The records of a district whose probe a stall pauses (R51). -/
def stallTaken (o : District × Monitor × Timer) : District × Monitor × Timer :=
  ({ o.1 with polarity := polarityWith o.2.1 o.1 }, { o.2.1 with window := none, integrator := 0 }, o.2.2)

/-- A probe of the feed, paused by the stall (R51). -/
def Probe.stalled (p : Probe) : Probe := { p with pause := some ⟨.stall, stallResume p⟩, elapsed := 0 }

/-- An open episode after a stall assertion (R51, R66). -/
def Episode.stalled (e : Episode) : Episode := { e with stallFlag := true, waiting := 0#4 }

variable {s f} {t : State} {b : ChannelId} {p : Probe}

/-- The stall pauses the probe `p` of feed `f`. -/
def stallReaches (f : FeedId) (p : Probe) : Prop := p.feed = f ∧ stallPaused p = false

theorem stallPause_other (h : ∀ p, s.channel b = some p → ¬stallReaches f p) : stallPause f b s = s := by
  unfold stallPause
  cases hb : s.channel b with
  | none => rfl
  | some p =>
    have passed := h p hb
    dsimp only
    split
    · next hf =>
      split
      · rfl
      · next paused => exact absurd ⟨by simpa using hf, by unfold stallPaused; split <;> simp_all⟩ passed
    · rfl

theorem stallPause_reached (hb : s.channel b = some p) (h : stallReaches f p) : stallPause f b s =
    (((s.setMonitor p.district { s.monitor p.district with window := none, integrator := 0 }).setDistrict p.district
      { s.district p.district with polarity := polarityBefore s p.district }).setEpisode f
        ((s.episode f).map (fun e => { e with waiting := e.waiting &&& ~~~(BitVec.twoPow 4 b.val) }))).setChannel b
          (some p.stalled) := by
  obtain ⟨hf, running⟩ := h
  unfold stallPause
  rw [hb]
  dsimp only
  rw [if_pos (by simpa using hf)]
  split
  · next paused => simp [stallPaused, paused] at running
  · simp [abandonWindow_eq, stopWaiting, State.modEpisode, removeItem, State.modChannel, hb, Probe.stalled]

/-- What the pauses of an assertion on feed `f`, taken in state `s`, keep. -/
structure StallWalk (s : State) (f : FeedId) (t : State) : Prop where
  rest : { t with channels := s.channels, episodes := s.episodes, monitors := s.monitors,
                  districts := s.districts } = s
  episode : (t.episode f).map Episode.stalled = (s.episode f).map Episode.stalled
  others : ∀ g, g ≠ f → t.episode g = s.episode g
  running : ∀ b p, t.channel b = some p → stallReaches f p → s.channel b = some p

/-- Everything a step of the pauses can do. -/
theorem stallPause_cases (f : FeedId) (b : ChannelId) (t : State) :
    ((∀ p, t.channel b = some p → ¬stallReaches f p) ∧ stallPause f b t = t) ∨
    ∃ p, t.channel b = some p ∧ stallReaches f p ∧ stallPause f b t =
      (((t.setMonitor p.district { t.monitor p.district with window := none, integrator := 0 }).setDistrict p.district
        { t.district p.district with polarity := polarityBefore t p.district }).setEpisode f
          ((t.episode f).map (fun e => { e with waiting := e.waiting &&& ~~~(BitVec.twoPow 4 b.val) }))).setChannel b
            (some p.stalled) := by
  by_cases h : ∃ p, t.channel b = some p ∧ stallReaches f p
  · obtain ⟨p, hb, hp⟩ := h
    exact .inr ⟨p, hb, hp, stallPause_reached hb hp⟩
  · have passed : ∀ p, t.channel b = some p → ¬stallReaches f p := fun p hb hp => h ⟨p, hb, hp⟩
    exact .inl ⟨passed, stallPause_other passed⟩

theorem not_stallReaches_stalled (f : FeedId) (p : Probe) : ¬stallReaches f p.stalled := fun h => by
  simpa [stallPaused, Probe.stalled] using h.2

theorem StallWalk.stallPause (h : StallWalk s f t) (b : ChannelId) : StallWalk s f (stallPause f b t) := by
  obtain ⟨-, step⟩ | ⟨p, hb, hp, step⟩ := stallPause_cases f b t
  · rwa [step]
  · rw [step]
    refine ⟨h.rest, ?_, fun g hg => ?_, fun k q hk hq => ?_⟩
    · rw [State.setChannel_episode, State.setEpisode_episode_self, Option.map_map, ← h.episode]
      rfl
    · simp [State.setEpisode_episode, Ne.symm hg, h.others g hg]
    · rw [State.setChannel_channel] at hk
      split at hk
      · cases hk
        exact absurd hq (not_stallReaches_stalled f p)
      · exact h.running k q hk hq

/-- A step over a channel whose probe the stall does not pause, or pauses for another district. -/
theorem stallPause_own_other {d : DistrictId}
    (free : ∀ p, t.channel b = some p → stallReaches f p → p.district ≠ d) :
    ownOf (stallPause f b t) d = ownOf t d := by
  obtain ⟨-, step⟩ | ⟨p, hb, hp, step⟩ := stallPause_cases f b t
  · rw [step]
  · simp [step, ownOf, State.setDistrict_district, State.setMonitor_monitor, free p hb hp]

theorem stallPauses_own_other (h : StallWalk s f t) {d : DistrictId}
    (free : ∀ c p, s.channel c = some p → stallReaches f p → p.district ≠ d) :
    ownOf (forChannels (stallPause f) t) d = ownOf t d :=
  forChannels_same (read := fun t => ownOf t d) (I := StallWalk s f) (fun c _ h => h.stallPause c)
    (fun c _ h => stallPause_own_other fun p hc hp => free c p (h.running c p hc hp) hp) h

/-- A paused probe's district gives up its swap window and its integrator, once (R39, R51). -/
theorem stallPauses_own (sound : RecoverySound s) (h : StallWalk s f t) (hs : s.channel b = some p)
    (ht : t.channel b = some p) (hp : stallReaches f p) :
    ownOf (forChannels (stallPause f) t) p.district = stallTaken (ownOf t p.district) := by
  classical
  have walk := forChannels_read (c := b) (g := Machine.stallPause f) (read := fun t => (t.channel b, ownOf t p.district))
    (I := StallWalk s f) (φ := fun x => match x.1 with
      | some q => if stallReaches f q then (some q.stalled, stallTaken x.2) else x
      | none => x)
    (fun c t h => h.stallPause c) ?_ ?_ h
  · rw [ht] at walk
    simpa only [if_pos hp] using congrArg Prod.snd walk
  · intro t h
    dsimp only
    obtain ⟨passed, step⟩ | ⟨q, hb, hq, step⟩ := stallPause_cases f b t
    · rw [step]
      cases hb : t.channel b with
      | none => rfl
      | some q => exact (if_neg (passed q hb)).symm
    · cases hs.symm.trans (h.running b q hb hq)
      rw [hb, step]
      dsimp only
      rw [if_pos hp, State.setChannel_channel_self]
      simp [ownOf, stallTaken, polarityBefore_eq]
  · intro c ne t h
    have channel : (Machine.stallPause f c t).channel b = t.channel b := by
      obtain ⟨-, step⟩ | ⟨q, -, -, step⟩ := stallPause_cases f c t <;> simp [step, State.setChannel_channel, ne]
    have own := stallPause_own_other (t := t) (f := f) (b := c) (d := p.district) fun q hc hq same =>
      ne (sound.channel c b q p (h.running c q hc hq) hs same)
    rw [channel, own]

theorem stallPauses_channel (f : FeedId) (t : State) (b : ChannelId) [DecidablePred (stallReaches f)] :
    (forChannels (stallPause f) t).channel b =
      (t.channel b).map (fun p => if stallReaches f p then p.stalled else p) := by
  refine forChannels_read (c := b) (read := fun t => t.channel b) (I := fun _ => True)
    (φ := Option.map (fun p => if stallReaches f p then p.stalled else p)) (fun _ _ _ => trivial) ?_ ?_ trivial
  · intro t _
    obtain ⟨passed, step⟩ | ⟨p, hb, hp, step⟩ := stallPause_cases f b t
    · rw [step]
      cases hb : t.channel b with
      | none => rfl
      | some p => simp [passed p hb]
    · simp [step, hb, hp]
  · intro c ne t _
    obtain ⟨-, step⟩ | ⟨p, -, -, step⟩ := stallPause_cases f c t <;> simp [step, State.setChannel_channel, ne]

theorem stallWalk_cleared (s : State) (f : FeedId) : StallWalk s f (clearLiveIntegrators f s) := by
  obtain ⟨v, h⟩ := clearLiveIntegrators_same s f
  rw [h]
  exact ⟨rfl, rfl, fun _ _ => rfl, fun _ _ hb _ => hb⟩

theorem StallWalk.walked (h : StallWalk s f t) : StallWalk s f (forChannels (Machine.stallPause f) t) :=
  forChannels_keeps (fun c _ h => h.stallPause c) h

end Sys2Proof.Machine
end

section
/-! The state after a stall assertion, record by record, and the assertion with and without a delayed shed (R49 to R53). -/

namespace Sys2Proof.Machine

variable (s : State) (f : FeedId)

/-! ### The effects of an assertion but for the feed's own record (R50, R51, R66) -/

/-- The state once the assertion has reached the districts and the probes of feed `f`. -/
def stallWalked : State := forChannels (stallPause f) (clearLiveIntegrators f s)

theorem stallWalk_walked : StallWalk s f (stallWalked s f) := (stallWalk_cleared s f).walked

theorem StallWalk.slot {s t : State} {f : FeedId} (h : StallWalk s f t) (n : SlotId) : t.slot n = s.slot n := by
  have slots := congrArg State.slots h.rest
  change t.slots = s.slots at slots
  simp only [State.slot, slots]

theorem stallTold_eq :
    stallTold s f = markFeed f ((stallWalked s f).setEpisode f ((s.episode f).map Episode.stalled)) := by
  rw [← (stallWalk_walked s f).episode]
  rfl

theorem stallTold_rest : { stallTold s f with
    channels := s.channels, episodes := s.episodes, monitors := s.monitors, districts := s.districts,
    slots := s.slots } = s := by
  obtain ⟨v, marked⟩ := markFeed_same f ((stallWalked s f).setEpisode f ((s.episode f).map Episode.stalled))
  have walked := (stallWalk_walked s f).rest
  have slots := congrArg State.slots walked
  rw [stallTold_eq, marked]
  generalize stallWalked s f = t at walked slots
  change t.slots = s.slots at slots
  show { t with channels := s.channels, episodes := s.episodes, monitors := s.monitors, districts := s.districts,
                slots := s.slots } = s
  rw [← slots]
  exact walked

theorem stallTold_slot (n : SlotId) : (stallTold s f).slot n = (markFeed f s).slot n := by
  rw [stallTold_eq, markFeed_slot, markFeed_slot, State.setEpisode_slot, (stallWalk_walked s f).slot]

theorem stallTold_episode (g : FeedId) :
    (stallTold s f).episode g = if g = f then (s.episode f).map Episode.stalled else s.episode g := by
  rw [stallTold_eq, markFeed_episode]
  by_cases hg : g = f
  · simp [hg]
  · simp [hg, State.setEpisode_episode, Ne.symm hg, (stallWalk_walked s f).others g hg]

theorem stallTold_channel (b : ChannelId) [DecidablePred (stallReaches f)] : (stallTold s f).channel b =
    (s.channel b).map (fun p => if stallReaches f p then p.stalled else p) := by
  rw [stallTold_eq, markFeed_channel, State.setEpisode_channel, stallWalked, stallPauses_channel,
    clearLiveIntegrators_channel]

theorem stallTold_channel_isSome (b : ChannelId) : ((stallTold s f).channel b).isSome = (s.channel b).isSome := by
  classical
  rw [stallTold_channel, Option.isSome_map]

theorem stallTold_outer : (stallTold s f).feeds = s.feeds ∧ (stallTold s f).queues = s.queues ∧
    (stallTold s f).mode = s.mode ∧ (stallTold s f).cfg = s.cfg := by
  have rest := stallTold_rest s f
  generalize stallTold s f = t at rest
  have feeds := congrArg State.feeds rest
  have queues := congrArg State.queues rest
  have mode := congrArg State.mode rest
  have cfg := congrArg State.cfg rest
  exact ⟨feeds, queues, mode, cfg⟩

theorem stallTold_feed (g : FeedId) : (stallTold s f).feed g = s.feed g := by
  obtain ⟨feeds, -, -, -⟩ := stallTold_outer s f
  simp only [State.feed, feeds]

theorem stallTold_queue (g : FeedId) : (stallTold s f).queue g = s.queue g := by
  obtain ⟨-, queues, -, -⟩ := stallTold_outer s f
  simp only [State.queue, queues]

theorem stallTold_mode : (stallTold s f).mode = s.mode := by
  obtain ⟨-, -, mode, -⟩ := stallTold_outer s f
  exact mode

theorem stallTold_fcfg (g : FeedId) : (stallTold s f).fcfg g = s.fcfg g := by
  obtain ⟨-, -, -, cfg⟩ := stallTold_outer s f
  simp only [State.fcfg, cfg]

theorem stallTold_own (d : DistrictId) : ownOf (stallTold s f) d = ownOf (stallWalked s f) d := by
  simp [stallTold_eq, ownOf]

theorem clearLiveIntegrators_own (d : DistrictId) : ownOf (clearLiveIntegrators f s) d =
    (s.district d, if (s.dcfg d).feed = f ∧ (s.district d).st = .live ∧ (s.monitor d).window = none then
      { s.monitor d with integrator := 0 } else s.monitor d, s.timer d) := by
  rw [← clearLiveIntegrators_monitor]
  obtain ⟨v, h⟩ := clearLiveIntegrators_same s f
  rw [h]
  rfl

variable {s f}

/-- A paused probe's district is not LIVE, so that the pause alone changes its records. -/
theorem stallTold_own_paused (sound : RecoverySound s) {c : ChannelId} {p : Probe} (hc : s.channel c = some p)
    (hp : stallReaches f p) : ownOf (stallTold s f) p.district = stallTaken (ownOf s p.district) := by
  have held := (clearLiveIntegrators_channel s f c).trans hc
  rw [stallTold_own, stallWalked, stallPauses_own sound (stallWalk_cleared s f) hc held hp, clearLiveIntegrators_own,
    if_neg fun ⟨_, live, _⟩ => sound.not_live hc live]
  rfl

theorem stallTold_own_running {d : DistrictId}
    (free : ∀ c p, s.channel c = some p → stallReaches f p → p.district ≠ d) :
    ownOf (stallTold s f) d = ownOf (clearLiveIntegrators f s) d := by
  rw [stallTold_own, stallWalked, stallPauses_own_other (stallWalk_cleared s f) free]

/-! ### The assertion, by its shed delay (R49, R53) -/

/-- The record of feed `f` after an assertion, but for its shed phase (R49). -/
def asserted (s : State) (f : FeedId) : Feed := { s.feed f with stalled := true, filterRun := 0 }

theorem assertStall_setFcfg (s : State) (f : FeedId) (c : FeedConfig) :
    assertStall f (s.setFcfg f c) = if s.mode = .run then
      if c.shedDelay = 0 then withFeed f c { asserted s f with phase := .shed } (shedFeed f (stallTold s f))
      else withFeed f c { asserted s f with phase := .pending (4 * c.shedDelay) } (stallTold s f)
    else withFeed f c (asserted s f) (stallTold s f) := by
  have told : markFeed f (assertionEffects f ((s.setFcfg f c).modFeed f
      (fun x => { x with stalled := true, filterRun := 0 }))) = withFeed f c (asserted s f) (stallTold s f) :=
    stallTold_withFeed s f c (asserted s f)
  have feed : (withFeed f c (asserted s f) (stallTold s f)).feed f = asserted s f := State.setFeed_feed_self _ _ _
  have pending (y : Feed) : (withFeed f c (asserted s f) (stallTold s f)).setFeed f y = withFeed f c y (stallTold s f) :=
    withFeed_setFeed _ _ _ _ _
  simp only [assertStall, told]
  simp only [State.modFeed, feed, pending, shedFeed_withFeed, State.setFcfg_mode, State.setFcfg_fcfg_self, beq_iff_eq]

/-- With no shed at once, the assertion is its effects and the feed's new record. -/
theorem assertStall_delayed (h : s.mode = .run → (s.fcfg f).shedDelay ≠ 0) :
    assertStall f s = (stallTold s f).setFeed f { asserted s f with
      phase := if s.mode = .run then .pending (4 * (s.fcfg f).shedDelay) else (s.feed f).phase } := by
  have fcfg : s.fcfg f = (stallTold s f).fcfg f := (stallTold_fcfg s f f).symm
  have same := assertStall_setFcfg s f (s.fcfg f)
  rw [State.setFcfg_own] at same
  rw [same]
  by_cases run : s.mode = .run
  · rw [if_pos run, if_neg (h run), if_pos run]
    conv_lhs => rw [fcfg]
    rw [withFeed_own, ← fcfg]
  · rw [if_neg run, if_neg run]
    conv_lhs => rw [fcfg]
    rw [withFeed_own]
    rfl

/-- An assertion ends no probe and makes no feed CLEAR: the Arbiter has no look to take (R105). -/
theorem arbitrate_stallTold (s : State) (f : FeedId) (c : FeedConfig) {x : Feed} (hx : x.stalled = true) :
    arbitrate (s.setFcfg f c) (withFeed f c x (stallTold s f)) = withFeed f c x (stallTold s f) := by
  refine arbitrate_quiet (fun k hk => ?_) (fun g => ?_) (fun g hg => ?_) ?_
  · rw [withFeed_channel, stallTold_channel_isSome]
    exact hk
  · rw [withFeed_queue, stallTold_queue, State.setFcfg_queue]
  · rw [withFeed_feed]
    split
    · exact hx
    · rw [stallTold_feed]
      exact hg
  · rw [withFeed_mode, stallTold_mode, State.setFcfg_mode]

/-- The look after the shed sees the same causes from the state before the assertion as from the state after it: the
assertion has freed no channel, changed no queue and made no feed CLEAR (R105). -/
theorem lookCaused_stallTold (s : State) (f : FeedId) (c : FeedConfig) (x : Feed) (u : State)
    (hu : (u.feed f).stalled = true) : lookCaused (withFeed f c x (stallTold s f)) u = lookCaused s u := by
  have cleared (g) : (((withFeed f c x (stallTold s f)).feed g).stalled && !(u.feed g).stalled) =
      ((s.feed g).stalled && !(u.feed g).stalled) := by
    rw [withFeed_feed]
    split
    · next hg => simp [← hg, hu]
    · rw [stallTold_feed]
  simp only [lookCaused, withFeed_channel, withFeed_queue, withFeed_mode, stallTold_channel_isSome, stallTold_queue,
    stallTold_mode, cleared]

/-- A look reads of feed `f`'s configuration its budget alone. -/
theorem arbitrate_setFcfg {b a u : State} {f : FeedId} {c : FeedConfig} (budget : c.budget = (u.fcfg f).budget)
    (same : lookCaused a u = lookCaused b u) : arbitrate b (u.setFcfg f c) = (arbitrate a u).setFcfg f c := by
  have caused : lookCaused b (u.setFcfg f c) = lookCaused a u := same.symm
  unfold arbitrate
  rw [caused, apply_ite (fun t => State.setFcfg t f c), arbiterLook, arbiterLook, grants_setFcfg f c 4 u budget]

/-- With a shed delay of 0, the assertion is that of a delay followed by the shed (R53). -/
theorem assertStall_zero (run : s.mode = .run) (zero : (s.fcfg f).shedDelay = 0) (c : FeedConfig) :
    assertStall f s = (withFeed f c { asserted s f with phase := .shed } (shedFeed f (stallTold s f))).setFcfg f
      (s.fcfg f) := by
  have same := assertStall_setFcfg s f (s.fcfg f)
  rw [State.setFcfg_own, if_pos run, if_pos zero] at same
  rw [same]
  simp [withFeed]

/-- A probe of the feed, running or at a sibling pause, is paused by the stall at the resume point of R138. -/
theorem stalled_eq (f : FeedId) (p : Probe) [Decidable (stallReaches f p)] :
    (if stallReaches f p then p.stalled else p) = if p.feed = f ∧ stallPaused p = false then
      { p with
        pause := some ⟨.stall, match p.pause, p.stage with
          | some ⟨.sibling, .confirm⟩, _ => .precharge p.profile.rampSteps
          | some ⟨.sibling, .ramp next⟩, .ramp _ => .precharge next
          | _, .sense => .sense
          | _, .precharge => .precharge p.entryStep
          | _, .ramp k => .precharge k
          | _, .confirm _ => .precharge p.profile.rampSteps⟩
        elapsed := 0 } else p := by
  by_cases h : stallReaches f p
  · rw [if_pos h, if_pos (show _ ∧ _ from h), Probe.stalled, stallResume]
    obtain hn | ⟨⟨- | -, r⟩, hn⟩ := Option.eq_none_or_eq_some p.pause
    · rw [hn]
      cases p.stage <;> rfl
    · rw [hn]
      cases r <;> cases p.stage <;> rfl
    · simp [stallReaches, stallPaused, hn] at h
  · rw [if_neg h, if_neg (show ¬(_ ∧ _) from h)]

end Sys2Proof.Machine
open Sys2Proof Sys2Proof.Machine
/-- Settles O53: the assertion's effects do not read the feed's configuration or its own record, so an assertion that
sheds at once is one with a delay and then the shed; record by record, each district is paused, quiet or untouched. -/
theorem stallAssertionPausesTheFeed : Obligations.StallAssertionPausesTheFeed := by
  classical
  intro s f sound due
  have step (t : State) (due : assertionDue t f = true) :
      exec (.stallAssertion f) t = .next (arbitrate t (assertStall f t)) := by
    show Host.Outcome.next (stallAssertion f t) = _
    rw [stallAssertion, if_pos due]
  refine ⟨fun run zero => ?_, fun delay => ?_⟩
  · have due' : assertionDue (s.setFcfg f { s.fcfg f with shedDelay := 1 }) f = true := by
      simpa [assertionDue, filterFull] using due
    generalize hc : { s.fcfg f with shedDelay := 1 } = c at due'
    have hd : c.shedDelay = 1 := hc ▸ rfl
    have budget : (s.fcfg f).budget = c.budget := hc ▸ rfl
    clear hc
    refine ⟨withFeed f c { asserted s f with phase := .pending 4 } (stallTold s f),
      arbitrate (withFeed f c { asserted s f with phase := .pending 4 } (stallTold s f))
        (withFeed f c { asserted s f with phase := .shed } (shedFeed f (stallTold s f))), ?_, ?_, ?_⟩
    · rw [step _ due', assertStall_setFcfg, if_pos run, if_neg (by simp [hd]), hd, arbitrate_stallTold]
      rfl
    · show Host.Outcome.next (shedExpiry f _) = _
      rw [shedExpiry, if_pos, shedFeed_withFeed]
      simp [shedPending, stallTold_mode, run, withFeed_feed]
    · rw [step s due, assertStall_zero run zero c, arbitrate_setFcfg]
      · rw [withFeed_fcfg_self, budget]
      · refine lookCaused_stallTold s f c _ _ ?_
        rw [withFeed_feed, if_pos rfl]
        rfl
  · refine ⟨(stallTold s f).setFeed f { asserted s f with
      phase := if s.mode = .run then .pending (4 * (s.fcfg f).shedDelay) else (s.feed f).phase }, ?_, fun g => ?_,
      fun c p hc => ?_, fun c hc => ?_, fun g => ?_, fun d => ?_, fun n => ?_, ?_⟩
    · have quiet := arbitrate_stallTold s f (s.fcfg f) (x := { asserted s f with
        phase := if s.mode = .run then .pending (4 * (s.fcfg f).shedDelay) else (s.feed f).phase }) rfl
      rw [State.setFcfg_own, ← stallTold_fcfg s f f, withFeed_own, stallTold_fcfg] at quiet
      rw [step s due, assertStall_delayed delay, quiet]
    · rw [State.setFeed_feed]
      simp only [stallTold_feed, eq_comm]
      rfl
    · rw [State.setFeed_channel, stallTold_channel, hc, Option.map_some]
      exact congrArg some (stalled_eq f p)
    · rw [State.setFeed_channel, stallTold_channel, hc]
      rfl
    · rw [State.setFeed_episode, stallTold_episode]
      rfl
    · intro paused quiet
      rw [State.setFeed_monitor, State.setFeed_district]
      refine ⟨fun ⟨c, p, hc, hd, hf, hp⟩ => ?_, fun hq => ?_, fun hp hq => ?_⟩
      · subst hd
        have own := stallTold_own_paused sound hc ⟨hf, hp⟩
        exact ⟨congrArg (fun o => o.2.1) own, congrArg (fun o => o.1) own⟩
      · have ⟨_, live, _⟩ := hq
        have own := stallTold_own_running (s := s) (f := f) (d := d) fun c p hc _ hd =>
          sound.not_live hc (hd ▸ live)
        rw [clearLiveIntegrators_own, if_pos hq] at own
        exact ⟨congrArg (fun o => o.2.1) own, congrArg (fun o => o.1) own⟩
      · have own := stallTold_own_running (s := s) (f := f) (d := d) fun c p hc hr hd =>
          hp ⟨c, p, hc, hd, hr.1, hr.2⟩
        rw [clearLiveIntegrators_own, if_neg hq] at own
        exact ⟨congrArg (fun o => o.2.1) own, congrArg (fun o => o.1) own⟩
    · rw [State.setFeed_slot, stallTold_slot]
    · have rest := stallTold_rest s f
      obtain ⟨feeds, -⟩ := stallTold_outer s f
      generalize stallTold s f = t at rest feeds
      show { t with
        feeds := s.feeds, channels := s.channels, episodes := s.episodes, monitors := s.monitors,
        districts := s.districts, slots := s.slots } = s
      rw [← feeds]
      exact rest
end

section
/-! What stands due of no sample and of no tick is not taken, and what a sample of a line counts (R47, R147, R152). -/

namespace Sys2Proof.Machine

variable {s : State}

/-! ### Nothing due, nothing taken (log entry 3) -/

theorem settleFeed_notDue {f : FeedId} (h : filterFull s f = false) : settleFeed f s = s := by
  simp [settleFeed, stallClear, feedDecisionDue, assertionDue, clearDue, h]

theorem settleJoint_notDue {j : JointId} (input : debounceFull s j = false) (settle : settleDue s j = false)
    (docking : dockingDue s j = false) : settleJoint j s = s := by
  simp [settleJoint, jointDecision, settleExpiry, dockingExpiry, inputChange, jointDecisionDue, inputChangeDue, input,
    settle, docking]

theorem timerDue_notDue {t : Timer} (h : t.boundary = false) (p : Purpose) : timerDue t p = false := by
  simp [timerDue, h]

theorem timerExpiry_notDue {d : DistrictId} (h : (s.timer d).boundary = false) : timerExpiry d s = s := by
  have due := timerDue_notDue h
  unfold timerExpiry
  split
  · simp [takeCool, coolDue, due]
  · simp [grantExpiry, grantDue, due]
  · simp [probationExpiry, probationDue, due]
  · simp [takePatrol, patrolDue, due]
  · rfl

theorem jointTimerOver_eq_false {t : Option JointTimer} (h : ∀ x, t = some x → x.ended = false) :
    jointTimerOver t = false := by
  cases t with
  | none => rfl
  | some x => exact h x rfl

/-! ### One sample of a line -/

theorem Feed.take_eq (x : Feed) (shown : Bool) : x.take shown = { x with
    lastShown := shown
    filterRun :=
      if x.decided then (if shown = x.stalled then 0 else x.filterRun + 1)
      else if x.filterRun = 0 ∨ shown = x.lastShown then x.filterRun + 1 else 1 } := by
  simp [Feed.take]

theorem Joint.take_eq (x : Joint) (shown : Bool) : x.take shown = { x with
    lastShown := shown
    filterRun :=
      if x.decided then (if shown = x.input then 0 else x.filterRun + 1)
      else if x.filterRun = 0 ∨ shown = x.lastShown then x.filterRun + 1 else 1
    settle := x.settle.map JointTimer.advance
    docking := x.docking.map JointTimer.advance } := by
  simp [Joint.take]

theorem stallSample_notDue {f : FeedId} (h : filterFull s f = false) (high : Bool) :
    stallSample f high s = s.setFeed f ((s.feed f).take (showsStalled (s.fcfg f) high)) := by
  rw [stallSample, settleFeed_notDue h]
  rfl

theorem jointSample_notDue {j : JointId} (input : debounceFull s j = false) (settle : settleDue s j = false)
    (docking : dockingDue s j = false) (high : Bool) :
    jointSample j high s = s.setJoint j ((s.joint j).take (showsCoupled (s.jcfg j) high)) := by
  rw [jointSample, settleJoint_notDue input settle docking]
  rfl

end Sys2Proof.Machine

open Sys2Proof Sys2Proof.Machine
/-- Settles O52: a filter short of full and timers that have not ended leave nothing due, so the sample is one `take`
of the record. -/
theorem lineSamplesCount : Obligations.LineSamplesCount := by
  intro s f j high
  refine ⟨fun short => ?_, fun short settle docking => ?_⟩
  · have notFull : filterFull s f = false := decide_eq_false (Nat.not_le.mpr short)
    show Host.Outcome.next (stallSample f high s) = _
    rw [stallSample_notDue notFull, Feed.take_eq]
    rfl
  · have notFull : debounceFull s j = false := decide_eq_false (Nat.not_le.mpr short)
    have settling : settleDue s j = false := by rw [settleDue, jointTimerOver_eq_false settle, Bool.and_false]
    have inDock : dockingDue s j = false := by rw [dockingDue, jointTimerOver_eq_false docking, Bool.and_false]
    show Host.Outcome.next (jointSample j high s) = _
    rw [jointSample_notDue notFull settling inDock, Joint.take_eq]
    rfl
end

section
/-! A tick boundary (R77, R80), and a step with no command waiting: one period of 250 µs of the part's own clocks. -/

namespace Sys2Proof.Machine

variable {s : State}

/-! ### The tick boundary -/

/-- Every timer steps (R80). -/
def tickTimers (s : State) : State := forDistricts (fun d t => t.setTimer d (t.timer d).tick) s

theorem tickTimers_timer (s : State) (d : DistrictId) : (tickTimers s).timer d = (s.timer d).tick :=
  forDistricts_read (d := d) (g := fun d t => t.setTimer d (t.timer d).tick) (read := fun t => t.timer d)
    (φ := Timer.tick) (I := fun _ => True)
    (fun _ _ _ => trivial) (fun t _ => by simp)
    (fun e he t _ => by simp [State.setTimer_timer, he]) trivial

theorem tickTimers_eq (s : State) : tickTimers s = { s with timers := Vector.ofFn (fun d => (s.timer d).tick) } := by
  have same : ∃ v, tickTimers s = { s with timers := v } :=
    forDistricts_keeps (P := fun t => ∃ v, t = { s with timers := v }) (fun d t h => by
      obtain ⟨v, rfl⟩ := h
      exact ⟨_, rfl⟩) ⟨s.timers, rfl⟩
  obtain ⟨v, h⟩ := same
  have read := tickTimers_timer s
  rw [h] at read ⊢
  have walk : v = Vector.ofFn (fun d => (s.timer d).tick) := by
    ext1 i hi
    rw [Vector.getElem_ofFn]
    exact read ⟨i, hi⟩
  rw [walk]

theorem tickBoundary_eq (s : State) : tickBoundary s =
    { forDistricts timerExpiry s with
      timers := Vector.ofFn (fun d => ((forDistricts timerExpiry s).timer d).tick), prescaler := 0, quarter := 0 } := by
  have stepped (t : State) : (tickTimers t).setClock 0 0 =
      { t with timers := Vector.ofFn (fun d => (t.timer d).tick), prescaler := 0, quarter := 0 } := by
    rw [tickTimers_eq]
    rfl
  exact stepped (forDistricts timerExpiry s)

theorem timerExpiries_notDue (h : ∀ d, (s.timer d).boundary = false) : forDistricts timerExpiry s = s :=
  forDistricts_keeps (P := fun t => t = s) (fun d t ht => by rw [ht, timerExpiry_notDue (h d)]) rfl

/-! ### What an idle period keeps -/

section
variable {P : State → Prop} {t : State} (hP : Keeps P) (joint : ∀ t j x, P t → P (t.setJoint j x))

theorem forJoints_keeps {g : JointId → State → State} (hg : ∀ j t, P t → P (g j t)) (h : P t) :
    P (forJoints g t) :=
  foldl_keeps _ _ (fun t j => hg j t) t h

include hP

theorem lifetimePeriod_keeps (c : ChannelId) (h : P t) : P (lifetimePeriod c t) := by
  unfold lifetimePeriod
  split
  · split
    · exact expireProbe_keeps hP _ _ h
    · exact modChannel_keeps hP _ _ h
  · exact h

theorem lifetimePeriods_keeps (h : P t) : P (lifetimePeriods t) :=
  arbitrate_keeps hP _ (forChannels_keeps (fun c _ => lifetimePeriod_keeps hP c) h)

theorem shedPeriod_keeps (f : FeedId) (h : P t) : P (shedPeriod f t) := by
  unfold shedPeriod
  split
  · split
    · exact shedExpiry_keeps hP f h
    · exact modFeed_keeps hP f _ h
  · exact h

include joint

theorem jointEvent_keeps (j : JointId) (g : Joint → Joint) (h : P t) : P (jointEvent j g t) :=
  arbitrate_keeps hP _ (isolationChange_keeps hP _ (markJoint_keeps hP j (joint _ _ _ h)))

theorem settleJoint_keeps (j : JointId) (h : P t) : P (settleJoint j t) := by
  have jointEventIf (due : Bool) (g : Joint → Joint) {u : State} (hu : P u) :
      P (if due then jointEvent j g u else u) := by
    split
    · exact jointEvent_keeps hP joint j g hu
    · exact hu
  exact jointEventIf _ _ (jointEventIf _ _ (jointEventIf _ _ (jointEventIf _ _ h)))

theorem settleAll_keeps (h : P t) : P (settleAll t) :=
  forJoints_keeps (fun j _ => settleJoint_keeps hP joint j) <|
  forDistricts_keeps (fun d _ => timerExpiry_keeps hP d) <|
  forFeeds_keeps (fun f _ => settleFeed_keeps hP f) <|
  forFeeds_keeps (fun f _ => episodeExpiry_keeps hP f) <|
  forChannels_keeps (fun c _ => stageEnd_keeps hP c) <|
  forDistricts_keeps (fun d _ => swapSuccess_keeps hP d) h
end

theorem cfg_keeps (c : Profile) : Keeps (fun t => t.cfg = c) where
  district _ _ _ _ h := h
  monitor _ _ _ h := h
  sampled _ _ h := h
  timer _ _ _ h := h
  feed _ _ _ h := h
  episode _ _ _ h := h
  summary _ _ _ h := h
  queue _ _ _ h := h
  channel _ _ _ h := h
  lastGranted _ _ h := h
  slot _ _ _ _ h := h

/-! ### The parts of an idle period -/

/-- The state in which an idle period comes to move the prescaler (log entry 1). -/
def beforePrescaler (s : State) : State := forFeeds shedPeriod (lifetimePeriods (periodBoundary 0#16 (settleAll s)))

theorem beforePrescaler_cfg (s : State) : (beforePrescaler s).cfg = s.cfg := by
  have keeps := cfg_keeps s.cfg
  have settled := settleAll_keeps keeps (fun _ _ _ h => h) (Eq.refl s.cfg)
  have begun := periodBoundary_keeps keeps 0#16 settled
  exact forFeeds_keeps (fun f _ => shedPeriod_keeps keeps f) (lifetimePeriods_keeps keeps begun)

theorem lifetimePeriod_free {c : ChannelId} (h : s.channel c = none) : lifetimePeriod c s = s := by
  simp [lifetimePeriod, h]

theorem lifetimePeriod_probe {c : ChannelId} {p : Probe} (h : s.channel c = some p) : lifetimePeriod c s =
    if p.lifetime ≤ 1 then expireProbe c p s
    else s.setChannel c (some { p with lifetime := p.lifetime - 1 }) := by
  simp [lifetimePeriod, State.modChannel, h]

theorem lifetimeExpiry_probe {c : ChannelId} {p : Probe} (h : s.channel c = some p) :
    lifetimeExpiry c s = arbitrate s (expireProbe c p s) := by
  simp [lifetimeExpiry, h]

/-- The passage of the prescaler back to 0 is the row TICK_BOUNDARY (R77). -/
theorem prescalerPeriod_next (s : State) : Host.Outcome.next (prescalerPeriod s) =
    if s.quarter < 3 then .next (s.setClock s.prescaler (s.quarter + 1))
    else if s.prescaler + 1 < 2 ^ s.cfg.globals.k then .next (s.setClock (s.prescaler + 1) 0)
    else exec .tickBoundary s := by
  unfold prescalerPeriod
  split
  · rfl
  · split <;> rfl

/-- Nothing stands due of any record (log entries 3 and 21). -/
structure AllSettled (s : State) : Prop where
  district : ∀ d, swapSuccessDue s d = false ∧ (s.timer d).boundary = false
  stage : ∀ c p, s.channel c = some p → stageDue s p = false
  feed : ∀ f, closeDue s f = none ∧ filterFull s f = false
  joint : ∀ j, debounceFull s j = false ∧ settleDue s j = false ∧ dockingDue s j = false

theorem AllSettled.settleAll_eq (h : AllSettled s) : settleAll s = s := by
  have windows : forDistricts swapSuccess s = s :=
    forDistricts_keeps (P := fun t => t = s) (fun d t ht => by rw [ht, swapSuccess_notDue s (h.district d).1]) rfl
  have stages : forChannels stageEnd s = s :=
    forChannels_keeps (P := fun t => t = s) (fun c t ht => by rw [ht, stageEnd_notDue s (h.stage c)]) rfl
  have closes : forFeeds episodeExpiry s = s :=
    forFeeds_keeps (P := fun t => t = s) (fun f t ht => by rw [ht, episodeExpiry_notDue s (h.feed f).1]) rfl
  have filters : forFeeds settleFeed s = s :=
    forFeeds_keeps (P := fun t => t = s) (fun f t ht => by rw [ht, settleFeed_notDue (h.feed f).2]) rfl
  have joints : forJoints settleJoint s = s :=
    forJoints_keeps (P := fun t => t = s) (fun j t ht => by
      obtain ⟨input, settle, docking⟩ := h.joint j
      rw [ht, settleJoint_notDue input settle docking]) rfl
  simp only [settleAll, windows, stages, closes, filters, timerExpiries_notDue fun d => (h.district d).2, joints]

end Sys2Proof.Machine

open Sys2Proof Sys2Proof.Machine
/-- Settles O46: the tick boundary is a walk over the timers after the expiries, and an idle period is its parts in
turn, none of which writes the configuration that the prescaler reads. -/
theorem tickBoundarySteps : Obligations.TickBoundarySteps := by
  refine ⟨fun s => ⟨congrArg Host.Outcome.next (tickBoundary_eq s), timerExpiries_notDue⟩, ?_⟩
  intro s idle a b lived e
  have boundary : periodBoundary 0#16 a = b := periodBoundary_eq a _
  have lives : forChannels lifetimePeriod b = lived := List.foldl_ext _ _ _ fun t c _ => by
    cases h : t.channel c with
    | none => exact lifetimePeriod_free h
    | some p => exact lifetimePeriod_probe h
  have parts : beforePrescaler s = e := by
    show forFeeds shedPeriod (lifetimePeriods (periodBoundary 0#16 a)) = e
    rw [boundary, lifetimePeriods, lives]
    rfl
  refine ⟨?_, fun c p hc => congrArg Host.Outcome.next (lifetimeExpiry_probe hc), fun t f => rfl,
    fun district stage feed joint => AllSettled.settleAll_eq ⟨district, stage, feed, joint⟩⟩
  have period : step s = .next (prescalerPeriod e) := by
    rw [← parts, step, idle]
    rfl
  rw [period, prescalerPeriod_next, ← parts, beforePrescaler_cfg]
end

section
/-! Requests, from the frame to the reply (R178 to R180, R184): how a request that is taken answers, and the numbers that
a payload names. -/

namespace Sys2Proof.Machine

variable (s : State)

/-- A request that is taken answers with what its body gives, where the body leaves the line alone. -/
theorem takeRequest_answers {s : State} {src : Byte} {payload : List Byte} (h : Taken s src payload) (kind : Byte)
    {body : State → Answer} {st : Status} {bytes : List Byte} {u : State} (hb : body s = ⟨st, bytes, u⟩)
    (hl : u.line = s.line) :
    done (takeRequest src kind payload body s) = .next (answered s u src kind st bytes) := by
  rw [takeRequest_taken s h, hb, Answer.reply, hl]
  rfl

theorem takeRequest_refuses {s : State} {src : Byte} {payload : List Byte} (h : Taken s src payload) (kind : Byte)
    {body : State → Answer} {st : Status} (hb : body s = refuse st [] s) :
    done (takeRequest src kind payload body s) = .next (answered s s src kind st []) :=
  takeRequest_answers h kind hb rfl

theorem Taken.singleton {s : State} {src : Byte} {payload : List Byte} (h : Taken s src payload) (b : Byte) :
    Taken s src [b] := by
  obtain ⟨receiving, low, high, -⟩ := h
  exact ⟨receiving, low, high, by simp⟩

theorem byte_toNat {n : Nat} (h : n < 256) : (byte n).toNat = n := by
  simp [byte, Nat.mod_eq_of_lt h]

theorem oneDistrict_byte (d : DistrictId) (body : DistrictId → Answer) : oneDistrict [byte d.val] s body = body d := by
  have h : (byte d.val).toNat = d.val := byte_toNat (by omega)
  simp [oneDistrict, h]

theorem oneFeed_byte (f : FeedId) (body : FeedId → Answer) : oneFeed [byte f.val] s body = body f := by
  have h : (byte f.val).toNat = f.val := byte_toNat (by omega)
  simp [oneFeed, h]

theorem oneJoint_byte (j : JointId) (body : JointId → Answer) : oneJoint [byte j.val] s body = body j := by
  have h : (byte j.val).toNat = j.val := byte_toNat (by omega)
  simp [oneJoint, h]

theorem oneFeed_refused {b : Byte} (h : 4 ≤ b.toNat) (body : FeedId → Answer) :
    oneFeed [b] s body = refuse .badArg [] s := by
  simp [oneFeed, Nat.not_lt.mpr h]

/-- A two-byte value that is a set of sixteen items, high byte first (R182). -/
theorem word_toNat (v : BitVec 16) : word v.toNat = [(v >>> 8).setWidth 8, v.setWidth 8] := by
  have high : byte (v.toNat / 256) = (v >>> 8).setWidth 8 := by
    apply BitVec.eq_of_toNat_eq
    simp [byte, Nat.shiftRight_eq_div_pow]
  rw [word, high]
  rfl

end Sys2Proof.Machine
end

section
/-! The status reads: the bytes of FEED_STATUS and JOINT_STATUS, and what a read removes (R59, R157, R163, R182, R185). -/

namespace Sys2Proof.Machine

variable (s : State)

/-! ### The item read (R163) -/

theorem readThrough_outsider {src : Byte} (h : slotOf s src = none) (g : Slot → Slot) : readThrough src g s = s := by
  simp [readThrough, h]

theorem readThrough_joined {src : Byte} {n : SlotId} {x : Slot} (h : slotOf s src = some n) (hx : s.slot n = some x)
    (g : Slot → Slot) : readThrough src g s = s.setSlot n (some (g x)) := by
  simp [readThrough, h, State.modSlot, hx]

theorem readThrough_line (src : Byte) (g : Slot → Slot) : (readThrough src g s).line = s.line := by
  unfold readThrough
  split <;> rfl

theorem summaryBytes_outsider {src : Byte} (h : slotOf s src = none) :
    summaryBytes s src = [0#8, 0#8, 0#8, 0#8] := by
  simp [summaryBytes, h]

theorem summaryBytes_joined {src : Byte} {n : SlotId} {x : Slot} (h : slotOf s src = some n)
    (hx : s.slot n = some x) : summaryBytes s src =
      [(x.changedDistricts >>> 8).setWidth 8, x.changedDistricts.setWidth 8, x.changedFeeds.setWidth 8,
       x.changedJoints] := by
  simp [summaryBytes, h, hx, word_toNat]

section
variable {s} {src : Byte} (taken : Taken s src [])
include taken

theorem summary_answers :
    exec (.summary src []) s = .next (answered s s src 0x02#8 .ok (summaryBytes s src)) :=
  takeRequest_answers taken _ rfl rfl

theorem districtStatus_answers (d : DistrictId) : exec (.districtStatus src [byte d.val]) s =
    .next (answered s (readThrough src
      (fun x => { x with changedDistricts := x.changedDistricts &&& ~~~(BitVec.twoPow 16 d.val) }) s)
      src 0x03#8 .ok (districtBytes s d)) :=
  takeRequest_answers (taken.singleton _) _ (oneDistrict_byte s d _) (readThrough_line s src _)

theorem feedStatus_answers (f : FeedId) : exec (.feedStatus src [byte f.val]) s =
    .next (answered s (readThrough src
      (fun x => { x with changedFeeds := x.changedFeeds &&& ~~~(BitVec.twoPow 4 f.val) }) s)
      src 0x04#8 .ok (feedBytes s f)) :=
  takeRequest_answers (taken.singleton _) _ (oneFeed_byte s f _) (readThrough_line s src _)

theorem jointStatus_answers (j : JointId) : exec (.jointStatus src [byte j.val]) s =
    .next (answered s (readThrough src
      (fun x => { x with changedJoints := x.changedJoints &&& ~~~(BitVec.twoPow 8 j.val) }) s)
      src 0x05#8 .ok (jointBytes s j)) :=
  takeRequest_answers (taken.singleton _) _ (oneJoint_byte s j _) (readThrough_line s src _)
end

/-! ### The channels of a feed, counted in one walk (R103, R110) -/

theorem budgetInUse_foldl (f : FeedId) : budgetInUse s f = allChannels.foldl (fun n c => match s.channel c with
    | some p => if p.feed = f then n + p.weight else n
    | none => n) 0 := by
  rw [budgetInUse, List.sum_eq_foldl, List.foldl_map]
  refine List.foldl_ext _ _ _ fun n c _ => ?_
  cases h : s.channel c with
  | none => simp [channelWeight, h]
  | some p => by_cases hf : p.feed = f <;> simp [channelWeight, h, hf]

theorem length_filter_foldl {α : Type} (q : α → Bool) (l : List α) :
    (l.filter q).length = l.foldl (fun n c => if q c then n + 1 else n) 0 := by
  have walk : ∀ n, l.foldl (fun n c => if q c then n + 1 else n) n = n + (l.filter q).length := by
    induction l with
    | nil => intro n; rfl
    | cons c l ih =>
      intro n
      cases h : q c <;> simp [h, ih]
      omega
  rw [walk, Nat.zero_add]

theorem channelsHeld_foldl (f : FeedId) : channelsHeld s f = allChannels.foldl (fun n c => match s.channel c with
    | some p => if p.feed = f then n + 1 else n
    | none => n) 0 := by
  rw [channelsHeld, length_filter_foldl]
  refine List.foldl_ext _ _ _ fun n c _ => ?_
  cases h : s.channel c <;> simp

/-! ### Bytes (R185) -/

theorem isolatedByJoint_bytes (j : JointId) : word (isolatedByJoint s j).toNat =
    if (s.jcfg j).enabled = true ∧ (s.joint j).st ≠ .coupled then
      [((s.jcfg j).cover >>> 8).setWidth 8, (s.jcfg j).cover.setWidth 8] else [0#8, 0#8] := by
  simp only [isolatedByJoint, Bool.and_eq_true, bne_iff_ne]
  split
  · exact word_toNat _
  · rfl

end Sys2Proof.Machine

open Sys2Proof Sys2Proof.Machine
/-- Settles O26: the bytes are the model's own up to the grouping of their fields, and a read answers with them and
removes its item where the sender has a slot. -/
theorem statusReadsRemoveTheItemRead : Obligations.StatusReadsRemoveTheItemRead := by
  refine ⟨fun s f => ?_, fun s j => ?_, fun s src d f j taken => ⟨fun outsider => ?_, fun n x joined hx => ?_⟩⟩
  · intro x bit
    have phase : 4 * phaseCode x.phase = (match x.phase with
        | .idle => 0
        | .pending _ => 4
        | .shed => 8) := by
      cases x.phase <;> rfl
    have cls : classCode (s.summary f).cls = (match (s.summary f).cls with
        | none => 0
        | some .localClass => 1
        | some .massClass => 2) := by
      rcases (s.summary f).cls with _ | _ | _ <;> rfl
    have cause : 4 * closeCode (s.summary f).cause = (match (s.summary f).cause with
        | none => 0
        | some .window => 4
        | some .cap => 8
        | some .stallClear => 12) := by
      rcases (s.summary f).cause with _ | _ | _ | _ <;> rfl
    simp only [feedBytes, budgetInUse_foldl, channelsHeld_foldl, cls, cause]
    cases s.episode f with
    | none => rw [phase]; rfl
    | some e =>
      have grouped (a b c d : Nat) : a + b + c + d = a + (b + c + d) := by omega
      obtain ⟨members, kind, stallFlag, waiting⟩ := e
      rw [phase, grouped]
      cases kind <;> rfl
  · intro x bit samples
    simp only [jointBytes, isolatedByJoint_bytes]
    rfl
  · have reads := readThrough_outsider s outsider
    rw [summary_answers taken, summaryBytes_outsider s outsider, districtStatus_answers taken,
      feedStatus_answers taken, jointStatus_answers taken, reads, reads, reads]
    exact ⟨rfl, rfl, rfl, rfl⟩
  · have reads := readThrough_joined s joined hx
    rw [summary_answers taken, summaryBytes_joined s joined hx, districtStatus_answers taken,
      feedStatus_answers taken, jointStatus_answers taken, reads, reads, reads]
    exact ⟨rfl, rfl, rfl, rfl⟩
end

section
/-! The configuration writes: the codes and values they take, and their order of checks (R22, R58, R92, R177, R187). -/

namespace Sys2Proof.Machine

variable (s : State)

/-! ### Codes (R187) -/

theorem mergeWindowOfCode_none {v : Nat} : mergeWindowOfCode v = none ↔ 4 ≤ v := by
  rcases v with _ | _ | _ | _ | v <;> simp [mergeWindowOfCode]

theorem stallFilterOfCode_none {v : Nat} : stallFilterOfCode v = none ↔ 4 ≤ v := by
  rcases v with _ | _ | _ | _ | v <;> simp [stallFilterOfCode]

theorem boolOfCode_none {v : Nat} : boolOfCode v = none ↔ 2 ≤ v := by
  rcases v with _ | _ | v <;> simp [boolOfCode]

theorem mergeWindowCode_ofCode {v : Nat} {x : MergeWindow} (h : mergeWindowOfCode v = some x) :
    mergeWindowCode x = v := by
  rcases v with _ | _ | _ | _ | v <;> cases h <;> rfl

theorem stallFilterCode_ofCode {v : Nat} {x : StallFilter} (h : stallFilterOfCode v = some x) :
    stallFilterCode x = v := by
  rcases v with _ | _ | _ | _ | v <;> cases h <;> rfl

theorem boolCode_ofCode {v : Nat} {x : Bool} (h : boolOfCode v = some x) : boolCode x = v := by
  rcases v with _ | _ | v <;> cases h <;> rfl

section
variable {α : Type} {es : List FieldEntry} {id : Nat} {ofCode : Nat → Option α} {stored : α}

theorem takeCode_none : takeCode es id ofCode stored = none ↔ ∃ v, es.lookup id = some v ∧ ofCode v = none := by
  unfold takeCode written
  cases es.lookup id <;> simp

theorem takeCode_some {code : α → Nat} (inverse : ∀ {v x}, ofCode v = some x → code x = v) {x : α}
    (h : takeCode es id ofCode stored = some x) : code x = (es.lookup id).getD (code stored) := by
  unfold takeCode written at h
  cases hv : es.lookup id with
  | none =>
    rw [hv] at h
    rw [← Option.some.inj h]
    rfl
  | some v =>
    rw [hv] at h
    exact inverse h
end

/-! ### The values of a SET_FEED (R58) -/

theorem takeFeed_none {k : FeedConfig} {es : List FieldEntry} : takeFeed k es = none ↔
    takeCode es 3 mergeWindowOfCode k.mergeWindow = none ∨ takeCode es 7 boolOfCode k.stallHigh = none ∨
      takeCode es 8 stallFilterOfCode k.stallFilter = none := by
  unfold takeFeed
  cases takeCode es 3 mergeWindowOfCode k.mergeWindow with
  | none => simp
  | some window =>
    cases takeCode es 7 boolOfCode k.stallHigh with
    | none => simp
    | some high => cases takeCode es 8 stallFilterOfCode k.stallFilter <;> simp

/-- Everything an accepted SET_FEED stores. -/
theorem takeFeed_some {k c : FeedConfig} {es : List FieldEntry} (h : takeFeed k es = some c) :
    ∃ window high filter, takeCode es 3 mergeWindowOfCode k.mergeWindow = some window ∧
      takeCode es 7 boolOfCode k.stallHigh = some high ∧
      takeCode es 8 stallFilterOfCode k.stallFilter = some filter ∧
      c = { budget := take es 1 1 63 k.budget, massThreshold := take es 2 2 16 k.massThreshold,
            mergeWindow := window, massCool := take es 4 1 65535 k.massCool,
            stagger := take es 5 0 4095 k.stagger, shedDelay := take es 6 0 2000 k.shedDelay,
            stallHigh := high, stallFilter := filter } := by
  simp only [takeFeed, Option.bind_eq_bind, Option.bind_eq_some_iff, Option.some.injEq] at h
  obtain ⟨window, hw, high, hh, filter, hf, rfl⟩ := h
  exact ⟨window, high, filter, hw, hh, hf, rfl⟩

/-! ### The checks and the effects (R57, R58, R93, R177) -/

theorem partWide_eq (src : Byte) (a : Answer) : partWide src s a =
    if slotOf s src = none then refuse .notJoined [] s
    else if s.writing.isSome then refuse .busy [] s
    else a := by
  unfold partWide ofSlot
  cases slotOf s src <;> simp

/-- A write that only the checks of the whole part can refuse (R177, R179). -/
theorem takeRequest_partWide {s : State} {src : Byte} {payload : List Byte} (h : Taken s src payload) (kind : Byte)
    {body : State → Answer} {bytes : List Byte} {u : State} (hb : body s = partWide src s ⟨.ok, bytes, u⟩)
    (hl : u.line = s.line) : done (takeRequest src kind payload body s) =
      if slotOf s src = none then .next (answered s s src kind .notJoined [])
      else if s.writing.isSome then .next (answered s s src kind .busy [])
      else .next (answered s u src kind .ok bytes) := by
  rw [partWide_eq] at hb
  split
  · next outsider => exact takeRequest_refuses h kind (by rw [hb, if_pos outsider])
  · next joined =>
    rw [if_neg joined] at hb
    split
    · next writing => exact takeRequest_refuses h kind (by rw [hb, if_pos writing])
    · next idle => exact takeRequest_answers h kind (by rw [hb, if_neg idle]) hl

theorem arbiterLook_line : (arbiterLook s).line = s.line :=
  (arbiterLook_keeps (sameOuter_keeps s) (SameOuter.refl s)).line

theorem writeFeed_eq (f : FeedId) (es : List FieldEntry) (c : FeedConfig) : writeFeed f es c s =
    markFeed f ((s.setFcfg f c).setFeed f
      { s.feed f with filterRun := if names es 7 || names es 8 then 0 else (s.feed f).filterRun }) := by
  unfold writeFeed
  split
  · rfl
  · exact congrArg (markFeed f) (State.setFeed_own (s.setFcfg f c) f).symm

theorem writeFeed_line (f : FeedId) (es : List FieldEntry) (c : FeedConfig) : (writeFeed f es c s).line = s.line := by
  simp [writeFeed_eq]

section
variable {s} {src : Byte} {entries : List Byte} {es : List FieldEntry}

theorem bodySetFeed_badNumber {b : Byte} (h : 4 ≤ b.toNat) :
    bodySetFeed src (b :: entries) s = refuse .badArg [] s := by
  simp [bodySetFeed, oneFeed_refused s h]

theorem bodySetFeed_unparsed (b : Byte) (h : parseEntries feedWidth entries = none) :
    bodySetFeed src (b :: entries) s = refuse .badArg [] s := by
  simp [bodySetFeed, oneFeed, h]

theorem bodySetFeed_badCode (f : FeedId) (parsed : parseEntries feedWidth entries = some es)
    (h : takeFeed (s.fcfg f) es = none) : bodySetFeed src (byte f.val :: entries) s = refuse .badArg [] s := by
  simp [bodySetFeed, oneFeed_byte, parsed, h]

theorem bodySetFeed_taken {f : FeedId} (parsed : parseEntries feedWidth entries = some es) {c : FeedConfig}
    (h : takeFeed (s.fcfg f) es = some c) : bodySetFeed src (byte f.val :: entries) s = partWide src s
      ⟨.ok, echo feedWidth (feedField c) es,
       if names es 1 then arbiterLook (writeFeed f es c s) else writeFeed f es c s⟩ := by
  simp [bodySetFeed, oneFeed_byte, parsed, h]

theorem bodySetGlobals_unparsed (h : entries = [] ∨ parseEntries globalsWidth entries = none) :
    bodySetGlobals src entries s = refuse .badArg [] s := by
  rcases h with rfl | h
  · rfl
  · simp [bodySetGlobals, h]

theorem bodySetGlobals_busy (some_entry : entries ≠ []) (parsed : parseEntries globalsWidth entries = some es)
    (busy : names es 1 = true ∧ s.mode = .run) : bodySetGlobals src entries s = refuse .busy [] s := by
  simp [bodySetGlobals, some_entry, parsed, busy]

theorem bodySetGlobals_taken (some_entry : entries ≠ []) (parsed : parseEntries globalsWidth entries = some es)
    (free : ¬(names es 1 = true ∧ s.mode = .run)) : bodySetGlobals src entries s = partWide src s
      ⟨.ok, globalsBytes (takeGlobals s.cfg.globals es), writeGlobals es (takeGlobals s.cfg.globals es) s⟩ := by
  simp [bodySetGlobals, some_entry, parsed, free]
end

theorem writeGlobals_line (es : List FieldEntry) (g : Globals) : (writeGlobals es g s).line = s.line := by
  unfold writeGlobals
  split <;> rfl

end Sys2Proof.Machine

open Sys2Proof Sys2Proof.Machine
/-- Settles O41: each write is its own checks, then the checks of the whole part, then the values that `takeFeed` and
`takeGlobals` give. -/
theorem feedAndGlobalsWrites : Obligations.FeedAndGlobalsWrites := by
  intro s src b entries es num named
  refine ⟨fun taken bad => takeRequest_refuses taken _ ?_, fun taken => takeRequest_refuses taken _ rfl,
    fun taken bad => takeRequest_refuses taken _ (bodySetGlobals_unparsed bad), ?_, ?_⟩
  · exact bad.elim bodySetFeed_badNumber (bodySetFeed_unparsed b)
  · rintro f rfl taken parsed refused k
    refine ⟨?_, fun bad => takeRequest_refuses taken _ (bodySetFeed_badCode f parsed bad), fun c hc => ?_⟩
    · rw [Option.isNone_iff_eq_none, takeFeed_none]
      simp only [takeCode_none, mergeWindowOfCode_none, boolOfCode_none, stallFilterOfCode_none]
    · have body := bodySetFeed_taken (src := src) parsed hc
      have line : (if names es 1 then arbiterLook (writeFeed f es c s) else writeFeed f es c s).line = s.line := by
        split <;> simp only [arbiterLook_line, writeFeed_line]
      have answer := takeRequest_partWide taken 0x41#8 body line
      rw [writeFeed_eq] at answer
      obtain ⟨window, high, filter, hw, hh, hf, rfl⟩ := takeFeed_some hc
      exact ⟨rfl, rfl, takeCode_some mergeWindowCode_ofCode hw, rfl, rfl, rfl, takeCode_some boolCode_ofCode hh,
        takeCode_some stallFilterCode_ofCode hf, answer⟩
  · intro taken some_entry parsed refused g base h
    split
    · next busy => exact takeRequest_refuses taken _ (bodySetGlobals_busy some_entry parsed busy)
    · next free =>
      exact takeRequest_partWide taken _ (bodySetGlobals_taken some_entry parsed free) (writeGlobals_line s es _)
end

section
/-! The probes that wait on an episode take its class: what a LOCAL close and a MASS close make of each, and the close
that follows (R70, R71, R135, R136). -/

namespace Sys2Proof.Machine

variable {s : State} {f : FeedId} {c : ChannelId} {p : Probe} {e : Episode}

/-! ### A LOCAL close, probe by probe (R135) -/

/-- Feed `f`'s episode once channel `c` no longer waits on it. -/
def Episode.unwaited (e : Episode) (c : ChannelId) : Episode := { e with waiting := removeItem e.waiting c.val }

theorem stopWaiting_open (he : s.episode f = some e) :
    stopWaiting f c s = s.setEpisode f (some (e.unwaited c)) := by
  simp [stopWaiting, State.modEpisode, he, Episode.unwaited]

theorem localResume_running (he : s.episode f = some e) (hc : s.channel c = some p) (running : p.pause = none) :
    localResume f c s = s.setEpisode f (some (e.unwaited c)) := by
  simp [localResume, stopWaiting_open he, hc, running]

/-- The sibling pause of probe `p` in channel `c` ends at its resume point (R135). -/
def resumeFrom (c : ChannelId) (p : Probe) (r : ResumePoint) (t : State) : State :=
  match r with
  | .ramp j => if p.stage.isPrecharge then startRamp c p.district j t else enterStage c (.ramp j) t
  | .confirm => startConfirm c p.district t
  | .lookPass => passLook c p.district t
  | .sense => enterStage c .sense t
  | .precharge _ => enterStage c .precharge t

theorem localResume_sibling {r : ResumePoint} (he : s.episode f = some e) (hc : s.channel c = some p)
    (paused : p.pause = some ⟨.sibling, r⟩) : localResume f c s = resumeFrom c p r
      ((s.setEpisode f (some (e.unwaited c))).setChannel c (some { p with pause := none, elapsed := 0 })) := by
  simp only [localResume, stopWaiting_open he, State.setEpisode_channel, hc, paused, State.modChannel, Option.map_some]
  cases r <;> rfl

theorem enterStage_eq (hc : s.channel c = some p) (x : Stage) :
    enterStage c x s = s.setChannel c (some { p with stage := x, elapsed := 0 }) := by
  simp [enterStage, State.modChannel, hc]

theorem startRamp_eq (hc : s.channel c = some p) (d : DistrictId) (j : Nat) :
    startRamp c d j s = (s.setChannel c (some { p with stage := .ramp j, elapsed := 0, entryStep := 1 })).setMonitor d
      { s.monitor d with integrator := 0 } := by
  simp [startRamp, clearIntegrator, State.modMonitor, State.modChannel, hc]

theorem startConfirm_eq (hc : s.channel c = some p) (d : DistrictId) :
    startConfirm c d s = (s.setChannel c (some { p with stage := .confirm true, elapsed := 0 })).setMonitor d
      { s.monitor d with integrator := 0, confirmSwapUsed := false } := by
  simp [startConfirm, enterStage, State.modMonitor, State.modChannel, hc]

/-- The state of district `d` once its look in channel `c` has passed, but for its timer, its queue and its marks. -/
def lookPassed (s : State) (c : ChannelId) (d : DistrictId) (x : DistrictState) : State :=
  (endProbe c s).setDistrict d
    { (endProbe c s).district d with st := x, failures := (s.dcfg d).lockoutLimit - 1 }

theorem passLook_eq (s : State) (c : ChannelId) (d : DistrictId) : passLook c d s =
    if (s.dcfg d).policy = .auto then
      markDistrict [.locked] d (((lookPassed s c d .queued).setTimer d Timer.empty).setQueue (s.dcfg d).feed
        (queueWith s d .full))
    else markDistrict [.locked, .grant] d
      ((lookPassed s c d .awaitingGrant).setTimer d (loaded .grant s.cfg.globals.grantWindow)) := by
  have same := endProbe_sameOuter s c
  simp [passLook, setFailures, State.modDistrict, clearTimer_eq, becomeQueued_eq, becomeAwaitingGrant_eq, lookPassed,
    queueWith, endProbe_queue, same.dcfg, same.cfg]

theorem removeItem_removeItem {n : Nat} (b : BitVec n) (i : Nat) : removeItem (removeItem b i) i = removeItem b i := by
  simp [removeItem, BitVec.and_assoc]

/-- The end of a probe does not ask whether its channel waits, nor at what stage it stands. -/
theorem endProbe_unwaited (he : s.episode f = some e) (hc : s.channel c = some p) (hf : p.feed = f) {q : Probe}
    (district : q.district = p.district) (feed : q.feed = p.feed) :
    endProbe c ((s.setEpisode f (some (e.unwaited c))).setChannel c (some q)) = endProbe c s := by
  subst hf
  have again : (e.waiting &&& ~~~BitVec.twoPow 4 c.val) &&& ~~~BitVec.twoPow 4 c.val =
      e.waiting &&& ~~~BitVec.twoPow 4 c.val := removeItem_removeItem e.waiting c.val
  rw [endProbe_channel s hc, endProbe_channel (p := q) _ (by simp), district, feed]
  simp [he, Episode.unwaited, removeItem, polarityBefore, again]

theorem localResume_ramp_start {j : Nat} (he : s.episode f = some e) (hc : s.channel c = some p)
    (paused : p.pause = some ⟨.sibling, .ramp j⟩) (stage : p.stage = .precharge) : localResume f c s =
      ((s.setEpisode f (some (e.unwaited c))).setChannel c
        (some { p with stage := .ramp j, elapsed := 0, pause := none, entryStep := 1 })).setMonitor p.district
          { s.monitor p.district with integrator := 0 } := by
  simp [localResume_sibling he hc paused, resumeFrom, stage, Stage.isPrecharge,
    startRamp_eq (State.setChannel_channel_self _ _ _)]

theorem localResume_ramp_step {j i : Nat} (he : s.episode f = some e) (hc : s.channel c = some p)
    (paused : p.pause = some ⟨.sibling, .ramp j⟩) (stage : p.stage = .ramp i) : localResume f c s =
      (s.setEpisode f (some (e.unwaited c))).setChannel c
        (some { p with stage := .ramp j, elapsed := 0, pause := none }) := by
  simp [localResume_sibling he hc paused, resumeFrom, stage, Stage.isPrecharge,
    enterStage_eq (State.setChannel_channel_self _ _ _)]

theorem localResume_confirm (he : s.episode f = some e) (hc : s.channel c = some p)
    (paused : p.pause = some ⟨.sibling, .confirm⟩) : localResume f c s =
      ((s.setEpisode f (some (e.unwaited c))).setChannel c
        (some { p with stage := .confirm true, elapsed := 0, pause := none })).setMonitor p.district
          { s.monitor p.district with integrator := 0, confirmSwapUsed := false } := by
  simp [localResume_sibling he hc paused, resumeFrom, startConfirm_eq (State.setChannel_channel_self _ _ _)]

theorem localResume_lookPass (he : s.episode f = some e) (hc : s.channel c = some p) (hf : p.feed = f)
    (paused : p.pause = some ⟨.sibling, .lookPass⟩) : localResume f c s = passLook c p.district s := by
  have ends := endProbe_unwaited he hc hf (q := { p with pause := none, elapsed := 0 }) rfl rfl
  simp [localResume_sibling he hc paused, resumeFrom, passLook_eq, lookPassed, ends, queueWith]

theorem endProbe_reads (hc : s.channel c = some p) (he : s.episode p.feed = some e) :
    (endProbe c s).episode p.feed = some (e.unwaited c) ∧ ∀ b, b ≠ c → (endProbe c s).channel b = s.channel b := by
  simp +contextual [endProbe_channel s hc, he, State.setChannel_channel, eq_comm, Episode.unwaited, removeItem]

theorem modChannel_reads (s : State) (f : FeedId) (c : ChannelId) (g : Probe → Probe) :
    (s.modChannel c g).episode f = s.episode f ∧ ∀ b, b ≠ c → (s.modChannel c g).channel b = s.channel b :=
  ⟨rfl, fun _ ne => State.setChannel_channel_ne s ne _⟩

/-- But for the pass of a look, a pause ends in the record of its own channel. -/
theorem resumeFrom_reads {r : ResumePoint} (stays : r ≠ .lookPass) (t : State) :
    (resumeFrom c p r t).episode f = t.episode f ∧ ∀ b, b ≠ c → (resumeFrom c p r t).channel b = t.channel b := by
  cases r with
  | ramp j =>
    simp only [resumeFrom]
    split
    · exact modChannel_reads _ f c _
    · exact modChannel_reads t f c _
  | lookPass => exact absurd rfl stays
  | confirm => exact modChannel_reads _ f c _
  | sense => exact modChannel_reads t f c _
  | precharge j => exact modChannel_reads t f c _

/-- A probe taken by a LOCAL close waits no longer, and the close leaves the other channels alone. -/
theorem localResume_reads (he : s.episode f = some e) (hc : s.channel c = some p) (hf : p.feed = f) :
    (localResume f c s).episode f = some (e.unwaited c) ∧
      ∀ b, b ≠ c → (localResume f c s).channel b = s.channel b := by
  obtain running | ⟨⟨_ | _, r⟩, paused⟩ := Option.eq_none_or_eq_some p.pause
  · simp [localResume_running he hc running]
  · by_cases passes : r = .lookPass
    · subst passes hf
      rw [localResume_lookPass he hc rfl paused, passLook_eq]
      split
      · simpa [lookPassed] using endProbe_reads hc he
      · simpa [lookPassed] using endProbe_reads hc he
    · obtain ⟨episode, others⟩ := resumeFrom_reads (c := c) (p := p) (f := f) passes
        ((s.setEpisode f (some (e.unwaited c))).setChannel c (some { p with pause := none, elapsed := 0 }))
      rw [localResume_sibling he hc paused]
      exact ⟨by simp [episode], fun b ne => by simp [others b ne, State.setChannel_channel_ne _ ne]⟩
  · simp [localResume, stopWaiting_open he, hc, paused]

/-! ### A MASS close, probe by probe (R136) -/

theorem abandonProbe_full (he : s.episode f = some e) (hc : s.channel c = some p) (hf : p.feed = f)
    (full : p.kind = .full) : abandonProbe f c s = markDistrict [.trip] p.district
      (((((s.setEpisode f (some ((e.unwaited c).addMember p.district))).setMonitor p.district
        { s.monitor p.district with window := none, integrator := 0 }).setDistrict p.district
          { s.district p.district with st := .cooling .merging, polarity := polarityBefore s p.district }).setTimer
            p.district Timer.empty).setChannel c none) := by
  subst hf
  simp [abandonProbe, hc, full, joinMerging_eq, endProbe_channel s hc, he, Episode.unwaited, removeItem]

theorem abandonProbe_full_unwindowed (he : s.episode f = some e) (hc : s.channel c = some p) (hf : p.feed = f)
    (full : p.kind = .full) (window : (s.monitor p.district).window = none) :
    abandonProbe f c s = markDistrict [.trip] p.district
      (((((s.setEpisode f (some ((e.unwaited c).addMember p.district))).setMonitor p.district
        { s.monitor p.district with integrator := 0 }).setDistrict p.district
          { s.district p.district with st := .cooling .merging }).setTimer p.district Timer.empty).setChannel c
            none) := by
  simp only [abandonProbe_full he hc hf full, polarityBefore, window]

theorem abandonProbe_look (hc : s.channel c = some p) (look : p.kind = .look) :
    abandonProbe f c s = (endProbe c s).setDistrict p.district ((endProbe c s).district p.district).lookless := by
  simp [abandonProbe, hc, look, setLook_eq]

/-- The member list `ms` once a MASS close has abandoned probe `p` (R61, R136). -/
def membersWith (p : Probe) (ms : List DistrictId) : List DistrictId :=
  match p.kind with
  | .full => withMember ms p.district
  | .look => ms

theorem abandonProbe_reads (he : s.episode f = some e) (hc : s.channel c = some p) (hf : p.feed = f) :
    (abandonProbe f c s).episode f = some { e.unwaited c with members := membersWith p e.members } ∧
      ∀ b, b ≠ c → (abandonProbe f c s).channel b = s.channel b := by
  cases hk : p.kind with
  | full =>
    rw [abandonProbe_full he hc hf hk, membersWith, hk]
    simp +contextual [State.setChannel_channel, eq_comm]
    rfl
  | look =>
    subst hf
    rw [abandonProbe_look hc hk, membersWith, hk]
    exact endProbe_reads hc he

/-! ### The walk over the waiting probes (R71) -/

/-- The waiting probe in channel `c` takes the class of the close. -/
def takeClass (f : FeedId) (cls : EpisodeClass) (c : ChannelId) (s : State) : State :=
  match cls with
  | .localClass => localResume f c s
  | .massClass => abandonProbe f c s

/-- The member list may become `ms'` in a close of class `cls` that was decided on `ms`: LOCAL appends none (R70,
R71). -/
structure Outlasts (cls : EpisodeClass) (ms ms' : List DistrictId) : Prop where
  length : ms.length ≤ ms'.length
  same : cls = .localClass → ms' = ms

theorem Outlasts.trans {cls : EpisodeClass} {xs ys zs : List DistrictId} (h : Outlasts cls xs ys)
    (h' : Outlasts cls ys zs) : Outlasts cls xs zs :=
  ⟨h.length.trans h'.length, fun l => (h'.same l).trans (h.same l)⟩

theorem length_membersWith (p : Probe) (ms : List DistrictId) : ms.length ≤ (membersWith p ms).length := by
  unfold membersWith withMember
  split
  · split <;> simp
  · exact le_rfl

theorem takeClass_reads (cls : EpisodeClass) (he : s.episode f = some e) (hc : s.channel c = some p)
    (hf : p.feed = f) : ∃ ms, Outlasts cls e.members ms ∧
      (takeClass f cls c s).episode f = some { e.unwaited c with members := ms } ∧
      ∀ b, b ≠ c → (takeClass f cls c s).channel b = s.channel b := by
  cases cls with
  | localClass => exact ⟨e.members, ⟨le_rfl, fun _ => rfl⟩, localResume_reads he hc hf⟩
  | massClass =>
    exact ⟨membersWith p e.members, ⟨length_membersWith p _, fun h => nomatch h⟩, abandonProbe_reads he hc hf⟩

theorem resolveWaiting_eq (f : FeedId) (cls : EpisodeClass) (w : BitVec 4) (s : State) : resolveWaiting f cls w s =
    allChannels.foldl (fun t c => if w.getLsbD c.val then takeClass f cls c t else t) s := rfl

/-- The waiting set `x` once the channels of `l` that stand in `w` have left it. -/
def unwaited (w : BitVec 4) (l : List ChannelId) (x : BitVec 4) : BitVec 4 :=
  l.foldl (fun x c => if w.getLsbD c.val then removeItem x c.val else x) x

theorem unwaited_all : ∀ w, unwaited w allChannels w = 0#4 := by decide

theorem takeClass_walk (cls : EpisodeClass) (w : BitVec 4) (l : List ChannelId) (nodup : l.Nodup) :
    ∀ t e, t.episode f = some e → (∀ c ∈ l, w.getLsbD c.val = true → ∃ p, t.channel c = some p ∧ p.feed = f) →
      ∃ ms, Outlasts cls e.members ms ∧
        (l.foldl (fun t c => if w.getLsbD c.val then takeClass f cls c t else t) t).episode f =
          some { e with members := ms, waiting := unwaited w l e.waiting } := by
  induction l with
  | nil => exact fun t e he _ => ⟨e.members, ⟨le_rfl, fun _ => rfl⟩, he⟩
  | cons c l ih =>
    intro t e he held
    obtain ⟨hc, hl⟩ := List.nodup_cons.mp nodup
    have rest := fun b hb => held b (List.mem_cons_of_mem c hb)
    rw [List.foldl_cons, unwaited, List.foldl_cons]
    cases waits : w.getLsbD c.val with
    | false => exact ih hl t e he rest
    | true =>
      obtain ⟨p, hp, hf⟩ := held c List.mem_cons_self waits
      obtain ⟨ms, grown, taken, others⟩ := takeClass_reads cls he hp hf
      obtain ⟨ms', grown', walked⟩ := ih hl _ _ taken fun b hb => by
        rw [others b (fun same => hc (same ▸ hb))]
        exact rest b hb
      exact ⟨ms', grown.trans grown', walked⟩

/-- The episode after its waiting probes have taken the class: none waits, and LOCAL appended no member. -/
theorem resolveWaiting_episode (cls : EpisodeClass) (he : s.episode f = some e)
    (held : ∀ c : ChannelId, e.waiting.getLsbD c.val = true → ∃ p, s.channel c = some p ∧ p.feed = f) :
    ∃ ms, Outlasts cls e.members ms ∧
      (resolveWaiting f cls e.waiting s).episode f = some { e with members := ms, waiting := 0#4 } := by
  obtain ⟨ms, grown, walked⟩ := takeClass_walk cls e.waiting allChannels (by decide) s e he fun c _ => held c
  rw [unwaited_all] at walked
  exact ⟨ms, grown, walked⟩

theorem resolveWaiting_none (f : FeedId) (cls : EpisodeClass) (s : State) : resolveWaiting f cls 0#4 s = s := by
  simp [resolveWaiting, forChannels]

/-! ### The close after its waiting probes (R69 to R71) -/

theorem episodeClass_eq (s : State) (f : FeedId) (e : Episode) : episodeClass s f e =
    if e.kind = .shed ∨ e.stallFlag = true ∨ (s.fcfg f).massThreshold ≤ e.members.length then .massClass
    else .localClass := by
  unfold episodeClass
  cases e.kind <;> simp

/-- The class decided before any probe is appended is the class of the episode with the probes appended. -/
theorem Outlasts.episodeClass {t : State} {ms : List DistrictId} (same : SameOuter s t) (w : BitVec 4)
    (h : Outlasts (episodeClass s f e) e.members ms) :
    episodeClass t f { e with members := ms, waiting := w } = episodeClass s f e := by
  have cfg : t.fcfg f = s.fcfg f := by simp only [State.fcfg, same.cfg]
  rw [episodeClass_eq] at h ⊢
  rw [episodeClass_eq, cfg]
  by_cases mass : e.kind = .shed ∨ e.stallFlag = true ∨ (s.fcfg f).massThreshold ≤ e.members.length
  · rw [if_pos mass, if_pos (mass.imp_right (Or.imp_right h.length.trans'))]
  · rw [h.same (if_neg mass), if_neg mass]

/-- The state after feed `f`'s episode, with members `ms` and no waiting probe, closes in class `cls` in state `t`. -/
def closedWith (f : FeedId) (cls : EpisodeClass) (ms : List DistrictId) (cause : CloseCause) (t : State) : State :=
  let t := ((handCounts f cls (closeOrder t ms) 0 t).setEpisode f none).setSummary f
    { cls := some cls, count := ms.length, cause := some cause }
  match cls with
  | .massClass => markFeed f t
  | .localClass => t

theorem closeEpisode_eq {cls : EpisodeClass} {e' : Episode} {t : State} (cause : CloseCause)
    (he : s.episode f = some e) (hcls : episodeClass s f e = cls)
    (ht : resolveWaiting f cls e.waiting s = t) (he' : t.episode f = some e') :
    closeEpisode f cause s = closedWith f cls e'.members cause t := by
  subst hcls ht
  simp only [closeEpisode, he, he']
  rfl

theorem closeEpisode_unwaited (cause : CloseCause) (he : s.episode f = some e) (none_waits : e.waiting = 0#4) :
    closeEpisode f cause s = closedWith f (episodeClass s f e) e.members cause s :=
  closeEpisode_eq cause he rfl (by rw [none_waits, resolveWaiting_none]) he

/-- A close is the close of the state in which its waiting probes have taken the class. -/
theorem closeEpisode_resolved {cls : EpisodeClass} (cause : CloseCause) (he : s.episode f = some e)
    (hcls : episodeClass s f e = cls)
    (held : ∀ c : ChannelId, e.waiting.getLsbD c.val = true → ∃ p, s.channel c = some p ∧ p.feed = f) :
    closeEpisode f cause s = closeEpisode f cause (resolveWaiting f cls e.waiting s) := by
  subst hcls
  obtain ⟨ms, grown, taken⟩ := resolveWaiting_episode (episodeClass s f e) he held
  have same : SameOuter s (resolveWaiting f (episodeClass s f e) e.waiting s) :=
    resolveWaiting_keeps (sameOuter_keeps s) f _ _ (SameOuter.refl s)
  rw [closeEpisode_eq cause he rfl rfl taken, closeEpisode_unwaited cause taken rfl, grown.episodeClass same]

/-! ### The rows of a close (R62) -/

theorem exec_windowExpiry_due (h : closeDue s f = some .window) :
    exec (.episodeWindowExpiry f) s = .next (arbitrate s (closeEpisode f .window s)) := by
  show Host.Outcome.next (if closeDue s f == some .window then episodeExpiry f s else s) = _
  simp [episodeExpiry, h]

theorem exec_capExpiry_due (h : closeDue s f = some .cap) :
    exec (.episodeCapExpiry f) s = .next (arbitrate s (closeEpisode f .cap s)) := by
  show Host.Outcome.next (if closeDue s f == some .cap then episodeExpiry f s else s) = _
  simp [episodeExpiry, h]

theorem exec_windowExpiry_notDue (h : closeDue s f ≠ some .window) : exec (.episodeWindowExpiry f) s = .next s := by
  show Host.Outcome.next (if closeDue s f == some .window then episodeExpiry f s else s) = _
  simp [h]

theorem exec_capExpiry_notDue (h : closeDue s f ≠ some .cap) : exec (.episodeCapExpiry f) s = .next s := by
  show Host.Outcome.next (if closeDue s f == some .cap then episodeExpiry f s else s) = _
  simp [h]

/-- Only an ordinary episode closes by its window or its cap. -/
theorem closeDue_ordinary {cause : CloseCause} (he : s.episode f = some e) (due : closeDue s f = some cause) :
    e.kind ≠ .shed := by
  intro shed
  simp [closeDue, he, shed] at due

end Sys2Proof.Machine
open Sys2Proof Sys2Proof.Machine
/-- Settles O57: the close's own walk takes the waiting probes, after which none waits and the class stands; what a
probe becomes is one lemma per resume point and per kind. -/
theorem waitingProbesTakeTheClass : Obligations.WaitingProbesTakeTheClass := by
  intro s f e he
  refine ⟨fun cls => ?_, fun held => ?_, fun c p hc hf => ?_⟩
  · rw [resolveWaiting_eq]
    refine List.foldl_ext _ _ _ fun t c _ => ?_
    cases e.waiting.getLsbD c.val <;> rfl
  · intro cls t
    have decided {cause} (due : closeDue s f = some cause) : episodeClass s f e = cls := by
      simp [episodeClass_eq, closeDue_ordinary he due, cls]
    refine ⟨fun due => ?_, fun due => ?_⟩
    · rw [exec_windowExpiry_due due, closeEpisode_resolved .window he (decided due) held]
    · rw [exec_capExpiry_due due, closeEpisode_resolved .cap he (decided due) held]
  · intro d k ended free
    refine ⟨localResume_running he hc, fun j => localResume_ramp_start he hc, fun j i => localResume_ramp_step he hc,
      localResume_confirm he hc, fun paused => ?_, fun full window => ?_, fun cause look kind locked => ?_⟩
    · exact (localResume_lookPass he hc hf paused).trans (passLook_eq s c d)
    · exact abandonProbe_full_unwindowed he hc hf full window
    · rw [abandonProbe_look hc kind, District.lookless_locked]
      rwa [endProbe_district_self s hc]
end

section
/-! The counts of a close, as a walk over the members in close order, and the close of an episode on which no probe
waits (R69 to R76). -/

namespace Sys2Proof.Machine

variable {s : State} {f : FeedId} {e : Episode}

/-! ### One count (R75) -/

/-- A member once the close has told it its count. -/
def District.counted (r : District) : District :=
  { r with st := match r.st with
    | .cooling .merging => .cooling .counting
    | .isolated .coolPending => .isolated .coolRetained
    | x => x }

/-- The timer `t` of a member in state `x` once the close has told it its count. -/
def countedTimer (x : DistrictState) (count : Nat) (t : Timer) : Timer :=
  match x with
  | .cooling .merging => loaded .cool count
  | .isolated .coolPending => { loaded .cool count with running := false }
  | _ => t

/-- The record and the timer of district `d` once the close has told it its count (R75). -/
def countedAt (s : State) (d : DistrictId) (count : Nat) : District × Timer :=
  ((s.district d).counted, countedTimer (s.district d).st count (s.timer d))

theorem countedAt_skipped {d : DistrictId} (h : receivesCount s d = false) (count : Nat) :
    countedAt s d count = (s.district d, s.timer d) := by
  have merging : (s.district d).st ≠ .cooling .merging := fun hx => by simp [receivesCount, hx] at h
  have pending : (s.district d).st ≠ .isolated .coolPending := fun hx => by simp [receivesCount, hx] at h
  simp [countedAt, District.counted, countedTimer]

theorem handCount_eq (d : DistrictId) (count : Nat) (s : State) : handCount d count s =
    (s.setDistrict d (countedAt s d count).1).setTimer d (countedAt s d count).2 := by
  unfold handCount
  split
  · next merging =>
    simp [countedAt, District.counted, countedTimer, merging, loadTimer_eq, setSt, State.modDistrict]
  · next pending =>
    simp [countedAt, District.counted, countedTimer, pending, retainCount_eq, setSt, State.modDistrict]
  · next merging pending =>
    rw [countedAt_skipped (by simp [receivesCount])]
    simp

/-! ### The walk over the members in close order (R72 to R75) -/

theorem handCounts_receives {d : DistrictId} (h : receivesCount s d = true) (cls : EpisodeClass)
    (ds : List DistrictId) (i : Nat) : handCounts f cls (d :: ds) i s =
      handCounts f cls ds (i + 1) (handCount d (memberCount s f cls d i) s) := by
  rw [handCounts, if_pos h]

theorem handCounts_skips {d : DistrictId} (h : receivesCount s d = false) (cls : EpisodeClass)
    (ds : List DistrictId) (i : Nat) : handCounts f cls (d :: ds) i s = handCounts f cls ds i s := by
  rw [handCounts, h, if_neg Bool.false_ne_true]

theorem handCounts_same (f : FeedId) (cls : EpisodeClass) (ds : List DistrictId) : ∀ (i : Nat) (s : State),
    ∃ v w, handCounts f cls ds i s = { s with districts := v, timers := w } := by
  induction ds with
  | nil => exact fun i s => ⟨s.districts, s.timers, rfl⟩
  | cons d ds ih =>
    intro i s
    cases h : receivesCount s d with
    | true =>
      obtain ⟨v, w, rest⟩ := ih (i + 1) (handCount d (memberCount s f cls d i) s)
      exact ⟨v, w, by rw [handCounts_receives h, rest, handCount_eq]; rfl⟩
    | false =>
      rw [handCounts_skips h]
      exact ih i s

/-- A member is left alone while another is told its count. -/
theorem handCount_other {d x : DistrictId} (ne : d ≠ x) (count : Nat) (s : State) :
    (handCount x count s).district d = s.district d ∧ (handCount x count s).timer d = s.timer d := by
  simp [handCount_eq, State.setDistrict_district, State.setTimer_timer, ne.symm]

theorem receivesCount_congr {t : State} {d : DistrictId} (h : t.district d = s.district d) :
    receivesCount t d = receivesCount s d := by
  unfold receivesCount
  rw [h]

theorem memberCount_congr {t : State} {d : DistrictId} (cfg : t.cfg = s.cfg) (h : t.district d = s.district d)
    (f : FeedId) (cls : EpisodeClass) (i : Nat) : memberCount t f cls d i = memberCount s f cls d i := by
  cases cls <;> simp [memberCount, backoff, State.fcfg, cfg, h]

/-- The count of district `d` where the members still to come are `ds` and the next index is `i` (R72 to R74). -/
def countAmong (s : State) (f : FeedId) (cls : EpisodeClass) (ds : List DistrictId) (i : Nat) (d : DistrictId) : Nat :=
  memberCount s f cls d (i + (ds.filter (receivesCount s)).idxOf d)

theorem countAmong_head {d : DistrictId} (h : receivesCount s d = true) (cls : EpisodeClass) (ds : List DistrictId)
    (i : Nat) : countAmong s f cls (d :: ds) i d = memberCount s f cls d i := by
  simp [countAmong, h]

theorem countAmong_skips {x : DistrictId} (h : receivesCount s x = false) (cls : EpisodeClass) (ds : List DistrictId)
    (i : Nat) (d : DistrictId) : countAmong s f cls (x :: ds) i d = countAmong s f cls ds i d := by
  simp [countAmong, h]

theorem countAmong_tail {x d : DistrictId} (h : receivesCount s x = true) (ne : d ≠ x) (cls : EpisodeClass)
    {ds : List DistrictId} (hx : x ∉ ds) (i count : Nat) :
    countAmong (handCount x count s) f cls ds (i + 1) d = countAmong s f cls (x :: ds) i d := by
  obtain ⟨same, -⟩ := handCount_other ne count s
  have receivers : ds.filter (receivesCount (handCount x count s)) = ds.filter (receivesCount s) :=
    List.filter_congr fun y hy => receivesCount_congr (handCount_other (fun same : y = x => hx (same ▸ hy)) count s).1
  have cfg : (handCount x count s).cfg = s.cfg := by simp [handCount_eq]
  rw [countAmong, countAmong, receivers, List.filter_cons_of_pos h, List.idxOf_cons_ne _ ne.symm,
    memberCount_congr cfg same]
  congr 1
  omega

theorem handCounts_reads (f : FeedId) (cls : EpisodeClass) (d : DistrictId) (ds : List DistrictId) (nodup : ds.Nodup) :
    ∀ (i : Nat) (s : State), ((handCounts f cls ds i s).district d, (handCounts f cls ds i s).timer d) =
      if d ∈ ds then countedAt s d (countAmong s f cls ds i d) else (s.district d, s.timer d) := by
  induction ds with
  | nil => intro i s; simp [handCounts]
  | cons x ds ih =>
    intro i s
    obtain ⟨hx, hds⟩ := List.nodup_cons.mp nodup
    cases h : receivesCount s x with
    | true =>
      rw [handCounts_receives h, ih hds]
      by_cases hd : d = x
      · subst hd
        rw [if_neg hx, if_pos List.mem_cons_self, countAmong_head h]
        simp [handCount_eq]
      · obtain ⟨district, timer⟩ := handCount_other hd (memberCount s f cls x i) s
        simp only [countedAt, district, timer, countAmong_tail h hd cls hx, List.mem_cons, hd, false_or]
    | false =>
      rw [handCounts_skips h, ih hds]
      by_cases hd : d = x
      · subst hd
        rw [if_neg hx, if_pos List.mem_cons_self, countedAt_skipped h]
      · simp only [countAmong_skips h, List.mem_cons, hd, false_or]

/-! ### The close order (R72) -/

theorem mem_closeOrder {ms : List DistrictId} {d : DistrictId} : d ∈ closeOrder s ms ↔ d ∈ ms := by
  have classes : ∀ p : Fin 4, p ∈ ([0, 1, 2, 3] : List (Fin 4)) := by decide
  simp only [closeOrder, List.mem_flatMap, List.mem_filter, beq_iff_eq]
  exact ⟨fun ⟨_, _, h, _⟩ => h, fun h => ⟨(s.dcfg d).priority, classes _, h, rfl⟩⟩

theorem nodup_closeOrder {ms : List DistrictId} (nodup : ms.Nodup) : (closeOrder s ms).Nodup := by
  refine List.nodup_flatMap.mpr ⟨fun p _ => nodup.filter _, ?_⟩
  refine List.Pairwise.imp ?_ (by decide : ([0, 1, 2, 3] : List (Fin 4)).Nodup)
  intro p q ne d hp hq
  simp only [List.mem_filter, beq_iff_eq] at hp hq
  exact ne (hp.2.symm.trans hq.2)

/-! ### The close with no probe waiting (R69, R76) -/

theorem closedWith_same (f : FeedId) (cls : EpisodeClass) (ms : List DistrictId) (cause : CloseCause) (s : State) :
    ∃ v w x, closedWith f cls ms cause s = { s with
      districts := v, timers := w, slots := x, episodes := s.episodes.set f none,
      summaries := s.summaries.set f { cls := some cls, count := ms.length, cause := some cause } } := by
  obtain ⟨v, w, told⟩ := handCounts_same f cls (closeOrder s ms) 0 s
  unfold closedWith
  rw [told]
  cases cls with
  | localClass => exact ⟨v, w, s.slots, rfl⟩
  | massClass =>
    obtain ⟨x, marked⟩ := markFeed_same f ((State.setEpisode { s with districts := v, timers := w } f none).setSummary f
      { cls := some .massClass, count := ms.length, cause := some cause })
    exact ⟨v, w, x, marked⟩

theorem closedWith_reads (f : FeedId) (cls : EpisodeClass) {ms : List DistrictId} (nodup : ms.Nodup)
    (cause : CloseCause) (s : State) (d : DistrictId) :
    ((closedWith f cls ms cause s).district d, (closedWith f cls ms cause s).timer d) =
      if d ∈ ms then countedAt s d (countAmong s f cls (closeOrder s ms) 0 d) else (s.district d, s.timer d) := by
  have told := handCounts_reads f cls d (closeOrder s ms) (nodup_closeOrder nodup) 0 s
  simp only [mem_closeOrder] at told
  rw [← told, closedWith.eq_def]
  cases cls <;> simp

theorem closedWith_slot (f : FeedId) (cls : EpisodeClass) (ms : List DistrictId) (cause : CloseCause) (s : State)
    (n : SlotId) : (closedWith f cls ms cause s).slot n =
      if cls = .massClass then (markFeed f s).slot n else s.slot n := by
  obtain ⟨v, w, told⟩ := handCounts_same f cls (closeOrder s ms) 0 s
  unfold closedWith
  rw [told]
  cases cls with
  | localClass => rfl
  | massClass =>
    simp only [if_true, markFeed_slot]
    rfl

theorem arbitrate_closedWith (f : FeedId) (cls : EpisodeClass) (ms : List DistrictId) (cause : CloseCause) (s : State) :
    arbitrate s (closedWith f cls ms cause s) = closedWith f cls ms cause s := by
  obtain ⟨v, w, x, closed⟩ := closedWith_same f cls ms cause s
  rw [closed]
  exact arbitrate_idle (fun _ h => h) rfl rfl rfl

end Sys2Proof.Machine
open Sys2Proof Sys2Proof.Machine
/-- Settles O56: with no probe waiting the close is the walk over the members in close order, each of which is told the
count of its place, and it gives the Arbiter no cause to look. -/
theorem episodeClosesGiveCounts : Obligations.EpisodeClosesGiveCounts := by
  intro s f e cause he none_waits nodup t
  have closes : t = closedWith f (episodeClass s f e) e.members cause s := closeEpisode_unwaited cause he none_waits
  have quiet : arbitrate s t = t := by rw [closes, arbitrate_closedWith]
  clear_value t
  subst closes
  refine ⟨?_, ?_, ?_⟩
  · rintro due rfl
    rw [exec_windowExpiry_due due, closeEpisode_unwaited _ he none_waits, quiet]
    exact ⟨rfl, exec_capExpiry_notDue (by simp [due])⟩
  · rintro due rfl
    rw [exec_capExpiry_due due, closeEpisode_unwaited _ he none_waits, quiet]
    exact ⟨rfl, exec_windowExpiry_notDue (by simp [due])⟩
  intro mass order count
  have cls : episodeClass s f e = if mass then .massClass else .localClass := episodeClass_eq s f e
  have counts (d : DistrictId) : countAmong s f (episodeClass s f e) (closeOrder s e.members) 0 d = count d := by
    rw [countAmong, Nat.zero_add, cls]
    show _ = if mass then _ else _
    split_ifs <;> rfl
  have is_mass : episodeClass s f e = .massClass ↔ mass := by
    by_cases h : mass
    · simp [cls, h]
    · simp [cls, h]
  have reads (d : DistrictId) := closedWith_reads f (episodeClass s f e) nodup cause s d
  simp only [counts] at reads
  obtain ⟨v, w, x, frame⟩ := closedWith_same f (episodeClass s f e) e.members cause s
  refine ⟨fun g => ?_, fun g => ?_, fun d => ?_, fun d => ?_, fun n => ?_, ?_⟩
  · rw [frame]
    exact (State.setEpisode_episode s f g none).trans (by simp only [eq_comm])
  · rw [frame]
    refine (State.setSummary_summary s f g _).trans ?_
    rw [cls]
    simp only [eq_comm]
  · refine (congrArg Prod.fst (reads d)).trans ?_
    split_ifs <;> rfl
  · refine (congrArg Prod.snd (reads d)).trans ?_
    split_ifs <;> rfl
  · rw [closedWith_slot]
    simp only [is_mass]
  · rw [frame]
end

section
/-! The expiries of the recovery timers (R80 to R89): the turn in which an expiry that places an entry is taken, and
what each expiry leaves (log entry 3). -/

namespace Sys2Proof.Machine

variable {s : State} {d : DistrictId}

/-! ### When an expiry is due (R82, R84, R86, R89) -/

theorem coolDue_iff : coolDue s d = true ↔
    (s.district d).st = .cooling .counting ∧ timerDue (s.timer d) .cool = true := by
  simp [coolDue]

theorem grantDue_iff : grantDue s d = true ↔
    (s.district d).st = .awaitingGrant ∧ timerDue (s.timer d) .grant = true := by
  simp [grantDue]

theorem probationDue_iff : probationDue s d = true ↔
    (s.district d).st = .live ∧ (s.district d).probation = true ∧ timerDue (s.timer d) .probation = true := by
  simp [probationDue, and_assoc]

theorem patrolDue_iff : patrolDue s d = true ↔
    (∃ cause look, (s.district d).st = .locked cause look) ∧ timerDue (s.timer d) .patrol = true := by
  unfold patrolDue
  cases (s.district d).st <;> simp

/-! ### The expiries of lower-numbered districts (R80, R98) -/

theorem mayPlace_locked {cause : LockCause} {look : LookStatus} (h : (s.district d).st = .locked cause look) :
    mayPlace s d = timerDue (s.timer d) .patrol := by
  simp [mayPlace, coolDue, patrolDue, h]

theorem mayPlace_counting (h : (s.district d).st = .cooling .counting) :
    mayPlace s d = (timerDue (s.timer d) .cool && (s.dcfg d).policy == .auto) := by
  simp [mayPlace, coolDue, patrolDue, h]

theorem mayPlace_other (cool : (s.district d).st ≠ .cooling .counting)
    (locked : ∀ cause look, (s.district d).st ≠ .locked cause look) : mayPlace s d = false := by
  have notPatrol : patrolDue s d = false := by
    rw [Bool.eq_false_iff, ne_eq, patrolDue_iff]
    rintro ⟨⟨cause, look, h⟩, -⟩
    exact locked cause look h
  simp [mayPlace, coolDue, cool, notPatrol]

theorem takeEarlier_placing (h : placementDue s d = true) : takeEarlier d s = earlierTaken s d := by
  rw [takeEarlier, if_pos h]
  refine List.foldl_ext _ _ _ fun t e _ => if_congr ?_ rfl rfl
  simp only [Bool.and_eq_true, decide_eq_true_eq, beq_iff_eq, and_assoc]
  refine and_congr_right' (and_congr_right' ?_)
  split
  · next counting => rw [mayPlace_counting counting]
  · next locked => rw [mayPlace_locked locked]
  · next cool locked => rw [mayPlace_other cool locked]

theorem takeEarlier_idle (h : placementDue s d = false) : takeEarlier d s = s := by
  simp [takeEarlier, h]

theorem earlierTaken_keeps {P : State → Prop} (hP : Keeps P) (h : P s) : P (earlierTaken s d) := by
  refine foldl_keeps _ _ (fun t e ht => ?_) s h
  dsimp only
  split_ifs
  · exact timerExpiry_keeps hP e ht
  · exact ht

theorem earlierTaken_sameOuter (s : State) (d : DistrictId) : SameOuter s (earlierTaken s d) :=
  earlierTaken_keeps (sameOuter_keeps s) (SameOuter.refl s)

theorem earlierTaken_notDue (h : ∀ e, e < d → (s.dcfg e).feed = (s.dcfg d).feed → (s.timer e).boundary = false) :
    earlierTaken s d = s := by
  refine foldl_keeps (P := fun t => t = s) _ _ (fun t e ht => ?_) s rfl
  subst ht
  dsimp only
  split_ifs with hc
  · exact timerExpiry_notDue (h e hc.1 hc.2.1)
  · rfl

/-! ### COOL (R82) -/

theorem coolExpiry_auto (due : coolDue s d = true) (auto : (s.dcfg d).policy = .auto) {u : State}
    (turn : earlierTaken s d = u) (still : coolDue u d = true) : coolExpiry d s = arbitrate u
      (((u.setTimer d Timer.empty).setDistrict d { u.district d with st := .queued }).setQueue (s.dcfg d).feed
        (queueWith u d .full)) := by
  have same : u.dcfg d = s.dcfg d := turn ▸ (earlierTaken_sameOuter s d).dcfg d
  have placing : placementDue s d = true := by simp [placementDue, due, auto]
  rw [coolExpiry, if_pos due, takeEarlier_placing placing, turn, takeCool, if_pos still]
  simp [same, auto, becomeQueued_eq, clearTimer_eq, queueWith]

theorem coolExpiry_granted (due : coolDue s d = true) (granted : (s.dcfg d).policy ≠ .auto) :
    coolExpiry d s = markDistrict [.grant] d ((s.setTimer d (loaded .grant s.cfg.globals.grantWindow)).setDistrict d
      { s.district d with st := .awaitingGrant }) := by
  have counting := (coolDue_iff.mp due).1
  have notPlacing : placementDue s d = false := by simp [placementDue, granted, patrolDue, counting]
  rw [coolExpiry, if_pos due, takeEarlier_idle notPlacing, takeCool, if_pos due]
  simp only [beq_iff_eq, granted, if_false, becomeAwaitingGrant_eq, clearTimer_eq]
  rw [arbitrate_idle (fun _ h => by simpa using h) (by simp) (by simp) (by simp)]
  simp

/-! ### GRANT and PROBATION (R84, R86) -/

theorem grantExpiry_due (due : grantDue s d = true) : grantExpiry d s = markDistrict [.locked, .grant] d
    ((s.setTimer d (lockedTimer s d)).setDistrict d { s.district d with st := .locked .grantLapsed .noLook }) := by
  have emptied : SameOuter s (s.setTimer d Timer.empty) := (sameOuter_keeps s).timer _ _ _ (SameOuter.refl s)
  rw [grantExpiry, if_pos due, clearTimer_eq, enterLocked_state, emptied.lockedTimer]
  simp

theorem probationExpiry_due (due : probationDue s d = true) : probationExpiry d s =
    (s.setTimer d Timer.empty).setDistrict d { s.district d with failures := 0, probation := false } := by
  rw [probationExpiry, if_pos due]
  rfl

/-! ### PATROL (R89) -/

theorem patrolExpiry_places {cause : LockCause} (due : patrolDue s d = true)
    (free : (s.district d).st = .locked cause .noLook) (clear : isolationSet s d = false) {u : State}
    (turn : earlierTaken s d = u) (still : patrolDue u d = true) (kept : (u.district d).st = .locked cause .noLook) :
    patrolExpiry d s = arbitrate u
      (((u.setTimer d (loaded .patrol s.cfg.globals.patrol)).setDistrict d
        { u.district d with st := .locked cause .queued }).setQueue (s.dcfg d).feed (queueWith u d .look)) := by
  have same : SameOuter s u := turn ▸ earlierTaken_sameOuter s d
  have placing : placementDue s d = true := by simp [placementDue, due, free, DistrictState.lookFree, clear]
  have unheld : isolationSet u d = false := by rw [same.isolationSet, clear]
  rw [patrolExpiry, if_pos due, takeEarlier_placing placing, turn, takePatrol, if_pos still]
  simp [kept, unheld, placeEntry_eq, setSt, State.modDistrict, loadPatrol, loadTimer_eq, same.dcfg, same.cfg,
    queueWith]

theorem lookFree_pending (cause : LockCause) {look : LookStatus} (h : look ≠ .noLook) :
    (DistrictState.locked cause look).lookFree = false := by
  cases look with
  | noLook => exact absurd rfl h
  | queued => rfl
  | inFlight => rfl

theorem patrolExpiry_reloads {cause : LockCause} {look : LookStatus} (due : patrolDue s d = true)
    (pending : (s.district d).st = .locked cause look) (hl : look ≠ .noLook) :
    patrolExpiry d s = s.setTimer d (loaded .patrol s.cfg.globals.patrol) := by
  have quiet : arbitrate s (loadPatrol d s) = loadPatrol d s := arbitrate_idle (fun _ h => h) rfl rfl rfl
  have notPlacing : placementDue s d = false := by
    simp [placementDue, coolDue, pending, lookFree_pending cause hl]
  rw [patrolExpiry, if_pos due, takeEarlier_idle notPlacing, takePatrol, if_pos due, pending]
  cases look with
  | noLook => exact absurd rfl hl
  | queued => exact quiet.trans (loadTimer_eq s d _ _)
  | inFlight => exact quiet.trans (loadTimer_eq s d _ _)

/-! ### An expiry that is not due (log entry 2) -/

theorem coolExpiry_notDue (h : timerDue (s.timer d) .cool ≠ true) : coolExpiry d s = s :=
  if_neg fun due => h (coolDue_iff.mp due).2

theorem grantExpiry_notDue (h : timerDue (s.timer d) .grant ≠ true) : grantExpiry d s = s :=
  if_neg fun due => h (grantDue_iff.mp due).2

theorem probationExpiry_notDue (h : timerDue (s.timer d) .probation ≠ true) : probationExpiry d s = s :=
  if_neg fun due => h (probationDue_iff.mp due).2.2

theorem patrolExpiry_notDue (h : timerDue (s.timer d) .patrol ≠ true) : patrolExpiry d s = s :=
  if_neg fun due => h (patrolDue_iff.mp due).2

end Sys2Proof.Machine

open Sys2Proof Sys2Proof.Machine
/-- Settles O47: an expiry that places an entry is taken in the state that `earlierTaken` gives, every other one in the
state as it stands. -/
theorem timerExpiries : Obligations.TimerExpiries := by
  intro s d r k due u
  refine ⟨earlierTaken_notDue, fun counting fires => ⟨fun auto still kept => ?_, fun policy => ?_⟩,
    fun awaiting fires => congrArg _ (grantExpiry_due (grantDue_iff.mpr ⟨awaiting, fires⟩)),
    fun live flag fires => congrArg _ (probationExpiry_due (probationDue_iff.mpr ⟨live, flag, fires⟩)),
    fun cause free clear fires still kept => ?_, fun cause look pending hl fires => ?_,
    fun h => congrArg _ (coolExpiry_notDue h), fun h => congrArg _ (grantExpiry_notDue h),
    fun h => congrArg _ (probationExpiry_notDue h), fun h => congrArg _ (patrolExpiry_notDue h)⟩
  · have stillDue : coolDue u d = true := coolDue_iff.mpr ⟨still, kept ▸ fires⟩
    exact congrArg _ (coolExpiry_auto (coolDue_iff.mpr ⟨counting, fires⟩) auto rfl stillDue)
  · have granted : k.policy ≠ .auto := by rcases policy with h | h <;> simp [h]
    exact congrArg _ (coolExpiry_granted (coolDue_iff.mpr ⟨counting, fires⟩) granted)
  · have fired : patrolDue s d = true := patrolDue_iff.mpr ⟨⟨cause, .noLook, free⟩, fires⟩
    have stillDue : patrolDue u d = true := patrolDue_iff.mpr ⟨⟨cause, .noLook, still⟩, kept ▸ fires⟩
    exact congrArg _ (patrolExpiry_places fired free clear rfl stillDue still)
  · have fired : patrolDue s d = true := patrolDue_iff.mpr ⟨⟨cause, look, pending⟩, fires⟩
    exact congrArg _ (patrolExpiry_reloads fired pending hl)
end

section
/-! RETRY_NOW (R94), and the checks of every request that names one district (R164 to R169, R179). -/

namespace Sys2Proof.Machine

variable {s : State} {src : Byte}

/-! ### The checks of a request that names one district -/

theorem oneDistrict_badLength {payload : List Byte} (h : payload.length ≠ 1) (body : DistrictId → Answer) :
    oneDistrict payload s body = refuse .badArg [] s := by
  unfold oneDistrict
  split
  · exact absurd rfl h
  · rfl

theorem oneDistrict_badNumber {b : Byte} (h : 16 ≤ b.toNat) (body : DistrictId → Answer) :
    oneDistrict [b] s body = refuse .badArg [] s := by
  simp [oneDistrict, Nat.not_lt.mpr h]

/-- A request whose body reads one district number, then looks for the sender's slot, is checked in that order. -/
theorem districtChecked_of_body {request : Byte → List Byte → Instr} {kind : Byte}
    {body : DistrictId → SlotId → State → Answer} (taken : Taken s src [])
    (h : ∀ payload, exec (request src payload) s = done (takeRequest src kind payload
      (fun t => oneDistrict payload t (fun d => ofSlot src t (fun n => body d n t))) s)) :
    DistrictChecked request kind s src := by
  refine ⟨fun payload taken' length => ?_, fun b number => ?_, fun outsider d => ?_⟩
  · rw [h]
    exact takeRequest_refuses taken' _ (oneDistrict_badLength length _)
  · rw [h]
    exact takeRequest_refuses (taken.singleton b) _ (oneDistrict_badNumber number _)
  · rw [h]
    exact takeRequest_refuses (taken.singleton _) _ ((oneDistrict_byte s d _).trans (ofSlot_outsider s outsider _))

/-! ### RETRY_NOW by the district's state (R94) -/

theorem retried_line (s : State) (d : DistrictId) : (retried s d).line = s.line :=
  (grantRetry_keeps (sameOuter_keeps s) d (SameOuter.refl s)).line

/-- RETRY_NOW answers with byte 0 of the state that its body leaves. -/
theorem retryNow_answers (taken : Taken s src []) {d : DistrictId} {st : Status} {u : State}
    (hl : u.line = s.line) (h : bodyRetryNow src [byte d.val] s = stateAnswer st d u) :
    exec (.retryNow src [byte d.val]) s = .next (answered s u src 0x31#8 st [districtByte0 u d]) :=
  takeRequest_answers (taken.singleton _) _ h hl

section
variable {n : SlotId} (joined : slotOf s src = some n) {d : DistrictId}
include joined

theorem bodyRetryNow_retries (h : (s.district d).st = .awaitingGrant ∨ (s.district d).st = .cooling .counting) :
    bodyRetryNow src [byte d.val] s = stateAnswer .ok d (retried s d) := by
  rw [bodyRetryNow, oneDistrict_byte, ofSlot_joined s joined]
  rcases h with h | h <;> simp only [h, grantRetry_eq]

theorem bodyRetryNow_merging (h : (s.district d).st = .cooling .merging) :
    bodyRetryNow src [byte d.val] s = stateAnswer .busy d s := by
  rw [bodyRetryNow, oneDistrict_byte, ofSlot_joined s joined]
  simp only [h]

theorem bodyRetryNow_refuses (counting : ∀ p, (s.district d).st ≠ .cooling p)
    (awaiting : (s.district d).st ≠ .awaitingGrant) :
    bodyRetryNow src [byte d.val] s = stateAnswer .refusedState d s := by
  rw [bodyRetryNow, oneDistrict_byte, ofSlot_joined s joined]
  split
  · next h => exact absurd h (counting _)
  · next h => exact absurd h (counting _)
  · next h => exact absurd h awaiting
  · rfl
end

end Sys2Proof.Machine

open Sys2Proof Sys2Proof.Machine
/-- Settles O36: the body of RETRY_NOW answers by the district's state, after the checks of a request that names one
district. -/
theorem retryNowByState : Obligations.RetryNowByState := by
  intro s src taken
  refine ⟨districtChecked_of_body taken fun _ => rfl, fun d n joined =>
    ⟨fun h => retryNow_answers taken (retried_line s d) (bodyRetryNow_retries joined h),
     fun h => retryNow_answers taken rfl (bodyRetryNow_merging joined h),
     fun h => retryNow_answers taken rfl (bodyRetryNow_refuses joined ?_ ?_)⟩⟩
  · rintro p cooling
    simp [cooling, isLocked] at h
  · intro awaiting
    simp [awaiting, isLocked] at h
end

section
/-! Entry to RUN (R170, R171): the walk over the districts, and the queues in bands that it leaves (R98). -/

namespace Sys2Proof.Machine

variable {s : State}

/-! ### Queues in bands (R96, R98) -/

/-- The entries in bands by priority class, each band in the order of arrival. -/
def inBands (es : List Entry) : List Entry :=
  ([0, 1, 2, 3] : List (Fin 4)).flatMap (fun p => es.filter (fun e => e.priority == p))

theorem filter_inBands (es : List Entry) (keep : Fin 4 → Bool) :
    (inBands es).filter (fun e => keep e.priority) =
      ([0, 1, 2, 3] : List (Fin 4)).flatMap
        (fun p => if keep p then es.filter (fun e => e.priority == p) else []) := by
  have band (p : Fin 4) : (es.filter (fun e => e.priority == p)).filter (fun e => keep e.priority) =
      if keep p then es.filter (fun e => e.priority == p) else [] := by
    rw [List.filter_filter]
    split
    · next h =>
      refine List.filter_congr fun e _ => ?_
      by_cases he : e.priority = p <;> simp [he, h]
    · next h =>
      refine List.filter_eq_nil_iff.mpr fun e _ he => h ?_
      simp only [Bool.and_eq_true, beq_iff_eq] at he
      exact he.2 ▸ he.1
  rw [inBands, List.filter_flatMap]
  simp only [band]

/-- A placement at the tail of its band keeps the bands in the order of arrival (R98). -/
theorem placed_inBands (es : List Entry) (e : Entry) : placed (inBands es) e = inBands (es ++ [e]) := by
  rw [placed, filter_inBands es (fun p => decide (p ≤ e.priority)),
    filter_inBands es (fun p => decide (e.priority < p))]
  have classes : ∀ q : Fin 4, q = 0 ∨ q = 1 ∨ q = 2 ∨ q = 3 := by decide
  rcases classes e.priority with h | h | h | h <;> simp [inBands, h]

/-- The FULL entry of district `d` (R96). -/
def fullEntry (s : State) (d : DistrictId) : Entry := { district := d, kind := .full, priority := (s.dcfg d).priority }

theorem withoutEntry_absent {d : DistrictId} {es : List Entry} (h : ∀ e ∈ es, e.district ≠ d) :
    withoutEntry (inBands es) d = inBands es :=
  List.filter_eq_self.mpr fun e he => by
    obtain ⟨p, -, hp⟩ := List.mem_flatMap.mp he
    simpa using h e (List.mem_filter.mp hp).1

/-- Districts that are placed one after the other stand in bands in that order. -/
theorem foldl_placed (s : State) (ds : List DistrictId) (nodup : ds.Nodup) : ∀ es : List Entry,
    (∀ d ∈ ds, ∀ e ∈ es, e.district ≠ d) →
    ds.foldl (fun q d => placed (withoutEntry q d) (fullEntry s d)) (inBands es) =
      inBands (es ++ ds.map (fullEntry s)) := by
  induction ds with
  | nil => intro es _; simp
  | cons d ds ih =>
    intro es absent
    obtain ⟨hd, hds⟩ := List.nodup_cons.mp nodup
    have absent' : ∀ x ∈ ds, ∀ e ∈ es ++ [fullEntry s d], e.district ≠ x := by
      intro x hx e he
      rcases List.mem_append.mp he with he | he
      · exact absent x (List.mem_cons_of_mem d hx) e he
      · rw [List.mem_singleton.mp he]
        rintro rfl
        exact hd hx
    rw [List.foldl_cons, withoutEntry_absent (absent d List.mem_cons_self), placed_inBands, ih hds _ absent']
    simp

theorem inBands_map_fullEntry (s : State) (ds : List DistrictId) :
    inBands (ds.map (fullEntry s)) = ([0, 1, 2, 3] : List (Fin 4)).flatMap (fun p =>
      (ds.filter (fun d => (s.dcfg d).priority == p)).map
        (fun d => { district := d, kind := .full, priority := p })) := by
  refine List.flatMap_congr fun p _ => ?_
  rw [List.filter_map]
  refine List.map_congr_left fun d hd => ?_
  have class_d : (s.dcfg d).priority = p := by simpa [fullEntry] using (List.mem_filter.mp hd).2
  rw [fullEntry, class_d]

/-! ### One district at the entry to RUN (R171) -/

theorem off_iff_of_atRest {x : DistrictState} (h : atRest x = true) : x = .off ↔ isLocked x = false := by
  unfold atRest at h
  split at h
  · simp [isLocked]
  · simp [isLocked]
  · cases h

/-- District `d` becomes QUEUED at the entry to RUN. -/
def queuedAtEntry (s : State) (d : DistrictId) : Bool :=
  decide ((s.dcfg d).policy ≠ .dark) && (s.district d).st == .off && !isolationSet s d

/-- The record of district `d` after its turn at the entry to RUN, from the record it has. -/
def enteredDistrict (s : State) (d : DistrictId) (r : District) : District :=
  if (s.dcfg d).policy ≠ .dark ∧ r.st = .off then
    { r with st := if isolationSet s d then .isolated .queued else .queued }
  else r

/-- The timer of district `d` after its turn at the entry to RUN, from the state and the timer it has (R88). -/
def enteredTimer (s : State) (d : DistrictId) (x : DistrictState) (t : Timer) : Timer :=
  if isLocked x = true then
    if (s.dcfg d).patrol = true ∧ isolationSet s d = false then loaded .patrol s.cfg.globals.patrol else Timer.empty
  else t

theorem enteredTimer_locked {d : DistrictId} {x : DistrictState} (h : isLocked x = true) (c : Timer) :
    enteredTimer s d x c = if (s.dcfg d).patrol = true ∧ isolationSet s d = false then
      loaded .patrol s.cfg.globals.patrol else Timer.empty := if_pos h

theorem enteredTimer_free {d : DistrictId} {x : DistrictState} (h : isLocked x = false) (c : Timer) :
    enteredTimer s d x c = c := if_neg (by simp [h])

/-- The turn of district `d` at the entry to RUN, as one chain of updates. -/
def entryTurn (d : DistrictId) (s : State) : State :=
  ((s.setDistrict d (enteredDistrict s d (s.district d))).setTimer d
    (enteredTimer s d (s.district d).st (s.timer d))).setQueue (s.dcfg d).feed
      (if queuedAtEntry s d then queueWith s d .full else s.queue (s.dcfg d).feed)

theorem entryTurn_standing {d : DistrictId} (h : ¬((s.dcfg d).policy ≠ .dark ∧ (s.district d).st = .off)) :
    entryTurn d s = s.setTimer d (enteredTimer s d (s.district d).st (s.timer d)) := by
  have district : enteredDistrict s d (s.district d) = s.district d := if_neg h
  have unplaced : queuedAtEntry s d = false := by
    simp only [queuedAtEntry, Bool.and_eq_false_iff, decide_eq_false_iff_not, beq_eq_false_iff_ne]
    exact .inl (not_and_or.mp h)
  rw [entryTurn, district, unplaced, State.setDistrict_own]
  exact State.setQueue_own (s.setTimer d _) _

theorem entryTurn_off {d : DistrictId} (policy : (s.dcfg d).policy ≠ .dark) (off : (s.district d).st = .off) :
    entryTurn d s = if isolationSet s d then setSt d (.isolated .queued) s else becomeQueued d s := by
  have timer : enteredTimer s d (s.district d).st (s.timer d) = s.timer d := enteredTimer_free (by rw [off]; rfl) _
  have own (r : District) : (s.setDistrict d r).setTimer d (s.timer d) = s.setDistrict d r :=
    State.setTimer_own (s.setDistrict d r) d
  have district : enteredDistrict s d (s.district d) = { s.district d with
      st := if isolationSet s d then .isolated .queued else .queued } := if_pos ⟨policy, off⟩
  have placed : queuedAtEntry s d = !isolationSet s d := by simp [queuedAtEntry, policy, off]
  rw [entryTurn, timer, own, district, placed]
  cases isolationSet s d with
  | true => exact State.setQueue_own (setSt d (.isolated .queued) s) _
  | false => exact (becomeQueued_eq s d).symm

theorem enterDistrict_eq (d : DistrictId) (s : State) : enterDistrict d s = entryTurn d s := by
  unfold enterDistrict
  split
  · next locked =>
    rw [entryTurn_standing (by simp [locked]), enteredTimer_locked (by rw [locked]; rfl)]
    simp only [Bool.and_eq_true, Bool.not_eq_true', loadPatrol, loadTimer_eq, clearTimer_eq]
    split <;> rfl
  · next off =>
    simp only [beq_iff_eq]
    split
    · next dark =>
      rw [entryTurn_standing (by simp [dark]), enteredTimer_free (by rw [off]; rfl), State.setTimer_own]
    · next policy => rw [entryTurn_off policy off]
  · next notLocked notOff =>
    have free : isLocked (s.district d).st = false := by
      unfold isLocked
      split
      · next locked => exact absurd locked (notLocked _ _)
      · rfl
    rw [entryTurn_standing (fun h => notOff h.2), enteredTimer_free free, State.setTimer_own]

section
variable {t : State} (same : SameOuter (s.setMode .run) t)
include same

theorem SameOuter.enteredDistrict (d : DistrictId) (r : District) :
    enteredDistrict t d r = enteredDistrict s d r := by
  simp only [Machine.enteredDistrict, same.dcfg, same.isolationSet]
  rfl

theorem SameOuter.enteredTimer (d : DistrictId) (x : DistrictState) (c : Timer) :
    enteredTimer t d x c = enteredTimer s d x c := by
  simp only [Machine.enteredTimer, same.dcfg, same.isolationSet, same.cfg]
  rfl

theorem SameOuter.queuedAtEntry (d : DistrictId) (own : t.district d = s.district d) :
    queuedAtEntry t d = queuedAtEntry s d := by
  simp only [Machine.queuedAtEntry, same.dcfg, same.isolationSet, own]
  rfl
end

theorem enterDistrict_keeps {P : State → Prop} (hP : Keeps P) (d : DistrictId) {t : State} (h : P t) :
    P (enterDistrict d t) := by
  have holders : (enteredDistrict t d (t.district d)).holders = (t.district d).holders := by
    unfold enteredDistrict
    split <;> rfl
  rw [enterDistrict_eq, entryTurn]
  exact hP.queue _ _ _ (hP.timer _ _ _ (hP.district _ _ _ holders h))

/-! ### The walk over the districts (R171) -/

/-- The state in which the Arbiter looks at the entry to RUN. -/
def entered (s : State) : State := forDistricts enterDistrict (s.setMode .run)

theorem enterDistrict_sameOuter (d : DistrictId) (t : State) (h : SameOuter (s.setMode .run) t) :
    SameOuter (s.setMode .run) (enterDistrict d t) := enterDistrict_keeps (sameOuter_keeps _) d h

theorem entered_sameOuter (s : State) : SameOuter (s.setMode .run) (entered s) :=
  forDistricts_keeps enterDistrict_sameOuter (SameOuter.refl _)

theorem enterDistrict_other {d e : DistrictId} (h : e ≠ d) (t : State) :
    ((enterDistrict e t).district d, (enterDistrict e t).timer d) = (t.district d, t.timer d) := by
  simp [enterDistrict_eq, entryTurn, State.setDistrict_district, State.setTimer_timer, h]

theorem entered_own (s : State) (d : DistrictId) : ((entered s).district d, (entered s).timer d) =
    (enteredDistrict s d (s.district d), enteredTimer s d (s.district d).st (s.timer d)) :=
  forDistricts_read (d := d) (read := fun t => (t.district d, t.timer d))
    (φ := fun x => (enteredDistrict s d x.1, enteredTimer s d x.1.st x.2))
    enterDistrict_sameOuter
    (fun t same => by simp [enterDistrict_eq, entryTurn, same.enteredDistrict, same.enteredTimer])
    (fun e he t _ => enterDistrict_other he t) (SameOuter.refl _)

theorem entered_district (s : State) (d : DistrictId) :
    (entered s).district d = enteredDistrict s d (s.district d) := (Prod.mk.inj (entered_own s d)).1

theorem entered_timer (s : State) (d : DistrictId) :
    (entered s).timer d = enteredTimer s d (s.district d).st (s.timer d) := (Prod.mk.inj (entered_own s d)).2

/-- What the turn of district `d` makes of the queue of feed `f`. -/
def queueTurn (s : State) (f : FeedId) (d : DistrictId) (q : List Entry) : List Entry :=
  if (decide ((s.dcfg d).feed = f) && queuedAtEntry s d) = true then placed (withoutEntry q d) (fullEntry s d) else q

theorem enterDistrict_queue {t : State} (same : SameOuter (s.setMode .run) t) (f : FeedId) {d : DistrictId}
    (own : t.district d = s.district d) : (enterDistrict d t).queue f = queueTurn s f d (t.queue f) := by
  have dcfg : t.dcfg d = s.dcfg d := same.dcfg d
  rw [enterDistrict_eq, entryTurn, State.setQueue_queue, dcfg, same.queuedAtEntry d own]
  unfold queueTurn
  by_cases hf : (s.dcfg d).feed = f
  · subst hf
    by_cases hq : queuedAtEntry s d = true
    · simp [hq, queueWith, fullEntry, withoutEntry, dcfg]
    · simp [hq]
  · simp [hf]

theorem entered_queue (f : FeedId) (empty : s.queue f = []) : (entered s).queue f = inBands
    ((allDistricts.filter (fun d => decide ((s.dcfg d).feed = f) && queuedAtEntry s d)).map (fullEntry s)) := by
  have walk : (entered s).queue f = allDistricts.foldl (fun q d => queueTurn s f d q) (s.queue f) :=
    foldl_own (item := fun t d => t.district d) (read := fun t => t.queue f) s enterDistrict_sameOuter
      (fun e d t _ h => congrArg Prod.fst (enterDistrict_other h.symm t))
      (fun d t same own => enterDistrict_queue same f own) allDistricts (by decide) (s.setMode .run)
      (SameOuter.refl _) (fun _ _ => rfl)
  have placements := foldl_placed s _ ((by decide : allDistricts.Nodup).filter
    (fun d => decide ((s.dcfg d).feed = f) && queuedAtEntry s d)) [] (by simp)
  rw [walk, empty]
  rw [List.foldl_filter] at placements
  exact placements

theorem entered_rest (s : State) : { entered s with
    mode := s.mode, districts := s.districts, timers := s.timers, queues := s.queues } = s :=
  forDistricts_keeps (P := fun t => { t with
      mode := s.mode, districts := s.districts, timers := s.timers, queues := s.queues } = s)
    (fun d t h => by rw [enterDistrict_eq]; exact h) rfl

/-! ### SET_MODE (R170) -/

theorem modeOfCode_none {b : Byte} (standby : b ≠ 0#8) (run : b ≠ 1#8) : modeOfCode b = none := by
  unfold modeOfCode
  split
  · exact absurd rfl standby
  · exact absurd rfl run
  · rfl

variable {src : Byte}

theorem bodySetMode_badMode {payload : List Byte} (standby : payload ≠ [0#8]) (run : payload ≠ [1#8]) :
    bodySetMode src payload s = refuse .badArg [] s := by
  unfold bodySetMode
  split
  · next b =>
    rw [modeOfCode_none (fun h => standby (by rw [h])) (fun h => run (by rw [h]))]
  · rfl

theorem bodySetMode_outsider {payload : List Byte} (h : payload = [0#8] ∨ payload = [1#8])
    (outsider : slotOf s src = none) : bodySetMode src payload s = refuse .notJoined [] s := by
  rcases h with rfl | rfl <;> exact ofSlot_outsider s outsider _

theorem entered_look_sameOuter (s : State) : SameOuter (s.setMode .run) (arbiterLook (entered s)) :=
  arbiterLook_keeps (sameOuter_keeps _) (entered_sameOuter s)

theorem entered_look_line (s : State) : (arbiterLook (entered s)).line = s.line := (entered_look_sameOuter s).line

theorem modeByte_standby (h : s.mode = .standby) : modeByte s = [0#8] := by
  rw [modeByte, h]
  rfl

theorem modeByte_run (h : s.mode = .run) : modeByte s = [1#8] := by
  rw [modeByte, h]
  rfl

section
variable {n : SlotId} (joined : slotOf s src = some n)
include joined

theorem bodySetMode_standing_run (h : s.mode = .run) : bodySetMode src [1#8] s = ⟨.ok, [1#8], s⟩ := by
  refine (ofSlot_joined s joined _).trans ?_
  simp only [requestMode, h, modeByte_run]

theorem bodySetMode_standing_standby (h : s.mode = .standby) : bodySetMode src [0#8] s = ⟨.ok, [0#8], s⟩ := by
  refine (ofSlot_joined s joined _).trans ?_
  simp only [requestMode, h, modeByte_standby]

theorem bodySetMode_writing (h : s.mode = .standby) (writing : s.writing.isSome) :
    bodySetMode src [1#8] s = ⟨.busy, [0#8], s⟩ := by
  refine (ofSlot_joined s joined _).trans ?_
  simp only [requestMode, h, writing, modeByte_standby, if_true]
  rfl

theorem bodySetMode_enters (h : s.mode = .standby) (idle : s.writing = none) :
    bodySetMode src [1#8] s = ⟨.ok, [1#8], arbiterLook (entered s)⟩ := by
  refine (ofSlot_joined s joined _).trans ?_
  have byte_run : modeByte (enterRun s) = [1#8] := modeByte_run (entered_look_sameOuter s).mode
  simp only [requestMode, h, idle, byte_run]
  rfl
end

end Sys2Proof.Machine

open Sys2Proof Sys2Proof.Machine
/-- Settles O44: in a sound STANDBY a district that is not LOCKED is OFF, so the walk over the districts gives each
district, timer and queue by its own turn, and the look follows. -/
theorem enteringRun : Obligations.EnteringRun := by
  refine ⟨fun s src payload taken =>
    ⟨fun standby run => takeRequest_refuses taken _ (bodySetMode_badMode standby run),
     fun mode outsider => takeRequest_refuses taken _ (bodySetMode_outsider mode outsider)⟩, ?_⟩
  intro s src n taken joined
  refine ⟨fun run => takeRequest_answers (taken.singleton _) _ (bodySetMode_standing_run joined run) rfl,
    fun standby => takeRequest_answers (taken.singleton _) _ (bodySetMode_standing_standby joined standby) rfl,
    fun standby writing => takeRequest_answers (taken.singleton _) _ (bodySetMode_writing joined standby writing) rfl,
    fun standby idle sound empty => ⟨entered s, takeRequest_answers (taken.singleton _) _
      (bodySetMode_enters joined standby idle) (entered_look_line s), entered_rest s,
      (entered_sameOuter s).mode, ?_⟩⟩
  have off (d : DistrictId) : (s.district d).st = .off ↔ isLocked (s.district d).st = false :=
    off_iff_of_atRest (sound.standby standby d).1
  intro enters
  refine ⟨fun d stands => ?_, fun d goes => ?_, fun d locked => ?_, fun d free => ?_, fun f => ?_⟩
  · rw [entered_district]
    exact if_neg (by rwa [off])
  · rw [entered_district]
    exact if_pos (by rwa [off])
  · rw [entered_timer, enteredTimer_locked locked]
  · rw [entered_timer, enteredTimer_free free]
  · rw [entered_queue f (empty f), inBands_map_fullEntry]
    refine List.flatMap_congr fun p _ => congrArg _ ?_
    rw [List.filter_filter]
    refine List.filter_congr fun d _ => ?_
    rw [Bool.eq_iff_iff]
    simp only [queuedAtEntry, off, Bool.and_eq_true, beq_iff_eq, decide_eq_true_eq, Bool.not_eq_true']
    tauto
end

section
/-! The placement of an entry in a queue in bands (R98). -/

namespace Sys2Proof.Machine

/-- In a queue in bands the entries of a class above `p` stand behind all others, so taking them out and putting them
at the end gives the queue again (R96). -/
theorem filter_append_filter_of_sorted (p : Fin 4) {q : List Entry}
    (sorted : q.Pairwise (fun a b => a.priority ≤ b.priority)) :
    q.filter (fun x => decide (x.priority ≤ p)) ++ q.filter (fun x => decide (p < x.priority)) = q := by
  induction q with
  | nil => rfl
  | cons a q ih =>
    obtain ⟨least, sorted⟩ := List.pairwise_cons.mp sorted
    rcases le_or_gt a.priority p with ha | ha
    · simpa [ha] using ih sorted
    · have behind : ∀ x ∈ q, p < x.priority := fun x hx => lt_of_lt_of_le ha (least x hx)
      have front : q.filter (fun x => decide (x.priority ≤ p)) = [] :=
        List.filter_eq_nil_iff.mpr fun x hx => by simpa using behind x hx
      have back : q.filter (fun x => decide (p < x.priority)) = q :=
        List.filter_eq_self.mpr fun x hx => by simpa using behind x hx
      simp [front, back, ha]

end Sys2Proof.Machine

open Sys2Proof Sys2Proof.Machine
/-- Settles O14: a placement cuts the queue at the end of the entry's band. -/
theorem placementAtTheTailOfTheBand : Obligations.PlacementAtTheTailOfTheBand := fun q e sorted =>
  ⟨q.filter (fun x => decide (x.priority ≤ e.priority)), q.filter (fun x => decide (e.priority < x.priority)), rfl,
    filter_append_filter_of_sorted e.priority sorted,
    fun _ hx => of_decide_eq_true (List.mem_filter.mp hx).2, fun _ hx => of_decide_eq_true (List.mem_filter.mp hx).2⟩
end

section
/-! A look of the Arbiter: the channel and the feed of a grant, that four grants end a look, and the causes of a look
(R100 to R106). -/

namespace Sys2Proof.Machine

variable {s : State}

/-! ### The channel and the feed of a grant (R104) -/

theorem freeChannel_eq_some {c : ChannelId} :
    freeChannel s = some c ↔ s.channel c = none ∧ ∀ b, b < c → (s.channel b).isSome := by
  have lowest : ∀ (c : ChannelId) (p : ChannelId → Bool),
      allChannels.find? p = some c ↔ p c = true ∧ ∀ b, b < c → p b = false := by decide
  simp [freeChannel, lowest]

theorem find?_roundRobin {last f : FeedId} {p : FeedId → Bool} : (roundRobin last).find? p = some f ↔
    p f = true ∧ ∀ g : FeedId, (g - last - 1).val < (f - last - 1).val → p g = false := by
  revert last f p
  decide

theorem mem_roundRobin : ∀ last f : FeedId, f ∈ roundRobin last := by decide

theorem admissible_iff {f : FeedId} : admissible s f = true ↔ ∃ e rest, s.queue f = e :: rest ∧ s.mode = .run ∧
    (s.feed f).stalled = false ∧ budgetInUse s f + effectiveWeight s f e ≤ (s.fcfg f).budget := by
  unfold admissible
  cases s.queue f with
  | nil => simp
  | cons e rest => simp [and_assoc]

theorem nextGrant_eq {c : ChannelId} {f : FeedId} {e : Entry} {rest : List Entry} (hc : freeChannel s = some c)
    (hf : (roundRobin s.lastGranted).find? (admissible s) = some f) (hq : s.queue f = e :: rest) :
    nextGrant s = some (grantChannel s f c e rest) := by
  simp [nextGrant, hc, hf, hq]

theorem nextGrant_eq_none :
    nextGrant s = none ↔ freeChannel s = none ∨ ∀ f, admissible s f = false := by
  have idle : (roundRobin s.lastGranted).find? (admissible s) = none ↔ ∀ f, admissible s f = false := by
    simp [List.find?_eq_none, mem_roundRobin]
  rw [← idle]
  cases hc : freeChannel s with
  | none => simp [nextGrant, hc]
  | some c =>
    cases hf : (roundRobin s.lastGranted).find? (admissible s) with
    | none => simp [nextGrant, hc, hf]
    | some f =>
      obtain ⟨e, rest, hq, -⟩ := admissible_iff.mp (List.find?_some hf)
      simp [nextGrant_eq hc hf hq]

/-! ### Four grants end a look (R104) -/

/-- The number of free channels. -/
def freeCount (s : State) : Nat := allChannels.countP (fun c => (s.channel c).isNone)

theorem freeCount_le_four (s : State) : freeCount s ≤ 4 := List.countP_le_length

theorem grantChannel_channels (s : State) (f : FeedId) (c : ChannelId) (e : Entry) (rest : List Entry) :
    (grantChannel s f c e rest).channels =
      (s.setChannel c (some (startProbe s f e (effectiveWeight s f e)))).channels := by
  unfold grantChannel grantedState
  cases e.kind with
  | full => rfl
  | look => exact setLook_channels _ _ _

theorem freeCount_nextGrant {t : State} (h : nextGrant s = some t) : freeCount s = freeCount t + 1 := by
  obtain ⟨c, f, e, rest, hc, -, -, rfl⟩ := nextGrant_some s h
  have taken : ∀ (c : ChannelId) (p : ChannelId → Bool), p c = true →
      allChannels.countP p = allChannels.countP (fun k => if c = k then false else p k) + 1 := by decide
  have free : (s.channel c).isNone = true := by simp [(freeChannel_eq_some.mp hc).1]
  rw [freeCount, taken c _ free, freeCount]
  congr 2
  funext k
  rw [State.channel, State.channel, grantChannel_channels, ← State.channel, ← State.channel,
    State.setChannel_channel]
  split <;> rfl

theorem nextGrant_of_freeCount_zero (h : freeCount s = 0) : nextGrant s = none := by
  cases granted : nextGrant s with
  | none => rfl
  | some t => simp [freeCount_nextGrant granted] at h

/-- As many grants as there are free channels end in a state with no further grant. -/
theorem nextGrant_grants (n : Nat) : ∀ s, freeCount s ≤ n → nextGrant (grants n s) = none := by
  induction n with
  | zero => exact fun s h => nextGrant_of_freeCount_zero (Nat.le_zero.mp h)
  | succ n ih =>
    intro s h
    unfold grants
    cases granted : nextGrant s with
    | none => exact granted
    | some t => exact ih t (by have := freeCount_nextGrant granted; omega)

/-- A further grant than there are free channels changes nothing. -/
theorem grants_succ (n : Nat) : ∀ s, freeCount s ≤ n → grants (n + 1) s = grants n s := by
  induction n with
  | zero =>
    intro s h
    simp [grants, nextGrant_of_freeCount_zero (Nat.le_zero.mp h)]
  | succ n ih =>
    intro s h
    rw [grants, grants]
    cases granted : nextGrant s with
    | none => rfl
    | some t => exact ih t (by have := freeCount_nextGrant granted; omega)

theorem nextGrant_arbiterLook (s : State) : nextGrant (arbiterLook s) = none :=
  nextGrant_grants 4 s (freeCount_le_four s)

theorem arbiterLook_none (h : nextGrant s = none) : arbiterLook s = s := by simp [arbiterLook, grants, h]

theorem arbiterLook_some {t : State} (h : nextGrant s = some t) : arbiterLook s = arbiterLook t := by
  have left : freeCount t ≤ 3 := by
    have := freeCount_nextGrant h
    have := freeCount_le_four s
    omega
  calc arbiterLook s = grants 3 t := by rw [arbiterLook, grants, h]
    _ = arbiterLook t := (grants_succ 3 t left).symm

/-! ### The causes of a look (R105) -/

theorem lookCaused_iff {before after : State} : lookCaused before after = true ↔
    (∃ c, (before.channel c).isSome ∧ after.channel c = none) ∨
      (∃ f, (before.queue f).head? ≠ (after.queue f).head?) ∨
      (∃ f, (before.feed f).stalled = true ∧ (after.feed f).stalled = false) ∨
      (before.mode = .standby ∧ after.mode = .run) := by
  have feeds : ∀ f, f ∈ allFeeds := by decide
  simp [lookCaused, mem_allChannels, feeds, or_assoc]

end Sys2Proof.Machine

open Sys2Proof Sys2Proof.Machine
/-- Settles O15: each grant takes a free channel, so the fourth leaves none; the causes of a look are those that
`arbitrate` compares. -/
theorem lookGrantsUntilNothingIsLeft : Obligations.LookGrantsUntilNothingIsLeft := by
  refine fun s => ⟨?_, nextGrant_eq_none.mp (nextGrant_arbiterLook s), fun before => ?_⟩
  · cases h : nextGrant s with
    | none => exact arbiterLook_none h
    | some t => exact arbiterLook_some h
  · rw [← lookCaused_iff]
    exact ⟨fun caused => if_pos caused, fun quiet => if_neg quiet⟩
end

section
/-! The grant by value (R106, R113, R127). -/

namespace Sys2Proof.Machine

variable {s : State}

theorem setDistrict_st {d : DistrictId} {x : DistrictState} (h : (s.district d).st = x) :
    s.setDistrict d { s.district d with st := x } = s := by
  subst h
  exact State.setDistrict_own s d

/-- The change of the district's state at a grant: a look is in flight in LOCKED alone (R106). -/
theorem grantedState_eq (k : EntryKind) (d : DistrictId) (s : State) :
    grantedState k d s = s.setDistrict d { s.district d with
      st := match k, (s.district d).st with
        | .full, _ => .probing
        | .look, .locked cause _ => .locked cause .inFlight
        | .look, x => x } := by
  cases k with
  | full => rfl
  | look =>
    unfold grantedState setLook
    cases h : (s.district d).st with
    | locked cause look => rfl
    | _ => exact (setDistrict_st h).symm

end Sys2Proof.Machine

open Sys2Proof Sys2Proof.Machine
/-- Settles O16: the channel and the feed are the first that the walks find, and the grant is its chain of updates. -/
theorem grantTakesItsTurn : Obligations.GrantTakesItsTurn := by
  refine ⟨fun s f => ⟨budgetInUse_foldl s f, ?_⟩, ?_⟩
  · rw [admissible_iff, budgetInUse_foldl]
    rfl
  · intro s c f e rest free below head fits turn
    rw [nextGrant_eq (freeChannel_eq_some.mpr ⟨free, below⟩) (find?_roundRobin.mpr ⟨fits, turn⟩) head,
      grantChannel, grantedState_eq]
    obtain ⟨d, kind, priority⟩ := e
    cases kind <;> rfl
end

section
/-! The bound of a feed's budget in use (R103, R108): what single updates and grants keep of it. -/

namespace Sys2Proof.Machine

variable {g : FeedId} {n : Nat} {t u : State}

/-- Feed `g` uses no more than the larger of `n` and its budget in force. With `n` the budget in use before a step, this
holds all through the step: a grant fits in the budget in force, a budget write leaves the use as it is, and every other
update frees a channel or leaves its weight. -/
def WithinBudget (g : FeedId) (n : Nat) (t : State) : Prop := budgetInUse t g ≤ max n (t.fcfg g).budget

/-! ### Updates that free channels or leave them alone (R103, R107) -/

theorem WithinBudget.of_use (h : budgetInUse t g ≤ n) : WithinBudget g n t := le_max_of_le_left h

theorem budgetInUse_congr (h : u.channels = t.channels) : budgetInUse u g = budgetInUse t g := by
  unfold budgetInUse channelWeight State.channel
  rw [h]

theorem budgetInUse_free (h : ∀ c, t.channel c = none) : budgetInUse t g = 0 := by
  have weight : channelWeight t g = fun _ => 0 := funext fun c => by simp [channelWeight, h]
  simp [budgetInUse, weight]

theorem WithinBudget.lighter (h : WithinBudget g n t) (hw : ∀ c, channelWeight u g c ≤ channelWeight t g c)
    (cfg : u.cfg = t.cfg) : WithinBudget g n u := by
  have less : budgetInUse u g ≤ budgetInUse t g := List.sum_le_sum fun c _ => hw c
  rw [WithinBudget, State.fcfg, cfg]
  exact less.trans h

/-- An update of neither the channels nor the configuration. -/
theorem WithinBudget.same (h : WithinBudget g n t) (channels : u.channels = t.channels) (cfg : u.cfg = t.cfg) :
    WithinBudget g n u := by
  rw [WithinBudget, budgetInUse_congr channels, State.fcfg, cfg]
  exact h

theorem setChannel_none_within (c : ChannelId) (h : WithinBudget g n t) : WithinBudget g n (t.setChannel c none) := by
  refine h.lighter (fun k => ?_) rfl
  simp only [channelWeight, State.setChannel_channel]
  by_cases hk : c = k <;> simp [hk]

/-- A probe that moves on in its channel counts the same weight against the same feed (R103). -/
theorem modChannel_within (c : ChannelId) (move : Probe → Probe)
    (counts : ∀ p, (move p).feed = p.feed ∧ (move p).weight = p.weight) (h : WithinBudget g n t) :
    WithinBudget g n (t.modChannel c move) := by
  refine h.lighter (fun k => le_of_eq ?_) rfl
  simp only [channelWeight, State.modChannel, State.setChannel_channel]
  by_cases hk : c = k
  · subst hk
    cases t.channel c <;> simp [counts]
  · simp [hk]

/-- An update that is made only under a condition. -/
theorem ite_within {due : Prop} [Decidable due] {u : State} (taken : WithinBudget g n u) (h : WithinBudget g n t) :
    WithinBudget g n (if due then u else t) := by
  split
  · exact taken
  · exact h

/-! ### Grants (R102, R106) -/

theorem budgetInUse_setChannel_free {c : ChannelId} (free : t.channel c = none) (p : Probe) :
    budgetInUse (t.setChannel c (some p)) g = budgetInUse t g + (if p.feed = g then p.weight else 0) := by
  have weight : channelWeight (t.setChannel c (some p)) g =
      fun k => channelWeight t g k + (if c = k then (if p.feed = g then p.weight else 0) else 0) := by
    funext k
    simp only [channelWeight, State.setChannel_channel]
    by_cases hk : c = k
    · subst hk
      simp [free]
    · simp [hk]
  have once : ∀ (c : ChannelId) (x : Nat), (allChannels.map (fun k => if c = k then x else 0)).sum = x := by
    intro c x
    fin_cases c <;> simp [allChannels]
  rw [budgetInUse, weight, List.sum_map_add, once, budgetInUse]

/-- A grant counts its weight against its own feed, within the budget in force (R102, R103). -/
theorem nextGrant_within (granted : nextGrant t = some u) (h : WithinBudget g n t) : WithinBudget g n u := by
  obtain ⟨c, f, e, rest, hc, hf, hq, rfl⟩ := nextGrant_some t granted
  have cfg : (grantChannel t f c e rest).cfg = t.cfg := nextGrant_keeps (cfg_keeps t.cfg) granted rfl
  rw [WithinBudget, budgetInUse_congr (grantChannel_channels t f c e rest),
    budgetInUse_setChannel_free (freeChannel_eq_some.mp hc).1, State.fcfg, cfg, ← State.fcfg]
  by_cases own : f = g
  · subst own
    obtain ⟨e', rest', hq', -, -, fits⟩ := admissible_iff.mp (List.find?_some hf)
    obtain ⟨rfl, rfl⟩ := List.cons.inj (hq.symm.trans hq')
    exact le_max_of_le_right (by simpa [startProbe] using fits)
  · simpa [startProbe, own] using show budgetInUse t g ≤ max n (t.fcfg g).budget from h

theorem grants_within (k : Nat) : ∀ t, WithinBudget g n t → WithinBudget g n (grants k t) := by
  induction k with
  | zero => exact fun _ h => h
  | succ k ih =>
    intro t h
    unfold grants
    split
    · next granted => exact ih _ (nextGrant_within granted h)
    · exact h

theorem arbiterLook_within (h : WithinBudget g n t) : WithinBudget g n (arbiterLook t) := grants_within 4 t h

theorem arbitrate_within (before : State) (h : WithinBudget g n t) : WithinBudget g n (arbitrate before t) := by
  rcases arbitrate_cases before t with ⟨-, eq⟩ | ⟨-, eq⟩
  · rwa [eq]
  · rw [eq]
    exact arbiterLook_within h

/-! ### The shared operations (R5, R39, R42, R107, R162) -/

theorem markDistrict_within (ks : List Mark) (d : DistrictId) (h : WithinBudget g n t) :
    WithinBudget g n (markDistrict ks d t) := h.same (markDistrict_channels ks d t) (markDistrict_cfg ks d t)

theorem markFeed_within (f : FeedId) (h : WithinBudget g n t) : WithinBudget g n (markFeed f t) :=
  h.same (markFeed_channels f t) (markFeed_cfg f t)

theorem markJoint_within (j : JointId) (h : WithinBudget g n t) : WithinBudget g n (markJoint j t) :=
  h.same (markJoint_channels j t) (markJoint_cfg j t)

theorem clearIntegrator_within (d : DistrictId) (h : WithinBudget g n t) : WithinBudget g n (clearIntegrator d t) :=
  h.same rfl rfl

theorem restorePolarity_within (d : DistrictId) (h : WithinBudget g n t) : WithinBudget g n (restorePolarity d t) := by
  unfold restorePolarity
  split
  · exact h.same rfl rfl
  · exact h

theorem abandonWindow_within (d : DistrictId) (h : WithinBudget g n t) : WithinBudget g n (abandonWindow d t) :=
  clearIntegrator_within d (restorePolarity_within d h)

theorem endProbe_within (c : ChannelId) (h : WithinBudget g n t) : WithinBudget g n (endProbe c t) := by
  unfold endProbe
  split
  · next p _ => exact setChannel_none_within c ((abandonWindow_within p.district h).same rfl rfl)
  · exact h

theorem endProbation_within (d : DistrictId) (h : WithinBudget g n t) : WithinBudget g n (endProbation d t) :=
  ite_within (h.same rfl rfl) h

theorem setLook_within (d : DistrictId) (x : LookStatus) (h : WithinBudget g n t) :
    WithinBudget g n (setLook d x t) :=
  h.same (setLook_channels t d x) (setLook_keeps (cfg_keeps t.cfg) d x rfl)

theorem enterLocked_within (d : DistrictId) (cause : LockCause) (h : WithinBudget g n t) :
    WithinBudget g n (enterLocked d cause t) := by
  rw [enterLocked_eq]
  exact h.same rfl rfl

theorem dropLook_within (d : DistrictId) (h : WithinBudget g n t) : WithinBudget g n (dropLook d t) := by
  unfold dropLook
  split
  · exact h.same rfl rfl
  · split
    · next c _ => exact (endProbe_within c h).same rfl rfl
    · exact h.same rfl rfl
  · exact h

end Sys2Proof.Machine
end

section
/-! The Probe Engine and the Episode Merger keep the bound of the budget in use: a probe moves on in its channel, or
ends and frees it (chapters 4, 7 and 8). -/

namespace Sys2Proof.Machine

variable {g : FeedId} {n : Nat} {t : State}

/-! ### Ends of probes (R120 to R126) -/

theorem failProbe_within (c : ChannelId) (p : Probe) (cause : FailCause) (h : WithinBudget g n t) :
    WithinBudget g n (failProbe c p cause t) :=
  (endProbe_within c h).same (failProbe_channels t c p cause)
    ((failProbe_keeps (cfg_keeps t.cfg) c p cause rfl).trans (endProbe_keeps (cfg_keeps t.cfg) c rfl).symm)

theorem succeed_within (c : ChannelId) (d : DistrictId) (h : WithinBudget g n t) :
    WithinBudget g n (succeed c d t) := markDistrict_within _ d ((endProbe_within c h).same rfl rfl)

theorem passLook_within (c : ChannelId) (d : DistrictId) (h : WithinBudget g n t) :
    WithinBudget g n (passLook c d t) := by
  have ended := endProbe_within c h
  unfold passLook
  dsimp only
  split <;> exact markDistrict_within _ d (ended.same rfl rfl)

theorem expireProbe_within (c : ChannelId) (p : Probe) (h : WithinBudget g n t) :
    WithinBudget g n (expireProbe c p t) := by
  have ended := endProbe_within c h
  unfold expireProbe
  dsimp only
  split
  · exact markDistrict_within _ _ (ended.same rfl rfl)
  · exact markDistrict_within _ _ (setLook_within _ _ (ended.same rfl rfl))

theorem lifetimeExpiry_within (c : ChannelId) (h : WithinBudget g n t) : WithinBudget g n (lifetimeExpiry c t) := by
  unfold lifetimeExpiry
  split
  · exact arbitrate_within t (expireProbe_within c _ h)
  · exact h

/-! ### Probes that move on (R114 to R118, R133, R138, R139) -/

theorem enterStage_within (c : ChannelId) (x : Stage) (h : WithinBudget g n t) : WithinBudget g n (enterStage c x t) :=
  modChannel_within c _ (fun _ => ⟨rfl, rfl⟩) h

theorem startRamp_within (c : ChannelId) (d : DistrictId) (j : Nat) (h : WithinBudget g n t) :
    WithinBudget g n (startRamp c d j t) :=
  modChannel_within c _ (fun _ => ⟨rfl, rfl⟩) (h.same (u := clearIntegrator d t) rfl rfl)

theorem startConfirm_within (c : ChannelId) (d : DistrictId) (h : WithinBudget g n t) :
    WithinBudget g n (startConfirm c d t) := enterStage_within c _ (h.same rfl rfl)

theorem pauseSibling_within (c : ChannelId) (r : ResumePoint) (h : WithinBudget g n t) :
    WithinBudget g n (pauseSibling c r t) := modChannel_within c _ (fun _ => ⟨rfl, rfl⟩) h

theorem stallPause_within (f : FeedId) (c : ChannelId) (h : WithinBudget g n t) :
    WithinBudget g n (stallPause f c t) := by
  unfold stallPause
  split
  · next p _ =>
    split
    · split
      · exact h
      · exact modChannel_within c _ (fun _ => ⟨rfl, rfl⟩) ((abandonWindow_within p.district h).same rfl rfl)
    · exact h
  · exact h

theorem stallContinue_within (f : FeedId) (c : ChannelId) (h : WithinBudget g n t) :
    WithinBudget g n (stallContinue f c t) := by
  unfold stallContinue
  split
  · split
    · split
      · next r _ => exact modChannel_within c _ (fun p => by cases r <;> exact ⟨rfl, rfl⟩) h
      · exact h
    · exact h
  · exact h

theorem localResume_within (f : FeedId) (c : ChannelId) (h : WithinBudget g n t) :
    WithinBudget g n (localResume f c t) := by
  have unwaited : WithinBudget g n (stopWaiting f c t) := h.same rfl rfl
  have resumed := modChannel_within c (fun q => { q with pause := none, elapsed := 0 }) (fun _ => ⟨rfl, rfl⟩)
    unwaited
  unfold localResume
  dsimp only
  split
  · split
    · split
      · split
        · exact startRamp_within c _ _ resumed
        · exact enterStage_within c _ resumed
      · exact startConfirm_within c _ resumed
      · exact passLook_within c _ resumed
      · exact enterStage_within c _ resumed
      · exact enterStage_within c _ resumed
    · exact unwaited
  · exact unwaited

theorem endSense_within (c : ChannelId) (p : Probe) (h : WithinBudget g n t) : WithinBudget g n (endSense c p t) :=
  ite_within (failProbe_within c p _ h) (enterStage_within c _ h)

theorem endPrecharge_within (c : ChannelId) (p : Probe) (h : WithinBudget g n t) :
    WithinBudget g n (endPrecharge c p t) := by
  unfold endPrecharge
  split
  · exact failProbe_within c p _ h
  · split
    · exact pauseSibling_within c _ h
    · split
      · exact startRamp_within c _ _ h
      · exact passLook_within c _ h

theorem endRampStep_within (c : ChannelId) (p : Probe) (k : Nat) (h : WithinBudget g n t) :
    WithinBudget g n (endRampStep c p k t) :=
  ite_within (failProbe_within c p _ h) <| ite_within (pauseSibling_within c _ h) <|
    ite_within (enterStage_within c _ h) (startConfirm_within c _ h)

theorem endConfirm_within (c : ChannelId) (p : Probe) (h : WithinBudget g n t) :
    WithinBudget g n (endConfirm c p t) :=
  ite_within (succeed_within c _ h) (failProbe_within c p _ h)

theorem startCheck_within (c : ChannelId) (p : Probe) (h : WithinBudget g n t) :
    WithinBudget g n (startCheck c p t) := by
  unfold startCheck
  split
  · split
    · exact modChannel_within c _ (fun _ => ⟨rfl, rfl⟩) h
    · exact failProbe_within c p _ h
  · exact h

theorem stageEnd_within (c : ChannelId) (h : WithinBudget g n t) : WithinBudget g n (stageEnd c t) := by
  unfold stageEnd
  split
  · split
    · refine arbitrate_within t ?_
      split
      · exact endSense_within c _ h
      · exact endPrecharge_within c _ h
      · exact endRampStep_within c _ _ h
      · exact endConfirm_within c _ h
    · exact h
  · exact h

/-! ### Episodes (R61 to R75, R136) -/

theorem arrive_within (f : FeedId) (d : DistrictId) (h : WithinBudget g n t) : WithinBudget g n (arrive f d t) := by
  unfold arrive
  split <;> exact h.same rfl rfl

theorem countSample_within (d : DistrictId) (h : WithinBudget g n t) : WithinBudget g n (countSample d t) :=
  ite_within (h.same rfl rfl) (h.same rfl rfl)

theorem abandonProbe_within (f : FeedId) (c : ChannelId) (h : WithinBudget g n t) :
    WithinBudget g n (abandonProbe f c t) := by
  unfold abandonProbe
  split
  · split
    · exact markDistrict_within _ _ ((endProbe_within c h).same rfl rfl)
    · exact setLook_within _ _ (endProbe_within c h)
  · exact h

theorem resolveWaiting_within (f : FeedId) (cls : EpisodeClass) (w : BitVec 4) (h : WithinBudget g n t) :
    WithinBudget g n (resolveWaiting f cls w t) :=
  forChannels_keeps (fun c u hu => by
    split
    · cases cls with
      | localClass => exact localResume_within f c hu
      | massClass => exact abandonProbe_within f c hu
    · exact hu) h

theorem handCount_within (d : DistrictId) (count : Nat) (h : WithinBudget g n t) :
    WithinBudget g n (handCount d count t) := by
  unfold handCount
  split
  · exact h.same rfl rfl
  · exact h.same rfl rfl
  · exact h

theorem handCounts_within (f : FeedId) (cls : EpisodeClass) (ds : List DistrictId) :
    ∀ (i : Nat) (t : State), WithinBudget g n t → WithinBudget g n (handCounts f cls ds i t) := by
  induction ds with
  | nil => exact fun _ _ h => h
  | cons d ds ih =>
    intro i t h
    unfold handCounts
    split
    · exact ih _ _ (handCount_within d _ h)
    · exact ih _ _ h

theorem closeEpisode_within (f : FeedId) (cause : CloseCause) (h : WithinBudget g n t) :
    WithinBudget g n (closeEpisode f cause t) := by
  unfold closeEpisode
  split
  · exact h
  · next e _ =>
    dsimp only
    have counted (ms : List DistrictId) := handCounts_within f (episodeClass t f e) ms 0 _
      (resolveWaiting_within f (episodeClass t f e) e.waiting h)
    have closed {u : State} (x : Summary) (hu : WithinBudget g n u) :
        WithinBudget g n ((u.setEpisode f none).setSummary f x) := hu.same rfl rfl
    split
    · exact markFeed_within f (closed _ (counted _))
    · exact closed _ (counted _)

theorem episodeExpiry_within (f : FeedId) (h : WithinBudget g n t) : WithinBudget g n (episodeExpiry f t) := by
  unfold episodeExpiry
  split
  · exact arbitrate_within t (closeEpisode_within f _ h)
  · exact h

end Sys2Proof.Machine
end

section
/-! The Recovery Timer Bank and the Current Monitor keep the bound of the budget in use (chapters 2 and 5). -/

namespace Sys2Proof.Machine

variable {g : FeedId} {n : Nat} {t : State}

/-! ### Expiries (R80 to R89) -/

theorem takeCool_within (d : DistrictId) (h : WithinBudget g n t) : WithinBudget g n (takeCool d t) :=
  ite_within (arbitrate_within t (ite_within (h.same rfl rfl) (markDistrict_within _ d (h.same rfl rfl)))) h

theorem grantExpiry_within (d : DistrictId) (h : WithinBudget g n t) : WithinBudget g n (grantExpiry d t) :=
  ite_within (markDistrict_within _ d (enterLocked_within d _ (h.same rfl rfl))) h

theorem probationExpiry_within (d : DistrictId) (h : WithinBudget g n t) :
    WithinBudget g n (probationExpiry d t) :=
  ite_within (h.same rfl rfl) h

theorem takePatrol_within (d : DistrictId) (h : WithinBudget g n t) : WithinBudget g n (takePatrol d t) := by
  unfold takePatrol
  split
  · refine arbitrate_within t ?_
    split
    · split <;> exact h.same rfl rfl
    · exact h.same rfl rfl
  · exact h

theorem timerExpiry_within (d : DistrictId) (h : WithinBudget g n t) : WithinBudget g n (timerExpiry d t) := by
  unfold timerExpiry
  split
  · exact takeCool_within d h
  · exact grantExpiry_within d h
  · exact probationExpiry_within d h
  · exact takePatrol_within d h
  · exact h

theorem takeEarlier_within (d : DistrictId) (h : WithinBudget g n t) : WithinBudget g n (takeEarlier d t) :=
  ite_within (forDistricts_keeps (fun e _ hu => ite_within (timerExpiry_within e hu) hu) h) h

theorem coolExpiry_within (d : DistrictId) (h : WithinBudget g n t) : WithinBudget g n (coolExpiry d t) :=
  ite_within (takeCool_within d (takeEarlier_within d h)) h

theorem patrolExpiry_within (d : DistrictId) (h : WithinBudget g n t) : WithinBudget g n (patrolExpiry d t) :=
  ite_within (takePatrol_within d (takeEarlier_within d h)) h

theorem tickBoundary_within (h : WithinBudget g n t) : WithinBudget g n (tickBoundary t) := by
  have stepped {u : State} (hu : WithinBudget g n u) : WithinBudget g n ((tickTimers u).setClock 0 0) := by
    rw [tickTimers_eq]
    exact hu.same rfl rfl
  exact stepped (forDistricts_keeps (P := WithinBudget g n) (fun d _ => timerExpiry_within d) h)

/-! ### Trips and swaps (R32 to R44) -/

theorem trippedState_within (d : DistrictId) (h : WithinBudget g n t) : WithinBudget g n (trippedState d t) :=
  ite_within (markDistrict_within _ d (enterLocked_within d _ h)) <|
    ite_within (markDistrict_within _ d (enterLocked_within d _ h)) (markDistrict_within _ d (h.same rfl rfl))

theorem tripReport_within (d : DistrictId) (cause : TripCause) (h : WithinBudget g n t) :
    WithinBudget g n (tripReport d cause t) := by
  unfold tripReport
  dsimp only
  refine arrive_within _ d (trippedState_within d (clearIntegrator_within d ?_))
  split
  · exact endProbation_within d (h.same rfl rfl)
  · exact h.same rfl rfl

theorem handTrip_within (d : DistrictId) (cause : TripCause) (h : WithinBudget g n t) :
    WithinBudget g n (handTrip d cause t) := by
  unfold handTrip
  split
  · exact tripReport_within d cause h
  · split
    · split
      · exact failProbe_within _ _ _ (h.same rfl rfl)
      · exact h
    · exact h

theorem takeTrip_within (d : DistrictId) (cause : TripCause) (h : WithinBudget g n t) :
    WithinBudget g n (takeTrip d cause t) := by
  unfold takeTrip
  split
  · exact handTrip_within d _ ((restorePolarity_within d h).same rfl rfl)
  · split
    · exact h.same rfl rfl
    · exact handTrip_within d cause (h.same rfl rfl)

/-! ### The sample (R27, R38, R114) -/

theorem heldChecks_within (c : ChannelId) (p : Probe) (h : WithinBudget g n t) :
    WithinBudget g n (heldChecks c p t) := by
  have checked := startCheck_within c p h
  unfold heldChecks
  dsimp only
  split
  · split
    · exact endConfirm_within c _ checked
    · exact checked
  · exact checked

theorem takeHeldChecks_within (d : DistrictId) (h : WithinBudget g n t) : WithinBudget g n (takeHeldChecks d t) := by
  unfold takeHeldChecks
  split
  · exact h
  · split
    · exact h
    · split
      · exact heldChecks_within _ _ h
      · exact h

theorem reloadProbation_within (d : DistrictId) (h : WithinBudget g n t) :
    WithinBudget g n (reloadProbation d t) :=
  ite_within (h.same rfl rfl) h

theorem quietIntegrator_within (d : DistrictId) (h : WithinBudget g n t) :
    WithinBudget g n (quietIntegrator d t) :=
  ite_within h (clearIntegrator_within d h)

theorem swapSuccess_within (d : DistrictId) (h : WithinBudget g n t) : WithinBudget g n (swapSuccess d t) := by
  cases window : (t.monitor d).window with
  | none =>
    rw [swapSuccess_notDue t (by simp [swapSuccessDue, window])]
    exact h
  | some w =>
    have counted : WithinBudget g n (countSwap d t) := markDistrict_within _ d (h.same rfl rfl)
    rw [swapSuccess_eq t window]
    split
    · exact arbitrate_within t
        (takeHeldChecks_within d (quietIntegrator_within d (reloadProbation_within d counted)))
    · exact h

theorem settleDistrict_within (d : DistrictId) (h : WithinBudget g n t) :
    WithinBudget g n (settleDistrict d t) := by
  have closes {u : State} (hu : WithinBudget g n u) :
      WithinBudget g n (if beginsPeriod u d then forFeeds episodeExpiry u else u) := by
    split
    · exact forFeeds_keeps (fun f _ => episodeExpiry_within f) hu
    · exact hu
  refine closes ?_
  split
  · exact stageEnd_within _ (swapSuccess_within d h)
  · exact swapSuccess_within d h

theorem detect_within (d : DistrictId) (i : Nat) (h : WithinBudget g n t) : WithinBudget g n (detect d i t) := by
  unfold detect
  split
  · exact h
  · split
    · exact takeTrip_within d _ h
    · exact h.same rfl rfl

theorem stageSample_within (d : DistrictId) (h : WithinBudget g n t) : WithinBudget g n (stageSample d t) := by
  unfold stageSample
  split
  · exact h
  · next c _ =>
    have counted := modChannel_within c (fun q => { q with elapsed := q.elapsed + 1 }) (fun _ => ⟨rfl, rfl⟩) h
    split
    · exact h
    · split
      · dsimp only
        split
        · exact startCheck_within c _ counted
        · exact counted
      · exact h

theorem sample_within (d : DistrictId) (i : Nat) (v : Bool) (h : WithinBudget g n t) :
    WithinBudget g n (sample d i v t) :=
  stageSample_within d (detect_within d i ((countSample_within d h).same rfl rfl))

end Sys2Proof.Machine
end

section
/-! The Feed Monitor, the isolation overlay and the Joint Monitor keep the bound of the budget in use (chapters 1, 3
and 9). -/

namespace Sys2Proof.Machine

variable {g : FeedId} {n : Nat} {t : State}

/-! ### The shed (R54 to R56) -/

theorem clearLiveIntegrators_within (f : FeedId) (h : WithinBudget g n t) :
    WithinBudget g n (clearLiveIntegrators f t) :=
  forDistricts_keeps (fun d _ hu => ite_within (clearIntegrator_within d hu) hu) h

theorem shedDistrict_within (f : FeedId) (d : DistrictId) (h : WithinBudget g n t) :
    WithinBudget g n (shedDistrict f d t) :=
  ite_within (markDistrict_within _ d ((endProbation_within d (abandonWindow_within d h)).same rfl rfl)) h

theorem shedProbe_within (f : FeedId) (c : ChannelId) (h : WithinBudget g n t) :
    WithinBudget g n (shedProbe f c t) := by
  unfold shedProbe
  split
  · split
    · exact abandonProbe_within f c h
    · exact h
  · exact h

theorem dropEmptyEpisode_within (f : FeedId) (h : WithinBudget g n t) :
    WithinBudget g n (dropEmptyEpisode f t) := by
  unfold dropEmptyEpisode
  split
  · split
    · exact h.same rfl rfl
    · exact h
  · exact h

theorem modFeed_within (f : FeedId) (x : Feed → Feed) (h : WithinBudget g n t) : WithinBudget g n (t.modFeed f x) :=
  h.same rfl rfl

theorem shedFeed_within (f : FeedId) (h : WithinBudget g n t) : WithinBudget g n (shedFeed f t) := by
  have opened : WithinBudget g n (t.setEpisode f (some (shedEpisode (t.episode f)))) := h.same rfl rfl
  exact markFeed_within f (modFeed_within f _ (dropEmptyEpisode_within f
    (forChannels_keeps (fun c _ => shedProbe_within f c)
      (forDistricts_keeps (fun d _ => shedDistrict_within f d) opened))))

theorem shedExpiry_within (f : FeedId) (h : WithinBudget g n t) : WithinBudget g n (shedExpiry f t) :=
  ite_within (arbitrate_within t (shedFeed_within f h)) h

/-! ### Assertion, clear and first decision (R48 to R53) -/

theorem modEpisode_within (f : FeedId) (x : Episode → Episode) (h : WithinBudget g n t) :
    WithinBudget g n (t.modEpisode f x) := h.same rfl rfl

theorem assertStall_within (f : FeedId) (h : WithinBudget g n t) : WithinBudget g n (assertStall f t) := by
  have told := markFeed_within f (modEpisode_within f (fun e => { e with stallFlag := true, waiting := 0#4 })
    (forChannels_keeps (fun c _ => stallPause_within f c) (clearLiveIntegrators_within f
      (modFeed_within f (fun x => { x with stalled := true, filterRun := 0 }) h))))
  unfold assertStall
  dsimp only
  split
  · split
    · exact shedFeed_within f told
    · exact modFeed_within f _ told
  · exact told

theorem clearStall_within (f : FeedId) (h : WithinBudget g n t) : WithinBudget g n (clearStall f t) := by
  have shedEnds {u : State} (hu : WithinBudget g n u) : WithinBudget g n (endShed f u) := by
    unfold endShed
    split
    · exact modFeed_within f _ (closeEpisode_within f _ hu)
    · exact modFeed_within f _ hu
  exact forChannels_keeps (fun c _ => stallContinue_within f c)
    (clearLiveIntegrators_within f (markFeed_within f (shedEnds (modFeed_within f _ h))))

theorem stallAssertion_within (f : FeedId) (h : WithinBudget g n t) : WithinBudget g n (stallAssertion f t) :=
  ite_within (arbitrate_within t (assertStall_within f h)) h

theorem stallClear_within (f : FeedId) (h : WithinBudget g n t) : WithinBudget g n (stallClear f t) :=
  ite_within (arbitrate_within t (clearStall_within f h)) h

theorem feedDecision_within (f : FeedId) (h : WithinBudget g n t) : WithinBudget g n (feedDecision f t) :=
  ite_within (ite_within (markFeed_within f (modFeed_within f _ h))
    (arbitrate_within t (clearStall_within f (modFeed_within f _ h)))) h

theorem settleFeed_within (f : FeedId) (h : WithinBudget g n t) : WithinBudget g n (settleFeed f t) :=
  ite_within (feedDecision_within f h) (ite_within (stallAssertion_within f h) (stallClear_within f h))

theorem stallSample_within (f : FeedId) (high : Bool) (h : WithinBudget g n t) :
    WithinBudget g n (stallSample f high t) := modFeed_within f _ (settleFeed_within f h)

/-! ### Isolation (R14 to R20, R141) -/

theorem onset_within (d : DistrictId) (h : WithinBudget g n t) : WithinBudget g n (onset d t) := by
  unfold onset
  split
  · exact (endProbation_within d (abandonWindow_within d h)).same rfl rfl
  · exact h.same rfl rfl
  · exact h.same rfl rfl
  · exact h.same rfl rfl
  · exact h.same rfl rfl
  · unfold onsetProbing
    split
    · next c _ => exact (endProbe_within c h).same rfl rfl
    · exact h.same rfl rfl
  · exact dropLook_within d (h.same rfl rfl)
  · exact h
  · exact h

theorem releaseDistrict_within (d : DistrictId) (h : WithinBudget g n t) :
    WithinBudget g n (releaseDistrict d t) := by
  unfold releaseDistrict
  split
  · exact h.same rfl rfl
  · exact h.same rfl rfl
  · exact h.same rfl rfl
  · exact h.same rfl rfl
  · split
    · exact h.same rfl rfl
    · exact h
  · exact h

theorem isolationChange_within (before : State) (h : WithinBudget g n t) :
    WithinBudget g n (isolationChange before t) :=
  forDistricts_keeps (fun d u hu => by
    unfold takeIsolation
    split
    · refine markDistrict_within _ d ?_
      split
      · exact onset_within d hu
      · exact releaseDistrict_within d hu
      · exact hu
    · exact hu) h

/-! ### Joints (R147 to R152) -/

theorem modJoint_within (j : JointId) (x : Joint → Joint) (h : WithinBudget g n t) :
    WithinBudget g n (t.modJoint j x) := h.same rfl rfl

theorem jointEvent_within (j : JointId) (x : Joint → Joint) (h : WithinBudget g n t) :
    WithinBudget g n (jointEvent j x t) :=
  arbitrate_within t (isolationChange_within t (markJoint_within j (modJoint_within j x h)))

theorem jointDecision_within (j : JointId) (h : WithinBudget g n t) : WithinBudget g n (jointDecision j t) :=
  ite_within (jointEvent_within j _ h) h

theorem inputChange_within (j : JointId) (h : WithinBudget g n t) : WithinBudget g n (inputChange j t) :=
  ite_within (jointEvent_within j _ h) h

theorem settleExpiry_within (j : JointId) (h : WithinBudget g n t) : WithinBudget g n (settleExpiry j t) :=
  ite_within (jointEvent_within j _ h) h

theorem dockingExpiry_within (j : JointId) (h : WithinBudget g n t) : WithinBudget g n (dockingExpiry j t) :=
  ite_within (jointEvent_within j _ h) h

theorem settleJoint_within (j : JointId) (h : WithinBudget g n t) : WithinBudget g n (settleJoint j t) :=
  inputChange_within j (dockingExpiry_within j (settleExpiry_within j (jointDecision_within j h)))

theorem jointSample_within (j : JointId) (high : Bool) (h : WithinBudget g n t) :
    WithinBudget g n (jointSample j high t) := by
  have settled := settleJoint_within j h
  unfold jointSample
  exact modJoint_within j _ settled

end Sys2Proof.Machine
end

section
/-! Every request keeps the bound of the budget in use; a budget write leaves the budget in use as it is, and then looks
(R57, R179 to R187). -/

namespace Sys2Proof.Machine

variable {g : FeedId} {n : Nat} {t : State} {P : State → Prop}

/-! ### The parts of a request's meaning (R158, R179, R184) -/

theorem takeRequest_within {body : State → Answer} (src kind : Byte) (payload : List Byte)
    (answer : WithinBudget g n (body t).state) (h : WithinBudget g n t) :
    WithinBudget g n (takeRequest src kind payload body t) := by
  unfold takeRequest
  split
  · exact h
  · split
    · exact h.same rfl rfl
    · exact answer.same rfl rfl

theorem noPayload_state {body : Answer} (payload : List Byte) (answer : P body.state) (h : P t) :
    P (noPayload payload t body).state := by
  unfold noPayload
  split
  · exact answer
  · exact h

theorem oneDistrict_state {body : DistrictId → Answer} (payload : List Byte)
    (answer : ∀ d, P (body d).state) (h : P t) : P (oneDistrict payload t body).state := by
  unfold oneDistrict
  split
  · split
    · exact answer _
    · exact h
  · exact h

theorem oneFeed_state {body : FeedId → Answer} (payload : List Byte)
    (answer : ∀ f, P (body f).state) (h : P t) : P (oneFeed payload t body).state := by
  unfold oneFeed
  split
  · split
    · exact answer _
    · exact h
  · exact h

theorem oneJoint_state {body : JointId → Answer} (payload : List Byte)
    (answer : ∀ j, P (body j).state) (h : P t) : P (oneJoint payload t body).state := by
  unfold oneJoint
  split
  · split
    · exact answer _
    · exact h
  · exact h

theorem ofSlot_state {body : SlotId → Answer} (src : Byte) (answer : ∀ k, P (body k).state) (h : P t) :
    P (ofSlot src t body).state := by
  unfold ofSlot
  split
  · exact answer _
  · exact h

theorem partWide_state {a : Answer} (src : Byte) (answer : P a.state) (h : P t) : P (partWide src t a).state :=
  ofSlot_state src (fun _ => by
    split
    · exact h
    · exact answer) h

/-! ### Reads and slots (R159 to R163, R185) -/

theorem readThrough_within (src : Byte) (x : Slot → Slot) (h : WithinBudget g n t) :
    WithinBudget g n (readThrough src x t) := by
  unfold readThrough
  split
  · exact h.same rfl rfl
  · exact h

theorem bodyReadDistrictConfig_within (payload : List Byte) (h : WithinBudget g n t) :
    WithinBudget g n (bodyReadDistrictConfig payload t).state := by
  unfold bodyReadDistrictConfig
  split
  · refine oneDistrict_state _ (fun d => ?_) h
    split
    · exact h
    · split <;> exact h
  · exact h

theorem bodyJoin_within (src : Byte) (payload : List Byte) (h : WithinBudget g n t) :
    WithinBudget g n (bodyJoin src payload t).state := by
  refine noPayload_state payload ?_ h
  split
  · exact h.same rfl rfl
  · split
    · exact h.same rfl rfl
    · exact h

theorem bodyLeave_within (src : Byte) (payload : List Byte) (h : WithinBudget g n t) :
    WithinBudget g n (bodyLeave src payload t).state := by
  refine noPayload_state payload (ofSlot_state src (fun k => ?_) h) h
  split
  · exact h
  · exact h.same rfl rfl

theorem bodySubscribe_within (src : Byte) (payload : List Byte) (h : WithinBudget g n t) :
    WithinBudget g n (bodySubscribe src payload t).state := by
  unfold bodySubscribe
  split
  · split
    · exact h
    · exact ofSlot_state src (fun k => h.same rfl rfl) h
  · exact h

/-! ### Holds (R155, R164 to R166) -/

theorem takeHolders_within (d : DistrictId) (x : BitVec 6) (h : WithinBudget g n t) :
    WithinBudget g n (takeHolders d x t) := isolationChange_within t (h.same rfl rfl)

theorem setHolders_within (d : DistrictId) (x : BitVec 6) (h : WithinBudget g n t) :
    WithinBudget g n (setHolders d x t) := arbitrate_within t (takeHolders_within d x h)

theorem bodyHold_within (src : Byte) (payload : List Byte) (h : WithinBudget g n t) :
    WithinBudget g n (bodyHold src payload t).state := by
  refine oneDistrict_state payload (fun d => ofSlot_state src (fun k => ?_) h) h
  dsimp only
  split
  · exact h
  · exact setHolders_within d _ h

theorem bodyRelease_within (src : Byte) (payload : List Byte) (h : WithinBudget g n t) :
    WithinBudget g n (bodyRelease src payload t).state := by
  refine oneDistrict_state payload (fun d => ofSlot_state src (fun k => ?_) h) h
  split
  · exact arbitrate_within t (takeHolders_within d _ h)
  · exact h

theorem markFormer_within (d : DistrictId) (former : BitVec 6) (h : WithinBudget g n t) :
    WithinBudget g n (markFormer d former t) :=
  forSlots_keeps (fun _ _ hu => ite_within (hu.same rfl rfl) hu) h

theorem bodyBreakHold_within (src : Byte) (payload : List Byte) (h : WithinBudget g n t) :
    WithinBudget g n (bodyBreakHold src payload t).state := by
  refine oneDistrict_state payload (fun d => ofSlot_state src (fun k => ?_) h) h
  dsimp only
  split
  · exact h
  · exact markFormer_within d _ (setHolders_within d _ h)

theorem bodyAcceptJoint_within (src : Byte) (payload : List Byte) (h : WithinBudget g n t) :
    WithinBudget g n (bodyAcceptJoint src payload t).state := by
  refine oneJoint_state payload (fun j => ofSlot_state src (fun k => ?_) h) h
  split
  · exact jointEvent_within j _ h
  · exact h

/-! ### Grants and lockouts (R94, R168, R169) -/

theorem grantRetry_within (d : DistrictId) (h : WithinBudget g n t) : WithinBudget g n (grantRetry d t) :=
  arbitrate_within t (markDistrict_within _ d (h.same rfl rfl))

theorem bodyGrant_within (src : Byte) (payload : List Byte) (h : WithinBudget g n t) :
    WithinBudget g n (bodyGrant src payload t).state := by
  refine oneDistrict_state payload (fun d => ofSlot_state src (fun k => ?_) h) h
  split
  · exact grantRetry_within d h
  all_goals exact h

theorem bodyRetryNow_within (src : Byte) (payload : List Byte) (h : WithinBudget g n t) :
    WithinBudget g n (bodyRetryNow src payload t).state := by
  refine oneDistrict_state payload (fun d => ofSlot_state src (fun k => ?_) h) h
  split
  · exact grantRetry_within d h
  · exact h
  · exact grantRetry_within d h
  · exact h

theorem bodyClear_within (src : Byte) (payload : List Byte) (h : WithinBudget g n t) :
    WithinBudget g n (bodyClear src payload t).state := by
  refine oneDistrict_state payload (fun d => ofSlot_state src (fun k => ?_) h) h
  have cleared {u : State} (hu : WithinBudget g n u) : WithinBudget g n (clearedState d u) := by
    unfold clearedState
    split
    · split <;> exact hu.same rfl rfl
    · exact hu.same rfl rfl
  split
  · exact arbitrate_within t (markDistrict_within _ d (cleared ((dropLook_within d h).same rfl rfl)))
  · exact h

/-! ### Writes (R21 to R25, R57, R58, R92, R156) -/

theorem darken_within (d : DistrictId) (h : WithinBudget g n t) : WithinBudget g n (darken d t) :=
  (dropLook_within d h).same rfl rfl

theorem limitEffect_within (d : DistrictId) (h : WithinBudget g n t) : WithinBudget g n (limitEffect d t) := by
  unfold limitEffect
  split <;> exact h.same rfl rfl

theorem reversingEffect_within (d : DistrictId) (h : WithinBudget g n t) :
    WithinBudget g n (reversingEffect d t) :=
  ite_within h (h.same rfl rfl)

theorem policyEffect_within (d : DistrictId) (h : WithinBudget g n t) : WithinBudget g n (policyEffect d t) := by
  unfold policyEffect
  split
  · split
    · exact darken_within d h
    · exact darken_within d h
    · exact h
  · split
    · split
      · split <;> exact h.same rfl rfl
      · exact h
    · split
      · exact h.same rfl rfl
      · exact h
    · exact h

theorem patrolEffect_within (d : DistrictId) (h : WithinBudget g n t) : WithinBudget g n (patrolEffect d t) := by
  unfold patrolEffect
  split
  · split
    · split
      · exact h.same rfl rfl
      · exact h
    · exact h.same rfl rfl
  · exact h

theorem whenNamed_within (es : List FieldEntry) (id : Nat) {effect : State → State}
    (keeps : ∀ u, WithinBudget g n u → WithinBudget g n (effect u)) (h : WithinBudget g n t) :
    WithinBudget g n (whenNamed es id effect t) :=
  ite_within (keeps t h) h

theorem writeDistrict_within (d : DistrictId) (es : List FieldEntry) (c : DistrictConfig) (h : WithinBudget g n t) :
    WithinBudget g n (writeDistrict d es c t) :=
  markDistrict_within _ d <|
  whenNamed_within es 4 (fun _ => patrolEffect_within d) <|
  whenNamed_within es 2 (fun _ => policyEffect_within d) <|
  whenNamed_within es 3 (fun _ => reversingEffect_within d) <|
  whenNamed_within es 17 (fun _ => limitEffect_within d) h

theorem bodySetDistrict_within (src : Byte) (payload : List Byte) (h : WithinBudget g n t) :
    WithinBudget g n (bodySetDistrict src payload t).state := by
  unfold bodySetDistrict
  split
  · exact h
  · refine oneDistrict_state _ (fun d => ?_) h
    split
    · exact h
    · split
      · exact h
      · split
        · exact h
        · exact partWide_state src (arbitrate_within t (writeDistrict_within d _ _ h)) h

theorem writeFeed_channels (f : FeedId) (es : List FieldEntry) (c : FeedConfig) (t : State) :
    (writeFeed f es c t).channels = t.channels := by
  unfold writeFeed
  rw [markFeed_channels]
  split <;> rfl

/-- The written budget may be below the budget in use, which then stays as it is (R57). -/
theorem bodySetFeed_within (src : Byte) (payload : List Byte) (use : budgetInUse t g ≤ n) :
    WithinBudget g n (bodySetFeed src payload t).state := by
  have h : WithinBudget g n t := .of_use use
  have written (f : FeedId) (es : List FieldEntry) (c : FeedConfig) : WithinBudget g n (writeFeed f es c t) :=
    .of_use (by rwa [budgetInUse_congr (writeFeed_channels f es c t)])
  unfold bodySetFeed
  split
  · exact h
  · refine oneFeed_state _ (fun f => ?_) h
    split
    · exact h
    · split
      · exact h
      · refine partWide_state src ?_ h
        dsimp only
        split
        · exact arbiterLook_within (written f _ _)
        · exact written f _ _

theorem writeJoint_within (j : JointId) (es : List FieldEntry) (c : JointConfig) (h : WithinBudget g n t) :
    WithinBudget g n (writeJoint j es c t) := by
  unfold writeJoint
  refine isolationChange_within t (markJoint_within j ?_)
  split <;> exact h

theorem bodySetJoint_within (src : Byte) (payload : List Byte) (h : WithinBudget g n t) :
    WithinBudget g n (bodySetJoint src payload t).state := by
  unfold bodySetJoint
  split
  · exact h
  · refine oneJoint_state _ (fun j => ?_) h
    split
    · exact h
    · split
      · exact h
      · exact partWide_state src (arbitrate_within t (writeJoint_within j _ _ h)) h

theorem bodySetGlobals_within (src : Byte) (payload : List Byte) (h : WithinBudget g n t) :
    WithinBudget g n (bodySetGlobals src payload t).state := by
  have written (es : List FieldEntry) (x : Globals) : WithinBudget g n (writeGlobals es x t) := by
    unfold writeGlobals
    split <;> exact h
  unfold bodySetGlobals
  split
  · exact h
  · split
    · exact h
    · split
      · exact h
      · exact partWide_state src (written _ _) h

/-! ### Modes and the Profile Store (R170 to R177) -/

theorem enterDistrict_within (d : DistrictId) (h : WithinBudget g n t) : WithinBudget g n (enterDistrict d t) := by
  unfold enterDistrict
  split
  · split <;> exact h.same rfl rfl
  · split
    · exact h
    · split <;> exact h.same rfl rfl
  · exact h

theorem enterRun_within (h : WithinBudget g n t) : WithinBudget g n (enterRun t) := by
  have running : WithinBudget g n (t.setMode .run) := h.same rfl rfl
  exact arbiterLook_within (forDistricts_keeps (fun d _ => enterDistrict_within d) running)

/-- Leaving RUN empties every channel (R174). -/
theorem leaveRun_within (t : State) : WithinBudget g n (leaveRun t) := by
  refine .of_use ?_
  rw [budgetInUse_free]
  · exact Nat.zero_le n
  · intro c
    simp [leaveRun, emptyRecovery, State.channel]

theorem requestMode_within (m : Mode) (h : WithinBudget g n t) : WithinBudget g n (requestMode m t).state := by
  have entered := enterRun_within h
  have left : WithinBudget g n (leaveRun t) := leaveRun_within t
  unfold requestMode
  split
  · split
    · exact h
    · dsimp only
      exact entered
  · dsimp only
    exact left
  · exact h
  · exact h

theorem bodySetMode_within (src : Byte) (payload : List Byte) (h : WithinBudget g n t) :
    WithinBudget g n (bodySetMode src payload t).state := by
  unfold bodySetMode
  split
  · split
    · exact ofSlot_state src (fun _ => requestMode_within _ h) h
    · exact h
  · exact h

theorem bodyStoreProfile_within (src : Byte) (payload : List Byte) (h : WithinBudget g n t) :
    WithinBudget g n (bodyStoreProfile src payload t).state := by
  refine noPayload_state payload (ofSlot_state src (fun k => ?_) h) h
  split
  · exact h
  · split
    · exact h
    · exact h.same rfl rfl

theorem profileWriteEnd_within (agrees : Bool) (h : WithinBudget g n t) :
    WithinBudget g n (profileWriteEnd agrees t) := by
  unfold profileWriteEnd
  split
  · split <;> exact h.same rfl rfl
  · exact h

end Sys2Proof.Machine
end

section
/-! Every command and the idle period keep the bound of the budget in use (R108). -/

namespace Sys2Proof.Machine

variable {g : FeedId} {n : Nat} {t : State}

/-! ### The idle period (R53, R77, R127) -/

theorem settleAll_within (h : WithinBudget g n t) : WithinBudget g n (settleAll t) :=
  forJoints_keeps (P := WithinBudget g n) (fun j _ => settleJoint_within j) <|
  forDistricts_keeps (fun d _ => timerExpiry_within d) <|
  forFeeds_keeps (fun f _ => settleFeed_within f) <|
  forFeeds_keeps (fun f _ => episodeExpiry_within f) <|
  forChannels_keeps (fun c _ => stageEnd_within c) <|
  forDistricts_keeps (fun d _ => swapSuccess_within d) h

theorem periodBoundary_within (ds : BitVec 16) (h : WithinBudget g n t) : WithinBudget g n (periodBoundary ds t) :=
  h.same rfl rfl

theorem lifetimePeriods_within (h : WithinBudget g n t) : WithinBudget g n (lifetimePeriods t) :=
  arbitrate_within t (forChannels_keeps (P := WithinBudget g n) (fun c u hu => by
    unfold lifetimePeriod
    split
    · split
      · exact expireProbe_within c _ hu
      · exact modChannel_within c _ (fun _ => ⟨rfl, rfl⟩) hu
    · exact hu) h)

theorem shedPeriod_within (f : FeedId) (h : WithinBudget g n t) : WithinBudget g n (shedPeriod f t) := by
  unfold shedPeriod
  split
  · split
    · exact shedExpiry_within f h
    · exact modFeed_within f _ h
  · exact h

theorem prescalerPeriod_within (h : WithinBudget g n t) : WithinBudget g n (prescalerPeriod t) :=
  ite_within (h.same rfl rfl) (ite_within (h.same rfl rfl) (tickBoundary_within h))

theorem idlePeriod_within (h : WithinBudget g n t) : WithinBudget g n (idlePeriod t) :=
  prescalerPeriod_within (forFeeds_keeps (P := WithinBudget g n) (fun f _ => shedPeriod_within f)
    (lifetimePeriods_within (periodBoundary_within 0#16 (settleAll_within h))))

/-! ### The commands -/

theorem afterReset_within (straps : BitVec 4) (image : Option Profile) (pending : List Instr) :
    WithinBudget g n (State.afterReset straps image pending) := by
  refine .of_use ?_
  rw [budgetInUse_free]
  · exact Nat.zero_le n
  · intro c
    simp [State.afterReset, State.channel]

/-- The rows of the line change the line alone (R178 to R180). -/
theorem setLine_within (l : Line) (h : WithinBudget g n t) : WithinBudget g n (t.setLine l) := h.same rfl rfl

theorem execReplyStart_within (h : WithinBudget g n t) :
    ∃ u, exec .replyStart t = .next u ∧ WithinBudget g n u := by
  refine ⟨_, rfl, ?_⟩
  split
  · exact setLine_within _ h
  · exact h

/-- Every command goes on to a state within the bound that the state before it sets. -/
theorem exec_within (g : FeedId) (i : Instr) (s : State) :
    ∃ u, exec i s = .next u ∧ WithinBudget g (budgetInUse s g) u :=
  have h : WithinBudget g (budgetInUse s g) s := .of_use le_rfl
  have request {src kind : Byte} {payload : List Byte} {body : State → Answer}
      (answer : WithinBudget g (budgetInUse s g) (body s).state) :
      ∃ u, done (takeRequest src kind payload body s) = .next u ∧ WithinBudget g (budgetInUse s g) u :=
    ⟨_, rfl, takeRequest_within src kind payload answer h⟩
  match i with
  | .powerOnReset straps => ⟨_, rfl, afterReset_within straps s.image s.pending⟩
  | .currentSample d _ v => ⟨_, rfl, arbitrate_within _ (sample_within d _ v (settleDistrict_within d h))⟩
  | .swapWindowSuccess d => ⟨_, rfl, swapSuccess_within d h⟩
  | .episodeWindowExpiry f => ⟨_, rfl, ite_within (episodeExpiry_within f h) h⟩
  | .episodeCapExpiry f => ⟨_, rfl, ite_within (episodeExpiry_within f h) h⟩
  | .stallAssertion f => ⟨_, rfl, stallAssertion_within f h⟩
  | .stallClear f => ⟨_, rfl, stallClear_within f h⟩
  | .feedFirstDecision f => ⟨_, rfl, feedDecision_within f h⟩
  | .shed f => ⟨_, rfl, shedExpiry_within f h⟩
  | .coolExpiry d => ⟨_, rfl, coolExpiry_within d h⟩
  | .grantExpiry d => ⟨_, rfl, grantExpiry_within d h⟩
  | .probationExpiry d => ⟨_, rfl, probationExpiry_within d h⟩
  | .patrolExpiry d => ⟨_, rfl, patrolExpiry_within d h⟩
  | .senseEnd c => ⟨_, rfl, ite_within (stageEnd_within c h) h⟩
  | .prechargeEnd c => ⟨_, rfl, ite_within (stageEnd_within c h) h⟩
  | .rampStepEnd c => ⟨_, rfl, ite_within (stageEnd_within c h) h⟩
  | .confirmEnd c => ⟨_, rfl, ite_within (stageEnd_within c h) h⟩
  | .probeLifetimeExpiry c => ⟨_, rfl, lifetimeExpiry_within c h⟩
  | .jointFirstDecision j => ⟨_, rfl, jointDecision_within j h⟩
  | .debouncedInputChange j => ⟨_, rfl, inputChange_within j h⟩
  | .settleExpiry j => ⟨_, rfl, settleExpiry_within j h⟩
  | .dockingExpiry j => ⟨_, rfl, dockingExpiry_within j h⟩
  | .partStatus _ payload => request (noPayload_state payload h h)
  | .summary _ payload => request (noPayload_state payload h h)
  | .districtStatus src payload => request (oneDistrict_state payload (fun _ => readThrough_within src _ h) h)
  | .feedStatus src payload => request (oneFeed_state payload (fun _ => readThrough_within src _ h) h)
  | .jointStatus src payload => request (oneJoint_state payload (fun _ => readThrough_within src _ h) h)
  | .readDistrictConfig _ payload => request (bodyReadDistrictConfig_within payload h)
  | .readFeedConfig _ payload => request (oneFeed_state payload (fun _ => h) h)
  | .readJointConfig _ payload => request (oneJoint_state payload (fun _ => h) h)
  | .readGlobals _ payload => request (noPayload_state payload h h)
  | .join src payload => request (bodyJoin_within src payload h)
  | .leave src payload => request (bodyLeave_within src payload h)
  | .subscribe src payload => request (bodySubscribe_within src payload h)
  | .hold src payload => request (bodyHold_within src payload h)
  | .release src payload => request (bodyRelease_within src payload h)
  | .breakHold src payload => request (bodyBreakHold_within src payload h)
  | .acceptJoint src payload => request (bodyAcceptJoint_within src payload h)
  | .grant src payload => request (bodyGrant_within src payload h)
  | .retryNow src payload => request (bodyRetryNow_within src payload h)
  | .clear src payload => request (bodyClear_within src payload h)
  | .setDistrict src payload => request (bodySetDistrict_within src payload h)
  | .setFeed src payload => request (bodySetFeed_within src payload le_rfl)
  | .setJoint src payload => request (bodySetJoint_within src payload h)
  | .setGlobals src payload => request (bodySetGlobals_within src payload h)
  | .storeProfile src payload => request (bodyStoreProfile_within src payload h)
  | .profileWriteEnd agrees => ⟨_, rfl, profileWriteEnd_within agrees h⟩
  | .setMode src payload => request (bodySetMode_within src payload h)
  | .unknownKindRequest src kind payload => ⟨_, rfl, ite_within h (takeRequest_within src kind payload h h)⟩
  | .foreignFrame _ => ⟨_, rfl, ite_within h (setLine_within _ h)⟩
  | .badSourceFrame _ => ⟨_, rfl, ite_within h (setLine_within _ h)⟩
  | .checkError => ⟨_, rfl, ite_within (setLine_within _ h) h⟩
  | .frameError => ⟨_, rfl, ite_within (setLine_within _ h) h⟩
  | .interByteTimeout => ⟨_, rfl, ite_within (setLine_within _ h) h⟩
  | .replyStart => execReplyStart_within h
  | .replyEnd => ⟨_, rfl, ite_within (setLine_within _ h) h⟩
  | .replyCollision => ⟨_, rfl, ite_within (setLine_within _ h) h⟩
  | .tickBoundary => ⟨_, rfl, tickBoundary_within h⟩
  | .stallLineSample f high => ⟨_, rfl, stallSample_within f high h⟩
  | .jointSenseSample j high => ⟨_, rfl, jointSample_within j high h⟩
  | .frameStart => ⟨_, rfl, ite_within (setLine_within _ h) h⟩

theorem step_within (g : FeedId) (s : State) : ∃ u, step s = .next u ∧ WithinBudget g (budgetInUse s g) u := by
  unfold step
  split
  · exact ⟨_, rfl, idlePeriod_within (.of_use le_rfl)⟩
  · next c rest _ => exact exec_within g c (s.setPending rest)

end Sys2Proof.Machine

open Sys2Proof Sys2Proof.Machine
/-- Settles O11: a grant fits in the budget in force, and every other update of a step leaves the weights of
the channels as they are or frees a channel. -/
theorem budgetIsNeverExceeded : Obligations.BudgetIsNeverExceeded := by
  intro s t f stepped
  obtain ⟨u, next, within⟩ := step_within f s
  cases stepped.symm.trans next
  exact within
end

section
/-! The end of a stage of a running probe: when its row acts, and what its check makes of the probe (R114 to R118, R120,
R124, R125, R133). -/

namespace Sys2Proof.Machine

variable {s : State} {c : ChannelId} {p : Probe}

/-! ### When the end of a stage acts (R114, log entry 2) -/

theorem channelDue_eq (hc : s.channel c = some p) (q : Stage → Bool) :
    channelDue s c q = (q p.stage && stageDue s p) := by
  simp only [channelDue, hc]

/-- A row that ends a stage is taken when the stage is its own and the end is due. -/
theorem stageRow_due (hc : s.channel c = some p) {q : Stage → Bool} (own : q p.stage = true)
    (due : stageDue s p = true) : done (if channelDue s c q then stageEnd c s else s) = .next (stageEnd c s) := by
  rw [channelDue_eq hc, own, due]
  rfl

theorem stageRow_notDue (hc : s.channel c = some p) (q : Stage → Bool) (early : stageDue s p = false) :
    done (if channelDue s c q then stageEnd c s else s) = .next s := by
  rw [channelDue_eq hc, early, Bool.and_false]
  rfl

theorem exec_senseEnd_due (hc : s.channel c = some p) (running : p.pause = none) (stage : p.stage = .sense)
    (long : 8 ≤ p.elapsed) : exec (.senseEnd c) s = .next (arbitrate s (endSense c p s)) := by
  have due : stageDue s p = true := by simp [stageDue, stageSamples, running, stage, long]
  rw [show exec (.senseEnd c) s = .next (stageEnd c s) from stageRow_due hc (by rw [stage]; rfl) due]
  simp only [stageEnd, hc, due, stage, if_true]

theorem exec_prechargeEnd_due (hc : s.channel c = some p) (running : p.pause = none) (stage : p.stage = .precharge)
    (long : 4 * p.profile.preTime ≤ p.elapsed) :
    exec (.prechargeEnd c) s = .next (arbitrate s (endPrecharge c p s)) := by
  have due : stageDue s p = true := by simp [stageDue, stageSamples, running, stage, long]
  rw [show exec (.prechargeEnd c) s = .next (stageEnd c s) from stageRow_due hc (by rw [stage]; rfl) due]
  simp only [stageEnd, hc, due, stage, if_true]

theorem exec_rampStepEnd_due {k : Nat} (hc : s.channel c = some p) (running : p.pause = none)
    (stage : p.stage = .ramp k) (long : 4 * p.profile.stepTime ≤ p.elapsed) :
    exec (.rampStepEnd c) s = .next (arbitrate s (endRampStep c p k s)) := by
  have due : stageDue s p = true := by simp [stageDue, stageSamples, running, stage, long]
  rw [show exec (.rampStepEnd c) s = .next (stageEnd c s) from stageRow_due hc (by rw [stage]; rfl) due]
  simp only [stageEnd, hc, due, stage, if_true]

theorem exec_confirmEnd_due {b : Bool} (hc : s.channel c = some p) (running : p.pause = none)
    (stage : p.stage = .confirm b) (long : 4 * p.profile.confirmTime ≤ p.elapsed)
    (free : (s.monitor p.district).window = none) :
    exec (.confirmEnd c) s = .next (arbitrate s (endConfirm c p s)) := by
  have due : stageDue s p = true := by simp [stageDue, stageSamples, running, stage, long, free]
  rw [show exec (.confirmEnd c) s = .next (stageEnd c s) from stageRow_due hc (by rw [stage]; rfl) due]
  simp only [stageEnd, hc, due, stage, if_true]

/-! ### A probe that goes on causes no look (R105) -/

theorem arbitrate_probe (s : State) (c : ChannelId) (q : Probe) :
    arbitrate s (s.setChannel c (some q)) = s.setChannel c (some q) :=
  arbitrate_going c q rfl rfl rfl rfl

theorem arbitrate_probe_monitor (s : State) (c : ChannelId) (q : Probe) (d : DistrictId) (m : Monitor) :
    arbitrate s ((s.setChannel c (some q)).setMonitor d m) = (s.setChannel c (some q)).setMonitor d m :=
  arbitrate_going (t := s.setMonitor d m) c q rfl rfl rfl rfl

/-! ### What the check of each stage makes of the probe (R115 to R118, R133) -/

theorem pauseSibling_eq (hc : s.channel c = some p) (r : ResumePoint) :
    pauseSibling c r s = s.setChannel c (some { p with elapsed := 0, pause := some ⟨.sibling, r⟩ }) := by
  simp [pauseSibling, State.modChannel, hc]

theorem endSense_eq (hc : s.channel c = some p) : endSense c p s =
    if (s.monitor p.district).voltage then failProbe c p .backfeed s
    else s.setChannel c (some { p with stage := .precharge, elapsed := 0 }) := by
  rw [endSense, enterStage_eq hc]

theorem endPrecharge_short (high : p.profile.preLimit < historyMean (s.monitor p.district)) :
    endPrecharge c p s = failProbe c p .shortPersists s := if_pos high

/-- Where a probe that waits at the end of PRECHARGE goes on (R133). -/
def afterPrecharge (p : Probe) : ResumePoint :=
  match p.kind with
  | .full => .ramp p.entryStep
  | .look => .lookPass

theorem endPrecharge_waiting (low : historyMean (s.monitor p.district) ≤ p.profile.preLimit)
    (waiting : waits s p.feed c = true) : endPrecharge c p s = pauseSibling c (afterPrecharge p) s := by
  rw [endPrecharge, if_neg (Nat.not_lt.mpr low), if_pos waiting]
  rfl

theorem endPrecharge_full (low : historyMean (s.monitor p.district) ≤ p.profile.preLimit)
    (alone : waits s p.feed c = false) (full : p.kind = .full) :
    endPrecharge c p s = startRamp c p.district p.entryStep s := by
  simp only [endPrecharge, if_neg (Nat.not_lt.mpr low), alone, full, if_neg Bool.false_ne_true]

theorem endPrecharge_look (low : historyMean (s.monitor p.district) ≤ p.profile.preLimit)
    (alone : waits s p.feed c = false) (look : p.kind = .look) : endPrecharge c p s = passLook c p.district s := by
  simp only [endPrecharge, if_neg (Nat.not_lt.mpr low), alone, look, if_neg Bool.false_ne_true]

theorem endRampStep_absent (k : Nat) (absent : (s.monitor p.district).voltage = false) :
    endRampStep c p k s = failProbe c p .noVoltage s := by
  rw [endRampStep, absent]
  rfl

theorem endRampStep_present (k : Nat) (present : (s.monitor p.district).voltage = true) : endRampStep c p k s =
    if waits s p.feed c then pauseSibling c (if k < p.profile.rampSteps then .ramp (k + 1) else .confirm) s
    else if k < p.profile.rampSteps then enterStage c (.ramp (k + 1)) s
    else startConfirm c p.district s := by
  rw [endRampStep, present]
  rfl

theorem succeed_eq (s : State) (c : ChannelId) (d : DistrictId) : succeed c d s = markDistrict [.recovered] d
    (((endProbe c s).setDistrict d { (endProbe c s).district d with st := .live, probation := true }).setTimer d
      (loaded .probation s.cfg.globals.probation)) := rfl

end Sys2Proof.Machine

open Sys2Proof Sys2Proof.Machine

/-- Settles O48: the check of each stage fails the probe, lets it go on with no look of the Arbiter, or passes it. -/
theorem senseAndPrechargeEnds : Obligations.SenseAndPrechargeEnds := by
  intro s c p hc running
  refine ⟨fun stage long => ?_, fun stage long => ?_,
    fun early => ⟨stageRow_notDue hc _ early, stageRow_notDue hc _ early⟩⟩
  · rw [exec_senseEnd_due hc running stage long, endSense_eq hc]
    split
    · rfl
    · rw [arbitrate_probe]
  · intro mean resumePoint
    rw [exec_prechargeEnd_due hc running stage long]
    refine ⟨fun high => ?_, fun low waiting => ?_, fun low alone full => ?_, fun low alone look => ?_⟩
    · rw [endPrecharge_short high]
    · rw [endPrecharge_waiting low waiting, pauseSibling_eq hc, arbitrate_probe]
      rfl
    · rw [endPrecharge_full low alone full, startRamp_eq hc, arbitrate_probe_monitor]
    · rw [endPrecharge_look low alone look, passLook_eq]
      rfl

/-- Settles O49: as at the earlier ends, and a probe that succeeds leaves its district LIVE in probation. -/
theorem rampAndConfirmEnds : Obligations.RampAndConfirmEnds := by
  intro s c p hc running
  refine ⟨fun k stage long => ?_, fun b stage long free => ?_,
    fun early => ⟨stageRow_notDue hc _ early, stageRow_notDue hc _ early⟩⟩
  · rw [exec_rampStepEnd_due hc running stage long]
    refine ⟨fun absent => ?_, fun present waiting => ?_, fun present alone below => ?_,
      fun present alone last => ?_⟩
    · rw [endRampStep_absent k absent]
    · rw [endRampStep_present k present, if_pos waiting, pauseSibling_eq hc, arbitrate_probe]
    · rw [endRampStep_present k present, alone, if_neg Bool.false_ne_true, if_pos below, enterStage_eq hc,
        arbitrate_probe]
    · rw [endRampStep_present k present, alone, if_neg Bool.false_ne_true, if_neg (Nat.not_lt.mpr last),
        startConfirm_eq hc, arbitrate_probe_monitor]
  · rw [exec_confirmEnd_due hc running stage long free]
    refine ⟨fun absent => ?_, fun present => ?_⟩
    · rw [endConfirm, absent, if_neg Bool.false_ne_true]
    · rw [endConfirm, if_pos present, succeed_eq]
end

section
/-! Joint requests: ACCEPT_JOINT (R155) and SET_JOINT (R154, R156), their checks (R179) and the values they take
(R187). -/

namespace Sys2Proof.Machine

variable {s : State} {src : Byte}

/-- A recompute of the isolation sets and the look after it leave the line alone. -/
theorem recompute_line (before t : State) : (arbitrate before (isolationChange before t)).line = t.line :=
  (arbitrate_keeps (sameOuter_keeps t) before
    (isolationChange_keeps (sameOuter_keeps t) before (SameOuter.refl t))).line

/-! ### The checks of a request that names one joint -/

theorem oneJoint_badLength {payload : List Byte} (h : payload.length ≠ 1) (body : JointId → Answer) :
    oneJoint payload s body = refuse .badArg [] s := by
  unfold oneJoint
  split
  · exact absurd rfl h
  · rfl

theorem oneJoint_badNumber {b : Byte} (h : 8 ≤ b.toNat) (body : JointId → Answer) :
    oneJoint [b] s body = refuse .badArg [] s := by
  simp [oneJoint, Nat.not_lt.mpr h]

/-- A request whose body reads one joint number, then looks for the sender's slot, is checked in that order. -/
theorem jointChecked_of_body {request : Byte → List Byte → Instr} {kind : Byte}
    {body : JointId → SlotId → State → Answer} (taken : Taken s src [])
    (h : ∀ payload, exec (request src payload) s = done (takeRequest src kind payload
      (fun t => oneJoint payload t (fun j => ofSlot src t (fun n => body j n t))) s)) :
    JointChecked request kind s src := by
  refine ⟨fun payload taken' length => ?_, fun b number => ?_, fun outsider j => ?_⟩ <;> rw [h]
  · exact takeRequest_refuses taken' _ (oneJoint_badLength length _)
  · exact takeRequest_refuses (taken.singleton b) _ (oneJoint_badNumber number _)
  · exact takeRequest_refuses (taken.singleton _) _ ((oneJoint_byte s j _).trans (ofSlot_outsider s outsider _))

/-! ### ACCEPT_JOINT by the joint's condition (R155) -/

theorem jointEvent_line (j : JointId) (g : Joint → Joint) (s : State) : (jointEvent j g s).line = s.line := by
  rw [jointEvent, recompute_line, markJoint_line]
  rfl

section
variable {n : SlotId} (joined : slotOf s src = some n) {j : JointId}
include joined

theorem bodyAcceptJoint_couples (fault : (s.joint j).st = .fault) (coupled : (s.joint j).input = true) :
    bodyAcceptJoint src [byte j.val] s =
      ⟨.ok, [jointByte0 (jointEvent j Joint.couple s) j], jointEvent j Joint.couple s⟩ := by
  rw [bodyAcceptJoint, oneJoint_byte, ofSlot_joined s joined]
  simp [fault, coupled]

theorem bodyAcceptJoint_refuses (h : (s.joint j).st ≠ .fault ∨ (s.joint j).input = false) :
    bodyAcceptJoint src [byte j.val] s = refuse .refusedState [jointByte0 s j] s := by
  rw [bodyAcceptJoint, oneJoint_byte, ofSlot_joined s joined]
  rcases h with h | h <;> simp [h]
end

/-! ### The values of a SET_JOINT (R156, R187) -/

theorem debounceOfCode_none {v : Nat} : debounceOfCode v = none ↔ 4 ≤ v := by
  rcases v with _ | _ | _ | _ | v <;> simp [debounceOfCode]

theorem settleOfCode_none {v : Nat} : settleOfCode v = none ↔ 5 ≤ v := by
  rcases v with _ | _ | _ | _ | _ | v <;> simp [settleOfCode]

theorem dockingOfCode_none {v : Nat} : dockingOfCode v = none ↔ 5 ≤ v := by
  rcases v with _ | _ | _ | _ | _ | v <;> simp [dockingOfCode]

theorem boolOfCode_code (x : Bool) : boolOfCode (boolCode x) = some x := by cases x <;> rfl
theorem debounceOfCode_code (x : Debounce) : debounceOfCode (debounceCode x) = some x := by cases x <;> rfl
theorem settleOfCode_code (x : SettleTime) : settleOfCode (settleCode x) = some x := by cases x <;> rfl
theorem dockingOfCode_code (x : DockingTimeout) : dockingOfCode (dockingCode x) = some x := by cases x <;> rfl

/-- The value taken is the one whose code is written, or stored where none is written. -/
theorem takeCode_of_code {α : Type} {es : List FieldEntry} {id : Nat} {ofCode : Nat → Option α} {code : α → Nat}
    {stored x : α} (inverse : ∀ y, ofCode (code y) = some y) (h : code x = (es.lookup id).getD (code stored)) :
    takeCode es id ofCode stored = some x := by
  unfold takeCode written
  cases hv : es.lookup id with
  | none =>
    rw [hv] at h
    rw [← inverse x, h]
    exact (inverse stored).symm
  | some v =>
    rw [hv] at h
    rw [← inverse x, h]
    rfl

/-- One code out of range refuses the whole write. -/
theorem takeJoint_badCode {k : JointConfig} {es : List FieldEntry}
    (h : takeCode es 1 boolOfCode k.enabled = none ∨ takeCode es 3 boolOfCode k.coupledHigh = none ∨
      takeCode es 4 debounceOfCode k.debounce = none ∨ takeCode es 5 settleOfCode k.settle = none ∨
      takeCode es 6 dockingOfCode k.docking = none) : takeJoint k es = none := by
  rcases h with h | h | h | h | h <;> simp [takeJoint, h]

/-- With every code in range the settle time alone decides whether the write is taken. -/
theorem takeJoint_eq {k c : JointConfig} {es : List FieldEntry}
    (enabled : takeCode es 1 boolOfCode k.enabled = some c.enabled)
    (cover : c.cover = ((written es 2).map (BitVec.ofNat 16)).getD k.cover)
    (coupledHigh : takeCode es 3 boolOfCode k.coupledHigh = some c.coupledHigh)
    (debounce : takeCode es 4 debounceOfCode k.debounce = some c.debounce)
    (settle : takeCode es 5 settleOfCode k.settle = some c.settle)
    (docking : takeCode es 6 dockingOfCode k.docking = some c.docking) :
    takeJoint k es = if c.settle.samples < c.docking.samples then some c else none := by
  obtain ⟨on, covered, high, filter, time, timeout⟩ := c
  obtain rfl : covered = _ := cover
  rw [takeJoint, enabled, coupledHigh, debounce, settle, docking]
  cases written es 2 <;> rfl

/-! ### The checks and the effects of a SET_JOINT (R154, R156) -/

theorem writeJoint_eq (j : JointId) (es : List FieldEntry) (c : JointConfig) (s : State) : writeJoint j es c s =
    isolationChange s (markJoint j ((s.setJcfg j c).setJoint j
      { s.joint j with filterRun := if names es 3 || names es 4 then 0 else (s.joint j).filterRun })) := by
  unfold writeJoint
  split
  · rfl
  · exact congrArg (fun t => isolationChange s (markJoint j t)) (State.setJoint_own (s.setJcfg j c) j).symm

theorem arbitrate_writeJoint_line (j : JointId) (es : List FieldEntry) (c : JointConfig) (s : State) :
    (arbitrate s (writeJoint j es c s)).line = s.line := by
  simp [writeJoint_eq, recompute_line]

section
variable {entries : List Byte} {es : List FieldEntry}

theorem bodySetJoint_badNumber {b : Byte} (h : 8 ≤ b.toNat) :
    bodySetJoint src (b :: entries) s = refuse .badArg [] s := by
  rw [bodySetJoint, oneJoint_badNumber h]

theorem bodySetJoint_unparsed (b : Byte) (h : parseEntries jointWidth entries = none) :
    bodySetJoint src (b :: entries) s = refuse .badArg [] s := by
  simp [bodySetJoint, oneJoint, h]

theorem bodySetJoint_refused {j : JointId} (parsed : parseEntries jointWidth entries = some es)
    (h : takeJoint (s.jcfg j) es = none) : bodySetJoint src (byte j.val :: entries) s = refuse .badArg [] s := by
  simp [bodySetJoint, oneJoint_byte, parsed, h]

theorem bodySetJoint_taken {j : JointId} (parsed : parseEntries jointWidth entries = some es) {c : JointConfig}
    (h : takeJoint (s.jcfg j) es = some c) : bodySetJoint src (byte j.val :: entries) s = partWide src s
      ⟨.ok, echo jointWidth (jointField c) es, arbitrate s (writeJoint j es c s)⟩ := by
  simp [bodySetJoint, oneJoint_byte, parsed, h]
end

end Sys2Proof.Machine

open Sys2Proof Sys2Proof.Machine

/-- Settles O34: the checks of a request that names one joint, then the joint's condition alone decides; the recompute
that follows leaves the line for the reply. -/
theorem acceptJointCouplesAFault : Obligations.AcceptJointCouplesAFault := by
  intro s src taken
  refine ⟨jointChecked_of_body taken fun _ => rfl, fun j n joined => ⟨fun fault coupled => ?_, fun other => ?_⟩⟩
  · exact ⟨jointEvent j Joint.couple s, rfl, takeRequest_answers (taken.singleton _) _
      (bodyAcceptJoint_couples joined fault coupled) (jointEvent_line j _ s)⟩
  · exact takeRequest_answers (taken.singleton _) _ (bodyAcceptJoint_refuses joined other) rfl

/-- Settles O42: the codes written determine every field that `takeJoint` stores, so the settle time decides between
the refusal and the write, which then meets the checks of the whole part. -/
theorem setJointTakesTheWrite : Obligations.SetJointTakesTheWrite := by
  refine ⟨fun s src taken => takeRequest_refuses taken _ rfl, ?_⟩
  intro s src b entries es taken refused
  refine ⟨fun bad => ?_, ?_⟩
  · exact takeRequest_refuses taken _ (bad.elim bodySetJoint_badNumber (bodySetJoint_unparsed b))
  · rintro j rfl parsed k codeOut
    refine ⟨fun out => takeRequest_refuses taken _ (bodySetJoint_refused parsed (takeJoint_badCode ?_)), ?_⟩
    · simpa only [takeCode_none, boolOfCode_none, debounceOfCode_none, settleOfCode_none, dockingOfCode_none] using out
    · intro c _ enabled cover coupledHigh debounce settle docking
      have covered : c.cover = ((written es 2).map (BitVec.ofNat 16)).getD k.cover :=
        cover.trans (by unfold written; cases es.lookup 2 <;> rfl)
      have values : takeJoint k es = if c.settle.samples < c.docking.samples then some c else none :=
        takeJoint_eq (takeCode_of_code boolOfCode_code enabled) covered (takeCode_of_code boolOfCode_code coupledHigh)
          (takeCode_of_code debounceOfCode_code debounce) (takeCode_of_code settleOfCode_code settle)
          (takeCode_of_code dockingOfCode_code docking)
      split
      · next long =>
        rw [if_neg (Nat.not_lt.mpr long)] at values
        exact takeRequest_refuses taken _ (bodySetJoint_refused parsed values)
      · next short =>
        rw [if_pos (Nat.not_le.mp short)] at values
        have answer := takeRequest_partWide taken 0x42#8 (bodySetJoint_taken parsed values)
          (arbitrate_writeJoint_line j es c s)
        rw [writeJoint_eq] at answer
        exact answer
end

section
/-! Marks, by slot (R162). -/

namespace Sys2Proof.Machine

variable (s : State)

theorem markJoint_slot (j : JointId) (n : SlotId) : (markJoint j s).slot n = (s.slot n).map (fun x =>
    if x.jointEnable then { x with changedJoints := addItem x.changedJoints j.val } else x) :=
  forSlots_read (n := n) (read := fun t => t.slot n) (I := fun _ => True)
    (φ := Option.map (fun x => if x.jointEnable then { x with changedJoints := addItem x.changedJoints j.val } else x))
    (fun _ _ _ => trivial) (fun t _ => by simp [State.modSlot])
    (fun e he t _ => by simp [State.modSlot, State.setSlot_slot, he]) trivial

/-- An update of the slots alone is undone by the slots as they were. -/
theorem slots_restored {s t : State} (h : ∃ v, t = { s with slots := v }) : { t with slots := s.slots } = s := by
  obtain ⟨v, rfl⟩ := h
  rfl

end Sys2Proof.Machine

open Sys2Proof Sys2Proof.Machine
/-- Settles O24: a mark is read slot by slot, and it changes the slots alone. -/
theorem marksReachSubscribers : Obligations.MarksReachSubscribers := by
  intro s kinds d f j bit
  have bits : Mark.bit = bit := by
    funext k
    cases k <;> rfl
  refine ⟨⟨fun n => ?_, slots_restored (markDistrict_same kinds d s)⟩,
    ⟨markFeed_slot s f, slots_restored (markFeed_same f s)⟩,
    ⟨markJoint_slot s j, slots_restored (markJoint_same j s)⟩⟩
  rw [markDistrict_slot, ← bits]
  rfl
end

section
/-! The requests of the Master Table: JOIN, LEAVE and SUBSCRIBE (R158 to R161). -/

namespace Sys2Proof.Machine

variable {s : State} {src : Byte}

/-! ### Slots and payloads -/

theorem freeSlot_eq_some {n : SlotId} :
    freeSlot s = some n ↔ s.slot n = none ∧ ∀ m, m < n → (s.slot m).isSome := by
  have lowest : ∀ (n : SlotId) (p : SlotId → Bool),
      allSlots.find? p = some n ↔ p n = true ∧ ∀ m, m < n → p m = false := by decide
  simp [freeSlot, lowest]

theorem freeSlot_eq_none : freeSlot s = none ↔ ∀ n, (s.slot n).isSome := by
  simp [freeSlot, mem_allSlots, Option.isSome_iff_ne_none]

theorem noPayload_refuses {payload : List Byte} (h : payload ≠ []) (body : Answer) :
    noPayload payload s body = refuse .badArg [] s := by
  simp [noPayload, h]

theorem Taken.pair {payload : List Byte} (h : Taken s src payload) (a b : Byte) : Taken s src [a, b] := by
  obtain ⟨receiving, low, high, -⟩ := h
  exact ⟨receiving, low, high, by simp⟩

/-! ### JOIN (R159) -/

theorem bodyJoin_joined {n : SlotId} {x : Slot} (joined : slotOf s src = some n) (hx : s.slot n = some x) :
    bodyJoin src [] s = ⟨.ok, [byte n.val, 1#8], s.setSlot n (some x.refilled)⟩ := by
  simp [bodyJoin, noPayload, joined, State.modSlot, hx]

theorem bodyJoin_free {n : SlotId} (outsider : slotOf s src = none) (free : freeSlot s = some n) :
    bodyJoin src [] s = ⟨.ok, [byte n.val, 0#8], s.setSlot n (some (Slot.joining src))⟩ := by
  simp [bodyJoin, noPayload, outsider, free]

theorem bodyJoin_full (outsider : slotOf s src = none) (full : freeSlot s = none) :
    bodyJoin src [] s = refuse .noSlot [] s := by
  simp [bodyJoin, noPayload, outsider, full]

/-! ### LEAVE (R160) -/

theorem heldBy_getLsbD (n : SlotId) (d : DistrictId) :
    (heldBy s n).getLsbD d.val = (s.district d).holders.getLsbD n.val := by
  rw [heldBy, getLsbD_bitmap]
  simp

theorem heldBy_eq_zero {n : SlotId} :
    heldBy s n = 0#16 ↔ ∀ d, (s.district d).holders.getLsbD n.val = false := by
  refine ⟨fun h d => ?_, fun h => BitVec.eq_of_getLsbD_eq fun i hi => ?_⟩
  · rw [← heldBy_getLsbD, h, BitVec.getLsbD_zero]
  · rw [BitVec.getLsbD_zero]
    exact (heldBy_getLsbD n ⟨i, hi⟩).trans (h ⟨i, hi⟩)

theorem bodyLeave_frees {n : SlotId} (joined : slotOf s src = some n)
    (nothing : ∀ d, (s.district d).holders.getLsbD n.val = false) :
    bodyLeave src [] s = ⟨.ok, [], s.setSlot n none⟩ := by
  simp [bodyLeave, noPayload, ofSlot_joined s joined, heldBy_eq_zero.mpr nothing]

theorem bodyLeave_holding {n : SlotId} (joined : slotOf s src = some n) {d : DistrictId}
    (held : (s.district d).holders.getLsbD n.val = true) :
    bodyLeave src [] s = refuse .holding [(heldBy s n >>> 8).setWidth 8, (heldBy s n).setWidth 8] s := by
  have holds : heldBy s n ≠ 0#16 := fun none => by
    rw [heldBy_eq_zero.mp none d] at held
    cases held
  simp [bodyLeave, noPayload, ofSlot_joined s joined, holds, word_toNat]

theorem bodyLeave_outsider (outsider : slotOf s src = none) : bodyLeave src [] s = refuse .notJoined [] s :=
  ofSlot_outsider s outsider _

/-! ### SUBSCRIBE (R161) -/

theorem bodySubscribe_badLength {payload : List Byte} (h : payload.length ≠ 2) :
    bodySubscribe src payload s = refuse .badArg [] s := by
  unfold bodySubscribe
  split
  · exact absurd rfl h
  · rfl

section
variable {kinds enables : Byte}

theorem bodySubscribe_badEnables (h : 3 < enables.toNat) :
    bodySubscribe src [kinds, enables] s = refuse .badArg [] s :=
  if_pos h

theorem bodySubscribe_eq (h : enables.toNat ≤ 3) : bodySubscribe src [kinds, enables] s = ofSlot src s (fun n =>
    ⟨.ok, [kinds, enables], s.modSlot n (Slot.subscribed kinds (enables.getLsbD 0) (enables.getLsbD 1))⟩) :=
  if_neg (Nat.not_lt.mpr h)

theorem bodySubscribe_joined (h : enables.toNat ≤ 3) {n : SlotId} {x : Slot} (joined : slotOf s src = some n)
    (hx : s.slot n = some x) : bodySubscribe src [kinds, enables] s =
      ⟨.ok, [kinds, enables],
       s.setSlot n (some (x.subscribed kinds (enables.getLsbD 0) (enables.getLsbD 1)))⟩ := by
  rw [bodySubscribe_eq h, ofSlot_joined s joined, State.modSlot, hx]
  rfl
end

end Sys2Proof.Machine

open Sys2Proof Sys2Proof.Machine
/-- Settles O28: the sender's slot and the lowest free slot decide between the three answers of JOIN. -/
theorem joinGivesOneSlot : Obligations.JoinGivesOneSlot := by
  refine ⟨fun s src payload taken filled => takeRequest_refuses taken _ (noPayload_refuses filled _),
    fun s src taken => ⟨fun n x joined hx => ?_, fun n outsider free lower => ?_, fun outsider full => ?_⟩⟩
  · exact takeRequest_answers taken _ (bodyJoin_joined joined hx) rfl
  · exact takeRequest_answers taken _ (bodyJoin_free outsider (freeSlot_eq_some.mpr ⟨free, lower⟩)) rfl
  · exact takeRequest_refuses taken _ (bodyJoin_full outsider (freeSlot_eq_none.mpr full))

/-- Settles O29: LEAVE asks for the districts that the sender's slot holds, SUBSCRIBE for its enables byte before the
sender's slot. -/
theorem leaveAndSubscribe : Obligations.LeaveAndSubscribe := by
  refine ⟨fun s src payload taken => ⟨fun filled => takeRequest_refuses taken _ (noPayload_refuses filled _),
    fun length => takeRequest_refuses taken _ (bodySubscribe_badLength length)⟩, ?_⟩
  intro s src kinds enables taken
  have takenPair := taken.pair kinds enables
  refine ⟨fun bad => takeRequest_refuses takenPair _ (bodySubscribe_badEnables bad), fun outsider => ?_,
    fun n x joined hx => ⟨fun nothing => ?_, fun d held => ?_, fun good => ?_⟩⟩
  · exact ⟨takeRequest_refuses taken _ (bodyLeave_outsider outsider), fun good =>
      takeRequest_refuses takenPair _ ((bodySubscribe_eq good).trans (ofSlot_outsider s outsider _))⟩
  · exact takeRequest_answers taken _ (bodyLeave_frees joined nothing) rfl
  · exact takeRequest_answers taken _ (bodyLeave_holding joined held) rfl
  · exact takeRequest_answers takenPair _ (bodySubscribe_joined good joined hx) rfl
end

section
/-! GRANT (R168) and CLEAR (R169) by the district's state. -/

namespace Sys2Proof.Machine

variable {s : State} {src : Byte}

/-! ### GRANT by the district's state (R168) -/

/-- GRANT answers with byte 0 of the state that its body leaves. -/
theorem grant_answers (taken : Taken s src []) {d : DistrictId} {st : Status} {u : State}
    (hl : u.line = s.line) (h : bodyGrant src [byte d.val] s = stateAnswer st d u) :
    exec (.grant src [byte d.val]) s = .next (answered s u src 0x30#8 st [districtByte0 u d]) :=
  takeRequest_answers (taken.singleton _) _ h hl

section
variable {n : SlotId} (joined : slotOf s src = some n) {d : DistrictId}
include joined

theorem bodyGrant_retries (h : (s.district d).st = .awaitingGrant) :
    bodyGrant src [byte d.val] s = stateAnswer .ok d (retried s d) := by
  rw [bodyGrant, oneDistrict_byte, ofSlot_joined s joined]
  simp only [h, grantRetry_eq]

theorem bodyGrant_cooling {p : CoolPhase} (h : (s.district d).st = .cooling p) :
    bodyGrant src [byte d.val] s = stateAnswer .notDue d s := by
  rw [bodyGrant, oneDistrict_byte, ofSlot_joined s joined]
  simp only [h]

theorem bodyGrant_isolated {r : ResumeTo} (h : (s.district d).st = .isolated r) :
    bodyGrant src [byte d.val] s = stateAnswer .isolated d s := by
  rw [bodyGrant, oneDistrict_byte, ofSlot_joined s joined]
  simp only [h]

theorem bodyGrant_refuses (awaiting : (s.district d).st ≠ .awaitingGrant)
    (cooling : ∀ p, (s.district d).st ≠ .cooling p) (isolated : ∀ r, (s.district d).st ≠ .isolated r) :
    bodyGrant src [byte d.val] s = stateAnswer .refusedState d s := by
  rw [bodyGrant, oneDistrict_byte, ofSlot_joined s joined]
  split
  · next h => exact absurd h awaiting
  · next h => exact absurd h (cooling _)
  · next h => exact absurd h (isolated _)
  · rfl
end

/-! ### The look of a district that is cleared (R169) -/

section
variable {d : DistrictId} {why : LockCause}

theorem dropLook_noLook (h : (s.district d).st = .locked why .noLook) : dropLook d s = s := by
  simp only [dropLook, h]

theorem dropLook_queued (h : (s.district d).st = .locked why .queued) :
    dropLook d s = setSt d (.locked why .noLook)
      (s.setQueue (s.dcfg d).feed ((s.queue (s.dcfg d).feed).filter (fun x => x.district != d))) := by
  simp only [dropLook, h, removeEntry_eq]

theorem dropLook_inFlight (h : (s.district d).st = .locked why .inFlight) {c : ChannelId}
    (hc : channelOf s d = some c) : dropLook d s = setSt d (.locked why .noLook) (endProbe c s) := by
  simp only [dropLook, h, hc]
end

theorem dropLook_sameOuter (d : DistrictId) : SameOuter s (dropLook d s) :=
  dropLook_keeps (sameOuter_keeps s) d (SameOuter.refl s)

/-- A queued look leaves the queue before the district is placed, as it would at the placement itself (R98). -/
theorem queueWith_dropLook (d : DistrictId) (k : EntryKind) : queueWith (dropLook d s) d k = queueWith s d k := by
  have rest : ((dropLook d s).queue (s.dcfg d).feed).filter (fun e => e.district != d) =
      (s.queue (s.dcfg d).feed).filter (fun e => e.district != d) := by
    unfold dropLook
    split
    · simp [setSt, State.modDistrict, removeEntry_eq]
    · split
      · simp [setSt, State.modDistrict, endProbe_queue]
      · rfl
    · rfl
  simp only [queueWith, (dropLook_sameOuter d).dcfg, rest]

/-! ### CLEAR by the district's state (R169) -/

/-- District `d` of state `e` in state `x`, its failures forgotten and its timer empty. -/
def unlocked (e : State) (d : DistrictId) (x : DistrictState) : State :=
  (e.setDistrict d { e.district d with st := x, failures := 0 }).setTimer d Timer.empty

theorem unlocked_setSt (e : State) (d : DistrictId) (x y : DistrictState) :
    unlocked (setSt d x e) d y = unlocked e d y := by
  simp [unlocked, setSt, State.modDistrict]

/-- The state after a CLEAR of district `d`, from the state `e` in which its look has ended (R169, step 5). -/
def cleared (s e : State) (d : DistrictId) : State :=
  arbitrate s (markDistrict [.locked] d
    (if s.mode = .run then
      if isolationSet s d then unlocked e d (.isolated .queued)
      else (unlocked e d .queued).setQueue (s.dcfg d).feed (queueWith s d .full)
    else unlocked e d .off))

theorem cleared_setSt (e : State) (d : DistrictId) (x : DistrictState) :
    cleared s (setSt d x e) d = cleared s e d := by
  simp only [cleared, unlocked_setSt]

theorem clearLock_eq (d : DistrictId) : clearLock d s = cleared s (dropLook d s) d := by
  have outer : SameOuter s (setFailures d 0 (clearTimer d (dropLook d s))) :=
    setFailures_keeps (sameOuter_keeps s) d 0 (clearTimer_keeps (sameOuter_keeps s) d (dropLook_sameOuter d))
  have unlock (x : DistrictState) :
      setSt d x (setFailures d 0 (clearTimer d (dropLook d s))) = unlocked (dropLook d s) d x := by
    simp [setSt, setFailures, State.modDistrict, clearTimer_eq, unlocked]
  have place : becomeQueued d (setFailures d 0 (clearTimer d (dropLook d s))) =
      (unlocked (dropLook d s) d .queued).setQueue (s.dcfg d).feed (queueWith s d .full) := by
    have feed : (unlocked (dropLook d s) d .queued).dcfg d = s.dcfg d := (dropLook_sameOuter d).dcfg d
    rw [becomeQueued, placeEntry_eq, unlock, feed, ← queueWith_dropLook (s := s)]
    rfl
  rw [clearLock, cleared, clearedState, outer.isolationSet, outer.mode, unlock, unlock, place]
  simp only [beq_iff_eq]

theorem cleared_line {d : DistrictId} {e : State} (h : clearLock d s = cleared s e d) :
    (cleared s e d).line = s.line := by
  rw [← h]
  exact (clearLock_keeps (sameOuter_keeps s) d (SameOuter.refl s)).line

section
variable {n : SlotId} (joined : slotOf s src = some n) {d : DistrictId}
include joined

theorem bodyClear_locked {why : LockCause} {look : LookStatus} (h : (s.district d).st = .locked why look) :
    bodyClear src [byte d.val] s = stateAnswer .ok d (clearLock d s) := by
  rw [bodyClear, oneDistrict_byte, ofSlot_joined s joined]
  simp only [h]

theorem bodyClear_refuses (h : isLocked (s.district d).st = false) :
    bodyClear src [byte d.val] s = stateAnswer .refusedState d s := by
  rw [bodyClear, oneDistrict_byte, ofSlot_joined s joined]
  split
  · next locked =>
    rw [locked] at h
    cases h
  · rfl

/-- CLEAR of a LOCKED district answers with the state that ends its look in `e`. -/
theorem clear_answers (taken : Taken s src []) {why : LockCause} {look : LookStatus}
    (h : (s.district d).st = .locked why look) {e : State} (he : cleared s (dropLook d s) d = cleared s e d) :
    exec (.clear src [byte d.val]) s =
      .next (answered s (cleared s e d) src 0x32#8 .ok [districtByte0 (cleared s e d) d]) := by
  have state : clearLock d s = cleared s e d := (clearLock_eq d).trans he
  have body := bodyClear_locked joined h
  rw [state] at body
  exact takeRequest_answers (taken.singleton _) _ body (cleared_line state)
end

end Sys2Proof.Machine

open Sys2Proof Sys2Proof.Machine
/-- Settles O35: the body of GRANT answers by the district's state, after the checks of a request that names one
district. -/
theorem grantByState : Obligations.GrantByState := by
  intro s src taken
  refine ⟨districtChecked_of_body taken fun _ => rfl, fun d n joined =>
    ⟨fun h => grant_answers taken (retried_line s d) (bodyGrant_retries joined h),
     fun p h => grant_answers taken rfl (bodyGrant_cooling joined h),
     fun r h => grant_answers taken rfl (bodyGrant_isolated joined h),
     fun h => grant_answers taken rfl (bodyGrant_refuses joined ?_ ?_ ?_)⟩⟩
  · intro awaiting
    simp [awaiting, isLocked] at h
  · intro p cooling
    simp [cooling, isLocked] at h
  · intro r isolated
    simp [isolated, isLocked] at h

/-- Settles O37: the look status says in which state the lockout ends; every look leaves the same mode, isolation set
and queue behind it. -/
theorem clearEndsALockout : Obligations.ClearEndsALockout := by
  intro s src taken
  refine ⟨districtChecked_of_body taken fun _ => rfl, fun d n joined => ⟨fun why h => ?_, fun why h => ?_,
    fun why c h hc => ?_, fun free => ?_⟩⟩
  · exact clear_answers joined taken h (by rw [dropLook_noLook h])
  · exact clear_answers joined taken h (by rw [dropLook_queued h, cleared_setSt])
  · exact clear_answers joined taken h (by rw [dropLook_inFlight h hc, cleared_setSt])
  · exact takeRequest_answers (taken.singleton _) _ (bodyClear_refuses joined free) rfl
end

section
/-! The reads that change nothing (R163, R185), and the payloads that every read refuses (R179). -/

namespace Sys2Proof.Machine

variable {s : State} {src : Byte} {payload : List Byte}

/-! ### Payloads that name no record (R179) -/

theorem byte_of_toNat (b : Byte) : byte b.toNat = b := by
  simp [byte]

theorem oneDistrict_refuses (h : ∀ d : DistrictId, payload ≠ [byte d.val]) (body : DistrictId → Answer) :
    oneDistrict payload s body = refuse .badArg [] s := by
  unfold oneDistrict
  split
  · next b =>
    split
    · next low => exact absurd (by rw [byte_of_toNat]) (h ⟨b.toNat, low⟩)
    · rfl
  · rfl

theorem oneFeed_refuses (h : ∀ f : FeedId, payload ≠ [byte f.val]) (body : FeedId → Answer) :
    oneFeed payload s body = refuse .badArg [] s := by
  unfold oneFeed
  split
  · next b =>
    split
    · next low => exact absurd (by rw [byte_of_toNat]) (h ⟨b.toNat, low⟩)
    · rfl
  · rfl

theorem oneJoint_refuses (h : ∀ j : JointId, payload ≠ [byte j.val]) (body : JointId → Answer) :
    oneJoint payload s body = refuse .badArg [] s := by
  unfold oneJoint
  split
  · next b =>
    split
    · next low => exact absurd (by rw [byte_of_toNat]) (h ⟨b.toNat, low⟩)
    · rfl
  · rfl

/-! ### READ_DISTRICT_CONFIG (R185) -/

theorem bodyReadDistrictConfig_page0 (d : DistrictId) :
    bodyReadDistrictConfig [byte d.val, 0#8] s = ⟨.ok, districtPage0 (s.dcfg d), s⟩ := by
  rw [bodyReadDistrictConfig, oneDistrict_byte]
  rfl

theorem bodyReadDistrictConfig_page1 (d : DistrictId) :
    bodyReadDistrictConfig [byte d.val, 1#8] s = ⟨.ok, districtPage1 (s.dcfg d), s⟩ := by
  rw [bodyReadDistrictConfig, oneDistrict_byte]
  rfl

theorem bodyReadDistrictConfig_refuses
    (h : ∀ d : DistrictId, payload ≠ [byte d.val, 0#8] ∧ payload ≠ [byte d.val, 1#8]) :
    bodyReadDistrictConfig payload s = refuse .badArg [] s := by
  unfold bodyReadDistrictConfig
  split
  · next b page =>
    by_cases low : b.toNat < 16
    · obtain ⟨page0, page1⟩ := h ⟨b.toNat, low⟩
      rw [byte_of_toNat] at page0 page1
      have other : page ≠ 0#8 ∧ page ≠ 1#8 := by simpa using And.intro page0 page1
      simp [oneDistrict, low, other]
    · exact oneDistrict_badNumber (Nat.not_lt.mp low) _
  · rfl

/-! ### Bytes (R185) -/

/-- Byte 0 of PART_STATUS, flag by flag. -/
theorem partFlags_eq (s : State) : flag (s.mode == .run) 0 + flag s.profileLost 1 + flag s.writing.isSome 2 =
    (if s.mode = .run then 1 else 0) + (if s.profileLost then 2 else 0) + (if s.writing.isSome then 4 else 0) := by
  simp [flag]

end Sys2Proof.Machine

open Sys2Proof Sys2Proof.Machine
/-- Settles O25: a read refuses every payload but those that it answers, and the answers are the model's own bytes. -/
theorem readsAnswerAndChangeNothing : Obligations.ReadsAnswerAndChangeNothing := by
  refine ⟨fun s src payload taken => ⟨fun filled => ⟨?_, ?_, ?_⟩, fun h => ?_, fun h => ⟨?_, ?_⟩, fun h => ⟨?_, ?_⟩,
    fun h => ?_⟩, fun s src d f j taken => ⟨?_, ⟨?_, ?_⟩, ?_, ?_, ?_⟩⟩
  · exact takeRequest_refuses taken _ (noPayload_refuses filled _)
  · exact takeRequest_refuses taken _ (noPayload_refuses filled _)
  · exact takeRequest_refuses taken _ (noPayload_refuses filled _)
  · exact takeRequest_refuses taken _ (oneDistrict_refuses h _)
  · exact takeRequest_refuses taken _ (oneFeed_refuses h _)
  · exact takeRequest_refuses taken _ (oneFeed_refuses h _)
  · exact takeRequest_refuses taken _ (oneJoint_refuses h _)
  · exact takeRequest_refuses taken _ (oneJoint_refuses h _)
  · exact takeRequest_refuses taken _ (bodyReadDistrictConfig_refuses h)
  · rw [← partFlags_eq]
    exact takeRequest_answers taken _ rfl rfl
  · exact takeRequest_answers (taken.pair _ _) _ (bodyReadDistrictConfig_page0 d) rfl
  · exact takeRequest_answers (taken.pair _ _) _ (bodyReadDistrictConfig_page1 d) rfl
  · exact takeRequest_answers (taken.singleton _) _ (oneFeed_byte s f _) rfl
  · exact takeRequest_answers (taken.singleton _) _ (oneJoint_byte s j _) rfl
  · exact takeRequest_answers taken _ rfl rfl
end

section
/-! Requests from a node that is not joined (R158, R179, R183). -/

namespace Sys2Proof.Machine

variable {s : State} {src : Byte}

/-! ### What the body of a request leaves to an outsider -/

/-- Every body that asks for the sender's slot leaves the state to an outsider. -/
theorem ofSlot_unchanged (outsider : slotOf s src = none) (body : SlotId → Answer) :
    (ofSlot src s body).state = s := by
  rw [ofSlot_outsider s outsider]
  rfl

theorem partWide_unchanged (outsider : slotOf s src = none) (a : Answer) : (partWide src s a).state = s :=
  ofSlot_unchanged outsider _

/-- A body that reads one district and then asks for the sender's slot. -/
theorem oneDistrict_unchanged (outsider : slotOf s src = none) (payload : List Byte)
    (body : DistrictId → SlotId → Answer) :
    (oneDistrict payload s (fun d => ofSlot src s (body d))).state = s :=
  oneDistrict_state (P := (· = s)) payload (fun _ => ofSlot_unchanged outsider _) rfl

theorem bodyReadDistrictConfig_unchanged (payload : List Byte) : (bodyReadDistrictConfig payload s).state = s := by
  unfold bodyReadDistrictConfig
  split
  · refine oneDistrict_state (P := (· = s)) _ (fun d => ?_) rfl
    split
    · rfl
    · split <;> rfl
  · rfl

section
variable (outsider : slotOf s src = none) (payload : List Byte)
include outsider

theorem bodySubscribe_unchanged : (bodySubscribe src payload s).state = s := by
  unfold bodySubscribe
  split
  · split
    · rfl
    · exact ofSlot_unchanged outsider _
  · rfl

theorem bodySetDistrict_unchanged : (bodySetDistrict src payload s).state = s := by
  unfold bodySetDistrict
  split
  · rfl
  · refine oneDistrict_state (P := (· = s)) _ (fun d => ?_) rfl
    split
    · rfl
    · split
      · rfl
      · split
        · rfl
        · exact partWide_unchanged outsider _

theorem bodySetFeed_unchanged : (bodySetFeed src payload s).state = s := by
  unfold bodySetFeed
  split
  · rfl
  · refine oneFeed_state (P := (· = s)) _ (fun f => ?_) rfl
    split
    · rfl
    · split
      · rfl
      · exact partWide_unchanged outsider _

theorem bodySetJoint_unchanged : (bodySetJoint src payload s).state = s := by
  unfold bodySetJoint
  split
  · rfl
  · refine oneJoint_state (P := (· = s)) _ (fun j => ?_) rfl
    split
    · rfl
    · split
      · rfl
      · exact partWide_unchanged outsider _

theorem bodySetGlobals_unchanged : (bodySetGlobals src payload s).state = s := by
  unfold bodySetGlobals
  split
  · rfl
  · split
    · rfl
    · split
      · rfl
      · exact partWide_unchanged outsider _

theorem bodySetMode_unchanged : (bodySetMode src payload s).state = s := by
  unfold bodySetMode
  split
  · split
    · exact ofSlot_unchanged outsider _
    · rfl
  · rfl
end

/-! ### Every KIND but JOIN -/

/-- The command changes nothing but the line. -/
def LineOnly (s : State) (i : Instr) : Prop := ∃ l, exec i s = .next (s.setLine l)

theorem takeRequest_lineOnly {i : Instr} {kind : Byte} {payload : List Byte} {body : State → Answer}
    (taken : Taken s src payload) (h : exec i s = done (takeRequest src kind payload body s))
    (unchanged : (body s).state = s) : LineOnly s i := by
  rw [LineOnly, h, takeRequest_taken s taken, Answer.reply, unchanged]
  exact ⟨_, rfl⟩

theorem unknownKindRequest_lineOnly {payload : List Byte} (taken : Taken s src payload) (kind : Byte) :
    LineOnly s (.unknownKindRequest src kind payload) := by
  by_cases known : requestKinds.contains kind = true
  · exact ⟨s.line, congrArg Host.Outcome.next (if_pos known)⟩
  · exact takeRequest_lineOnly taken (congrArg Host.Outcome.next (if_neg known)) rfl

theorem requestOf_lineOnly {payload : List Byte} (taken : Taken s src payload) (outsider : slotOf s src = none)
    {kind : Byte} (other : kind ≠ 0x10#8) : LineOnly s (requestOf src kind payload) := by
  have request (i : Instr) {code : Byte} {body : State → Answer} (unchanged : (body s).state = s)
      (h : exec i s = done (takeRequest src code payload body s) := by rfl) : LineOnly s i :=
    takeRequest_lineOnly taken h unchanged
  have through (g : Slot → Slot) : readThrough src g s = s := readThrough_outsider s outsider g
  have checked (body : DistrictId → SlotId → Answer) :
      (oneDistrict payload s (fun d => ofSlot src s (body d))).state = s :=
    oneDistrict_unchanged outsider payload body
  unfold requestOf
  split
  · exact request (.partStatus src payload) (noPayload_state (P := (· = s)) payload rfl rfl)
  · exact request (.summary src payload) (noPayload_state (P := (· = s)) payload rfl rfl)
  · exact request (.districtStatus src payload) (oneDistrict_state (P := (· = s)) payload (fun _ => through _) rfl)
  · exact request (.feedStatus src payload) (oneFeed_state (P := (· = s)) payload (fun _ => through _) rfl)
  · exact request (.jointStatus src payload) (oneJoint_state (P := (· = s)) payload (fun _ => through _) rfl)
  · exact request (.readDistrictConfig src payload) (bodyReadDistrictConfig_unchanged payload)
  · exact request (.readFeedConfig src payload) (oneFeed_state (P := (· = s)) payload (fun _ => rfl) rfl)
  · exact request (.readJointConfig src payload) (oneJoint_state (P := (· = s)) payload (fun _ => rfl) rfl)
  · exact request (.readGlobals src payload) (noPayload_state (P := (· = s)) payload rfl rfl)
  · next join => exact absurd (BitVec.eq_of_toNat_eq join) other
  · exact request (.leave src payload) (noPayload_state (P := (· = s)) payload (ofSlot_unchanged outsider _) rfl)
  · exact request (.subscribe src payload) (bodySubscribe_unchanged outsider payload)
  · exact request (.hold src payload) (checked _)
  · exact request (.release src payload) (checked _)
  · exact request (.breakHold src payload) (checked _)
  · exact request (.acceptJoint src payload)
      (oneJoint_state (P := (· = s)) payload (fun _ => ofSlot_unchanged outsider _) rfl)
  · exact request (.grant src payload) (checked _)
  · exact request (.retryNow src payload) (checked _)
  · exact request (.clear src payload) (checked _)
  · exact request (.setDistrict src payload) (bodySetDistrict_unchanged outsider payload)
  · exact request (.setFeed src payload) (bodySetFeed_unchanged outsider payload)
  · exact request (.setJoint src payload) (bodySetJoint_unchanged outsider payload)
  · exact request (.setGlobals src payload) (bodySetGlobals_unchanged outsider payload)
  · exact request (.storeProfile src payload)
      (noPayload_state (P := (· = s)) payload (ofSlot_unchanged outsider _) rfl)
  · exact request (.setMode src payload) (bodySetMode_unchanged outsider payload)
  · exact unknownKindRequest_lineOnly taken kind

end Sys2Proof.Machine

open Sys2Proof Sys2Proof.Machine
/-- Settles O23: the body of every request but JOIN leaves the state to a sender without a slot. -/
theorem outsidersChangeNothing : Obligations.OutsidersChangeNothing := by
  intro s t src kind payload taken outsider other next
  obtain ⟨l, reply⟩ := requestOf_lineOnly taken outsider other
  cases next.symm.trans reply
  rfl
end

section
/-! What recovery and the joints keep of the writes, the modes and the clock (R21 to R25, R77, R147 to R156, R171). -/

namespace Sys2Proof.Machine

variable {P : State → Prop} {t : State}

/-- An operation that is taken only under a condition. -/
theorem ite_keeps {due : Prop} [Decidable due] {u : State} (taken : P u) (h : P t) : P (if due then u else t) := by
  split
  · exact taken
  · exact h

section
variable (hP : Keeps P)
include hP

/-! ### The effects of a SET_DISTRICT (R23 to R25) -/

theorem darken_keeps (d : DistrictId) (h : P t) : P (darken d t) :=
  setSt_keeps hP d _ (setFailures_keeps hP d 0 (clearTimer_keeps hP d (dropLook_keeps hP d h)))

theorem limitEffect_keeps (d : DistrictId) (h : P t) : P (limitEffect d t) := by
  unfold limitEffect
  split <;> exact setFailures_keeps hP d _ h

theorem reversingEffect_keeps (d : DistrictId) (h : P t) : P (reversingEffect d t) :=
  ite_keeps h (modDistrict_keeps hP d _ (fun _ => rfl) h)

theorem policyEffect_keeps (d : DistrictId) (h : P t) : P (policyEffect d t) := by
  unfold policyEffect
  split
  · split
    · exact darken_keeps hP d h
    · exact darken_keeps hP d h
    · exact h
  · split
    · exact ite_keeps (ite_keeps (setSt_keeps hP d _ h) (becomeQueued_keeps hP d h)) h
    · exact ite_keeps (setSt_keeps hP d _ h) h
    · exact h

theorem patrolEffect_keeps (d : DistrictId) (h : P t) : P (patrolEffect d t) := by
  unfold patrolEffect
  split
  · split
    · exact ite_keeps (loadPatrol_keeps hP d h) h
    · exact clearTimer_keeps hP d h
  · exact h

theorem writeDistrict_keeps (dcfg : ∀ t d x, P t → P (t.setDcfg d x)) (d : DistrictId) (es : List FieldEntry)
    (c : DistrictConfig) (h : P t) : P (writeDistrict d es c t) := by
  have named {id : Nat} {effect : State → State} (keeps : ∀ u, P u → P (effect u)) (u : State) (hu : P u) :
      P (whenNamed es id effect u) := ite_keeps (keeps u hu) hu
  exact markDistrict_keeps hP _ d <|
    named (fun _ => patrolEffect_keeps hP d) _ <|
    named (fun _ => policyEffect_keeps hP d) _ <|
    named (fun _ => reversingEffect_keeps hP d) _ <|
    named (fun _ => limitEffect_keeps hP d) _ (dcfg _ _ _ h)

/-! ### The other writes (R58, R154, R156) -/

theorem writeFeed_keeps (fcfg : ∀ t f x, P t → P (t.setFcfg f x)) (f : FeedId) (es : List FieldEntry)
    (c : FeedConfig) (h : P t) : P (writeFeed f es c t) := by
  rw [writeFeed_eq]
  exact markFeed_keeps hP f (hP.feed _ _ _ (fcfg _ _ _ h))

theorem writeJoint_keeps (jcfg : ∀ t j x, P t → P (t.setJcfg j x)) (joint : ∀ t j x, P t → P (t.setJoint j x))
    (j : JointId) (es : List FieldEntry) (c : JointConfig) (h : P t) : P (writeJoint j es c t) := by
  rw [writeJoint_eq]
  exact isolationChange_keeps hP _ (markJoint_keeps hP j (joint _ _ _ (jcfg _ _ _ h)))

/-! ### Joints, modes and the clock (R77, R147 to R152, R171) -/

theorem jointSample_keeps (joint : ∀ t j x, P t → P (t.setJoint j x)) (j : JointId) (high : Bool) (h : P t) :
    P (jointSample j high t) :=
  joint _ _ _ (settleJoint_keeps hP joint j h)

theorem enterRun_keeps (mode : ∀ t m, P t → P (t.setMode m)) (h : P t) : P (enterRun t) :=
  arbiterLook_keeps hP (forDistricts_keeps (fun d _ => enterDistrict_keeps hP d) (mode _ _ h))

theorem tickBoundary_keeps (clock : ∀ t p q, P t → P (t.setClock p q)) (h : P t) : P (tickBoundary t) :=
  clock _ _ _ (forDistricts_keeps (fun d _ => hP.timer _ d _)
    (forDistricts_keeps (fun d _ => timerExpiry_keeps hP d) h))

theorem prescalerPeriod_keeps (clock : ∀ t p q, P t → P (t.setClock p q)) (h : P t) : P (prescalerPeriod t) :=
  ite_keeps (clock _ _ _ h) (ite_keeps (clock _ _ _ h) (tickBoundary_keeps hP clock h))

theorem idlePeriod_keeps (joint : ∀ t j x, P t → P (t.setJoint j x))
    (clock : ∀ t p q, P t → P (t.setClock p q)) (h : P t) : P (idlePeriod t) :=
  prescalerPeriod_keeps hP clock (forFeeds_keeps (fun f _ => shedPeriod_keeps hP f)
    (lifetimePeriods_keeps hP (periodBoundary_keeps hP _ (settleAll_keeps hP joint h))))
end

end Sys2Proof.Machine
end

section
/-! The slots and the holders through every command (R158 to R161, R164 to R166). -/

namespace Sys2Proof.Machine

variable {s t : State} {src : Byte}

/-! ### The sender's slot (R158) -/

theorem slotOf_eq_none : slotOf s src = none ↔ ∀ n x, s.slot n = some x → x.node ≠ src := by
  rw [slotOf, List.find?_eq_none]
  refine ⟨fun h n x hx => ?_, fun h n _ => ?_⟩
  · simpa [hx] using h n (mem_allSlots n)
  · cases hx : s.slot n with
    | none => simp
    | some x => simpa using h n x hx

theorem slotOf_occupied {n : SlotId} (h : slotOf s src = some n) : (s.slot n).isSome := by
  have holds := List.find?_some h
  cases hx : s.slot n with
  | none => simp [hx] at holds
  | some x => rfl

/-! ### What keeps the slots sound -/

/-- The slots stay sound under an update that keeps the nodes of the slots and the holders of the districts. -/
theorem SlotsSound.same (h : SlotsSound s) (nodes : ∀ n, (t.slot n).map Slot.node = (s.slot n).map Slot.node)
    (holders : ∀ d, (t.district d).holders = (s.district d).holders) : SlotsSound t := by
  have origin {n : SlotId} {x : Slot} (hx : t.slot n = some x) : ∃ y, s.slot n = some y ∧ y.node = x.node := by
    simpa [hx] using (nodes n).symm
  refine ⟨fun m n x y hx hy same => ?_, fun n x hx => ?_, fun d n held => ?_⟩
  · obtain ⟨x', hx', nodeX⟩ := origin hx
    obtain ⟨y', hy', nodeY⟩ := origin hy
    exact h.distinct m n x' y' hx' hy' (by rw [nodeX, nodeY, same])
  · obtain ⟨y, hy, node⟩ := origin hx
    exact node ▸ h.node n y hy
  · rw [holders] at held
    have occupied := h.holder d n held
    rwa [← Option.isSome_map (f := Slot.node), nodes, Option.isSome_map]

theorem slotsSound_keeps : Keeps SlotsSound where
  district t d r holders h := h.same (fun _ => rfl) fun e => by
    rw [State.setDistrict_district]
    split
    · next own => rw [holders, own]
    · rfl
  monitor _ _ _ h := h.same (fun _ => rfl) fun _ => rfl
  sampled _ _ h := h.same (fun _ => rfl) fun _ => rfl
  timer _ _ _ h := h.same (fun _ => rfl) fun _ => rfl
  feed _ _ _ h := h.same (fun _ => rfl) fun _ => rfl
  episode _ _ _ h := h.same (fun _ => rfl) fun _ => rfl
  summary _ _ _ h := h.same (fun _ => rfl) fun _ => rfl
  queue _ _ _ h := h.same (fun _ => rfl) fun _ => rfl
  channel _ _ _ h := h.same (fun _ => rfl) fun _ => rfl
  lastGranted _ _ h := h.same (fun _ => rfl) fun _ => rfl
  slot t n x node h := h.same (fun k => by
    rw [State.setSlot_slot]
    split
    · next own => rw [node, own]
    · rfl) fun _ => rfl

theorem setJoint_slotsSound (t : State) (j : JointId) (x : Joint) (h : SlotsSound t) : SlotsSound (t.setJoint j x) :=
  h.same (fun _ => rfl) fun _ => rfl

theorem setClock_slotsSound (t : State) (p q : Nat) (h : SlotsSound t) : SlotsSound (t.setClock p q) :=
  h.same (fun _ => rfl) fun _ => rfl

theorem setLine_slotsSound (l : Line) (h : SlotsSound t) : SlotsSound (t.setLine l) :=
  h.same (fun _ => rfl) fun _ => rfl

theorem jointEvent_slotsSound (j : JointId) (g : Joint → Joint) (h : SlotsSound t) : SlotsSound (jointEvent j g t) :=
  jointEvent_keeps slotsSound_keeps setJoint_slotsSound j g h

/-! ### JOIN, LEAVE and SUBSCRIBE (R159 to R161) -/

/-- A node that holds no slot takes a slot with its own node id. -/
theorem SlotsSound.joined (h : SlotsSound t) (source : 1 ≤ src.toNat ∧ src.toNat ≤ 63) (outsider : slotOf t src = none)
    (n : SlotId) : SlotsSound (t.setSlot n (some (Slot.joining src))) := by
  have new := slotOf_eq_none.mp outsider
  refine ⟨fun k m x y hx hy same => ?_, fun m x hx => ?_, fun d m held => ?_⟩
  · rw [State.setSlot_slot] at hx hy
    split at hx <;> split at hy
    · next hk hm => rw [← hk, hm]
    · obtain rfl := Option.some.inj hx
      exact absurd same.symm (new m y hy)
    · obtain rfl := Option.some.inj hy
      exact absurd same (new k x hx)
    · exact h.distinct k m x y hx hy same
  · rw [State.setSlot_slot] at hx
    split at hx
    · obtain rfl := Option.some.inj hx
      exact source
    · exact h.node m x hx
  · rw [State.setSlot_slot]
    split
    · rfl
    · exact h.holder d m held

/-- A slot that holds nothing is freed. -/
theorem SlotsSound.left (h : SlotsSound t) {n : SlotId} (nothing : heldBy t n = 0#16) :
    SlotsSound (t.setSlot n none) := by
  have other {m : SlotId} {x : Slot} (hx : (t.setSlot n none).slot m = some x) : t.slot m = some x := by
    rw [State.setSlot_slot] at hx
    split at hx
    · cases hx
    · exact hx
  refine ⟨fun k m x y hx hy => h.distinct k m x y (other hx) (other hy), fun m x hx => h.node m x (other hx),
    fun d m held => ?_⟩
  rw [State.setSlot_slot]
  split
  · next own =>
    rw [← own, State.setSlot_district, heldBy_eq_zero.mp nothing d] at held
    cases held
  · exact h.holder d m held

theorem bodyJoin_slotsSound (payload : List Byte) (source : 1 ≤ src.toNat ∧ src.toNat ≤ 63) (h : SlotsSound t) :
    SlotsSound (bodyJoin src payload t).state := by
  refine noPayload_state payload ?_ h
  split
  · exact modSlot_keeps slotsSound_keeps _ _ (fun _ => rfl) h
  · next outsider =>
    split
    · exact h.joined source outsider _
    · exact h

theorem bodyLeave_slotsSound (payload : List Byte) (h : SlotsSound t) : SlotsSound (bodyLeave src payload t).state := by
  refine noPayload_state payload (ofSlot_state src (fun n => ?_) h) h
  split
  · exact h
  · next nothing => exact h.left (by simpa using nothing)

theorem bodySubscribe_slotsSound (payload : List Byte) (h : SlotsSound t) :
    SlotsSound (bodySubscribe src payload t).state := by
  unfold bodySubscribe
  split
  · split
    · exact h
    · exact ofSlot_state src (fun n => modSlot_keeps slotsSound_keeps n _ (fun _ => rfl) h) h
  · exact h

/-! ### Holds (R155, R164 to R166) -/

/-- A district takes occupied slots as its holders. -/
theorem takeHolders_slotsSound (h : SlotsSound t) (d : DistrictId) {x : BitVec 6}
    (occupied : ∀ n : SlotId, x.getLsbD n.val = true → (t.slot n).isSome) : SlotsSound (takeHolders d x t) := by
  refine isolationChange_keeps slotsSound_keeps _ ⟨h.distinct, h.node, fun e n held => ?_⟩
  rw [State.modDistrict, State.setDistrict_district] at held
  split at held
  · exact occupied n held
  · exact h.holder e n held

theorem bodyHold_slotsSound (payload : List Byte) (h : SlotsSound t) : SlotsSound (bodyHold src payload t).state := by
  refine oneDistrict_state payload (fun d => ?_) h
  unfold ofSlot
  split
  · next n joined =>
    refine ite_keeps h (arbitrate_keeps slotsSound_keeps _ (takeHolders_slotsSound h d fun m held => ?_))
    rw [getLsbD_addItem, Bool.or_eq_true, Bool.and_eq_true, decide_eq_true_eq, decide_eq_true_eq] at held
    rcases held with held | ⟨-, own⟩
    · exact h.holder d m held
    · exact Fin.ext own ▸ slotOf_occupied joined
  · exact h

theorem bodyRelease_slotsSound (payload : List Byte) (h : SlotsSound t) :
    SlotsSound (bodyRelease src payload t).state := by
  refine oneDistrict_state payload (fun d => ofSlot_state src (fun n => ?_) h) h
  split
  · refine arbitrate_keeps slotsSound_keeps _ (takeHolders_slotsSound h d fun m held => ?_)
    rw [removeItem, BitVec.getLsbD_and, Bool.and_eq_true] at held
    exact h.holder d m held.1
  · exact h

theorem bodyBreakHold_slotsSound (payload : List Byte) (h : SlotsSound t) :
    SlotsSound (bodyBreakHold src payload t).state := by
  refine oneDistrict_state payload (fun d => ofSlot_state src (fun n => ?_) h) h
  have none_left : SlotsSound (setHolders d 0#6 t) :=
    arbitrate_keeps slotsSound_keeps _ (takeHolders_slotsSound h d fun m held => by simp at held)
  exact ite_keeps h (forSlots_keeps (fun m u hu =>
    ite_keeps (modSlot_keeps slotsSound_keeps m _ (fun _ => rfl) hu) hu) none_left)

theorem bodyAcceptJoint_slotsSound (payload : List Byte) (h : SlotsSound t) :
    SlotsSound (bodyAcceptJoint src payload t).state := by
  refine oneJoint_state payload (fun j => ofSlot_state src (fun n => ?_) h) h
  split
  · exact jointEvent_slotsSound j _ h
  · exact h

/-! ### Reads (R163) -/

theorem readThrough_slotsSound (g : Slot → Slot) (node : ∀ x, (g x).node = x.node) (h : SlotsSound t) :
    SlotsSound (readThrough src g t) := by
  unfold readThrough
  split
  · exact modSlot_keeps slotsSound_keeps _ _ node h
  · exact h

theorem bodyReadDistrictConfig_slotsSound (payload : List Byte) (h : SlotsSound t) :
    SlotsSound (bodyReadDistrictConfig payload t).state := by
  rwa [bodyReadDistrictConfig_unchanged]

/-! ### Grants and lockouts (R94, R168, R169) -/

theorem bodyGrant_slotsSound (payload : List Byte) (h : SlotsSound t) : SlotsSound (bodyGrant src payload t).state := by
  refine oneDistrict_state payload (fun d => ofSlot_state src (fun n => ?_) h) h
  split
  · exact grantRetry_keeps slotsSound_keeps d h
  all_goals exact h

theorem bodyRetryNow_slotsSound (payload : List Byte) (h : SlotsSound t) :
    SlotsSound (bodyRetryNow src payload t).state := by
  refine oneDistrict_state payload (fun d => ofSlot_state src (fun n => ?_) h) h
  split
  · exact grantRetry_keeps slotsSound_keeps d h
  · exact h
  · exact grantRetry_keeps slotsSound_keeps d h
  · exact h

theorem bodyClear_slotsSound (payload : List Byte) (h : SlotsSound t) : SlotsSound (bodyClear src payload t).state := by
  refine oneDistrict_state payload (fun d => ofSlot_state src (fun n => ?_) h) h
  split
  · exact clearLock_keeps slotsSound_keeps d h
  · exact h

/-! ### Writes (R21 to R25, R58, R92, R156) -/

theorem bodySetDistrict_slotsSound (payload : List Byte) (h : SlotsSound t) :
    SlotsSound (bodySetDistrict src payload t).state := by
  unfold bodySetDistrict
  split
  · exact h
  · refine oneDistrict_state _ (fun d => ?_) h
    split
    · exact h
    · split
      · exact h
      · split
        · exact h
        · exact partWide_state src (arbitrate_keeps slotsSound_keeps _ (writeDistrict_keeps slotsSound_keeps
            (fun _ _ _ hu => hu.same (fun _ => rfl) fun _ => rfl) d _ _ h)) h

theorem bodySetFeed_slotsSound (payload : List Byte) (h : SlotsSound t) :
    SlotsSound (bodySetFeed src payload t).state := by
  have written (f : FeedId) (es : List FieldEntry) (c : FeedConfig) : SlotsSound (writeFeed f es c t) :=
    writeFeed_keeps slotsSound_keeps (fun _ _ _ hu => hu.same (fun _ => rfl) fun _ => rfl) f es c h
  unfold bodySetFeed
  split
  · exact h
  · refine oneFeed_state _ (fun f => ?_) h
    split
    · exact h
    · split
      · exact h
      · exact partWide_state src
          (ite_keeps (arbiterLook_keeps slotsSound_keeps (written f _ _)) (written f _ _)) h

theorem bodySetJoint_slotsSound (payload : List Byte) (h : SlotsSound t) :
    SlotsSound (bodySetJoint src payload t).state := by
  unfold bodySetJoint
  split
  · exact h
  · refine oneJoint_state _ (fun j => ?_) h
    split
    · exact h
    · split
      · exact h
      · exact partWide_state src (arbitrate_keeps slotsSound_keeps _ (writeJoint_keeps slotsSound_keeps
          (fun _ _ _ hu => hu.same (fun _ => rfl) fun _ => rfl) setJoint_slotsSound j _ _ h)) h

theorem bodySetGlobals_slotsSound (payload : List Byte) (h : SlotsSound t) :
    SlotsSound (bodySetGlobals src payload t).state := by
  have written (es : List FieldEntry) (x : Globals) : SlotsSound (writeGlobals es x t) :=
    ite_keeps (h.same (fun _ => rfl) fun _ => rfl) (h.same (fun _ => rfl) fun _ => rfl)
  unfold bodySetGlobals
  split
  · exact h
  · split
    · exact h
    · split
      · exact h
      · exact partWide_state src (written _ _) h

/-! ### Modes and the Profile Store (R170 to R177) -/

/-- Leaving RUN keeps the holders of every district (R173). -/
theorem leaveRun_slotsSound (h : SlotsSound t) : SlotsSound (leaveRun t) := by
  have holders (r : District) : r.leaveRun.holders = r.holders := by
    unfold District.leaveRun
    split <;> rfl
  have running : SlotsSound (t.setMode .standby) := h.same (fun _ => rfl) fun _ => rfl
  have walked : SlotsSound (forFeeds (fun f s => s.modFeed f Feed.leaveRun)
      (forDistricts leaveDistrict (t.setMode .standby))) :=
    forFeeds_keeps (fun f _ => modFeed_keeps slotsSound_keeps f _) <|
    forDistricts_keeps (fun d _ hu => modMonitor_keeps slotsSound_keeps d _
      (modDistrict_keeps slotsSound_keeps d _ holders hu)) running
  exact walked.same (fun _ => rfl) fun _ => rfl

theorem requestMode_slotsSound (m : Mode) (h : SlotsSound t) : SlotsSound (requestMode m t).state := by
  have entered : SlotsSound (enterRun t) :=
    enterRun_keeps slotsSound_keeps (fun _ _ hu => hu.same (fun _ => rfl) fun _ => rfl) h
  have left := leaveRun_slotsSound h
  unfold requestMode
  split
  · split
    · exact h
    · dsimp only
      exact entered
  · dsimp only
    exact left
  · exact h
  · exact h

theorem bodySetMode_slotsSound (payload : List Byte) (h : SlotsSound t) :
    SlotsSound (bodySetMode src payload t).state := by
  unfold bodySetMode
  split
  · split
    · exact ofSlot_state src (fun _ => requestMode_slotsSound _ h) h
    · exact h
  · exact h

theorem bodyStoreProfile_slotsSound (payload : List Byte) (h : SlotsSound t) :
    SlotsSound (bodyStoreProfile src payload t).state := by
  refine noPayload_state payload (ofSlot_state src (fun n => ?_) h) h
  split
  · exact h
  · split
    · exact h
    · exact h.same (fun _ => rfl) fun _ => rfl

theorem profileWriteEnd_slotsSound (agrees : Bool) (h : SlotsSound t) : SlotsSound (profileWriteEnd agrees t) := by
  unfold profileWriteEnd
  split
  · split <;> exact h.same (fun _ => rfl) fun _ => rfl
  · exact h

/-- Reset frees every slot and every district (R175). -/
theorem afterReset_slotsSound (straps : BitVec 4) (image : Option Profile) (pending : List Instr) :
    SlotsSound (State.afterReset straps image pending) := by
  constructor <;> simp [State.afterReset, State.slot, State.district, District.reset]

/-! ### Every command -/

theorem takeRequest_slotsSound {payload : List Byte} {body : State → Answer} (kind : Byte)
    (answer : 1 ≤ src.toNat ∧ src.toNat ≤ 63 → SlotsSound (body t).state) (h : SlotsSound t) :
    SlotsSound (takeRequest src kind payload body t) := by
  unfold takeRequest
  split
  · exact h
  · split
    · exact setLine_slotsSound _ h
    · next ok =>
      have source : 1 ≤ src.toNat ∧ src.toNat ≤ 63 := by
        simp only [requestOk, sourceOk, Bool.not_eq_true, Bool.not_eq_false', Bool.and_eq_true,
          decide_eq_true_eq] at ok
        exact ok.1
      exact setLine_slotsSound _ (answer source)

theorem execReplyStart_slotsSound (h : SlotsSound t) : ∃ u, exec .replyStart t = .next u ∧ SlotsSound u := by
  refine ⟨_, rfl, ?_⟩
  split
  · exact setLine_slotsSound _ h
  · exact h

theorem exec_slotsSound (i : Instr) {s : State} (h : SlotsSound s) : ∃ u, exec i s = .next u ∧ SlotsSound u :=
  have hP := slotsSound_keeps
  have request {src kind : Byte} {payload : List Byte} {body : State → Answer} (answer : SlotsSound (body s).state) :
      ∃ u, done (takeRequest src kind payload body s) = .next u ∧ SlotsSound u :=
    ⟨_, rfl, takeRequest_slotsSound kind (fun _ => answer) h⟩
  match i with
  | .powerOnReset straps => ⟨_, rfl, afterReset_slotsSound straps s.image s.pending⟩
  | .currentSample d _ v =>
    ⟨_, rfl, arbitrate_keeps hP _ (sample_keeps hP d _ v (settleDistrict_keeps hP d h))⟩
  | .swapWindowSuccess d => ⟨_, rfl, swapSuccess_keeps hP d h⟩
  | .episodeWindowExpiry f => ⟨_, rfl, ite_keeps (episodeExpiry_keeps hP f h) h⟩
  | .episodeCapExpiry f => ⟨_, rfl, ite_keeps (episodeExpiry_keeps hP f h) h⟩
  | .stallAssertion f => ⟨_, rfl, stallAssertion_keeps hP f h⟩
  | .stallClear f => ⟨_, rfl, stallClear_keeps hP f h⟩
  | .feedFirstDecision f => ⟨_, rfl, feedDecision_keeps hP f h⟩
  | .shed f => ⟨_, rfl, shedExpiry_keeps hP f h⟩
  | .coolExpiry d => ⟨_, rfl, coolExpiry_keeps hP d h⟩
  | .grantExpiry d => ⟨_, rfl, grantExpiry_keeps hP d h⟩
  | .probationExpiry d => ⟨_, rfl, probationExpiry_keeps hP d h⟩
  | .patrolExpiry d => ⟨_, rfl, patrolExpiry_keeps hP d h⟩
  | .senseEnd c => ⟨_, rfl, ite_keeps (stageEnd_keeps hP c h) h⟩
  | .prechargeEnd c => ⟨_, rfl, ite_keeps (stageEnd_keeps hP c h) h⟩
  | .rampStepEnd c => ⟨_, rfl, ite_keeps (stageEnd_keeps hP c h) h⟩
  | .confirmEnd c => ⟨_, rfl, ite_keeps (stageEnd_keeps hP c h) h⟩
  | .probeLifetimeExpiry c => ⟨_, rfl, lifetimeExpiry_keeps hP c h⟩
  | .jointFirstDecision j => ⟨_, rfl, ite_keeps (jointEvent_slotsSound j _ h) h⟩
  | .debouncedInputChange j => ⟨_, rfl, ite_keeps (jointEvent_slotsSound j _ h) h⟩
  | .settleExpiry j => ⟨_, rfl, ite_keeps (jointEvent_slotsSound j _ h) h⟩
  | .dockingExpiry j => ⟨_, rfl, ite_keeps (jointEvent_slotsSound j _ h) h⟩
  | .partStatus _ payload => request (noPayload_state payload h h)
  | .summary _ payload => request (noPayload_state payload h h)
  | .districtStatus _ payload =>
    request (oneDistrict_state payload (fun _ => readThrough_slotsSound _ (fun _ => rfl) h) h)
  | .feedStatus _ payload => request (oneFeed_state payload (fun _ => readThrough_slotsSound _ (fun _ => rfl) h) h)
  | .jointStatus _ payload => request (oneJoint_state payload (fun _ => readThrough_slotsSound _ (fun _ => rfl) h) h)
  | .readDistrictConfig _ payload => request (bodyReadDistrictConfig_slotsSound payload h)
  | .readFeedConfig _ payload => request (oneFeed_state payload (fun _ => h) h)
  | .readJointConfig _ payload => request (oneJoint_state payload (fun _ => h) h)
  | .readGlobals _ payload => request (noPayload_state payload h h)
  | .join _ payload => ⟨_, rfl, takeRequest_slotsSound _ (fun source => bodyJoin_slotsSound payload source h) h⟩
  | .leave _ payload => request (bodyLeave_slotsSound payload h)
  | .subscribe _ payload => request (bodySubscribe_slotsSound payload h)
  | .hold _ payload => request (bodyHold_slotsSound payload h)
  | .release _ payload => request (bodyRelease_slotsSound payload h)
  | .breakHold _ payload => request (bodyBreakHold_slotsSound payload h)
  | .acceptJoint _ payload => request (bodyAcceptJoint_slotsSound payload h)
  | .grant _ payload => request (bodyGrant_slotsSound payload h)
  | .retryNow _ payload => request (bodyRetryNow_slotsSound payload h)
  | .clear _ payload => request (bodyClear_slotsSound payload h)
  | .setDistrict _ payload => request (bodySetDistrict_slotsSound payload h)
  | .setFeed _ payload => request (bodySetFeed_slotsSound payload h)
  | .setJoint _ payload => request (bodySetJoint_slotsSound payload h)
  | .setGlobals _ payload => request (bodySetGlobals_slotsSound payload h)
  | .storeProfile _ payload => request (bodyStoreProfile_slotsSound payload h)
  | .profileWriteEnd agrees => ⟨_, rfl, profileWriteEnd_slotsSound agrees h⟩
  | .setMode _ payload => request (bodySetMode_slotsSound payload h)
  | .unknownKindRequest _ _ _ => ⟨_, rfl, ite_keeps h (takeRequest_slotsSound _ (fun _ => h) h)⟩
  | .foreignFrame _ => ⟨_, rfl, ite_keeps h (setLine_slotsSound _ h)⟩
  | .badSourceFrame _ => ⟨_, rfl, ite_keeps h (setLine_slotsSound _ h)⟩
  | .checkError => ⟨_, rfl, ite_keeps (setLine_slotsSound _ h) h⟩
  | .frameError => ⟨_, rfl, ite_keeps (setLine_slotsSound _ h) h⟩
  | .interByteTimeout => ⟨_, rfl, ite_keeps (setLine_slotsSound _ h) h⟩
  | .replyStart => execReplyStart_slotsSound h
  | .replyEnd => ⟨_, rfl, ite_keeps (setLine_slotsSound _ h) h⟩
  | .replyCollision => ⟨_, rfl, ite_keeps (setLine_slotsSound _ h) h⟩
  | .tickBoundary => ⟨_, rfl, tickBoundary_keeps hP setClock_slotsSound h⟩
  | .stallLineSample f high => ⟨_, rfl, stallSample_keeps hP f high h⟩
  | .jointSenseSample j high => ⟨_, rfl, jointSample_keeps hP setJoint_slotsSound j high h⟩
  | .frameStart => ⟨_, rfl, ite_keeps (setLine_slotsSound _ h) h⟩

theorem step_slotsSound {s : State} (h : SlotsSound s) : ∃ u, step s = .next u ∧ SlotsSound u := by
  unfold step
  split
  · exact ⟨_, rfl, idlePeriod_keeps slotsSound_keeps setJoint_slotsSound setClock_slotsSound h⟩
  · next c rest _ => exact exec_slotsSound c (h.same (fun _ => rfl) fun _ => rfl)

end Sys2Proof.Machine

open Sys2Proof Sys2Proof.Machine
/-- Settles O6: JOIN, LEAVE and the holds write slots and holders under their own checks, and every other update of a
step keeps the nodes of the slots and the holders of the districts. -/
theorem slotsStaySound : Obligations.SlotsStaySound := by
  intro s t sound stepped
  obtain ⟨u, next, after⟩ := step_slotsSound sound
  cases stepped.symm.trans next
  exact after
end

section
/-! The state after reset (R175, R176): every record at its reset value, and the laws that those values meet under any
strap levels and any image in range. -/

namespace Sys2Proof

/-! ### The configuration after reset (R2, R46, R91, R145, R176) -/

theorem DistrictConfig.default_inRange (d : DistrictId) : (DistrictConfig.default d).InRange := by
  constructor <;> simp [DistrictConfig.default]

theorem FeedConfig.default_inRange : FeedConfig.default.InRange := by
  constructor <;> simp [FeedConfig.default]

theorem JointConfig.default_inRange : JointConfig.default.InRange := by
  simp [JointConfig.InRange, JointConfig.default, SettleTime.samples, DockingTimeout.samples]

theorem Globals.default_inRange : Globals.default.InRange := by
  constructor <;> simp [Globals.default]

theorem Profile.default_inRange : Profile.default.InRange where
  districts d := by simpa [Profile.default] using DistrictConfig.default_inRange d
  feeds f := by simpa [Profile.default] using FeedConfig.default_inRange
  joints j := by simpa [Profile.default] using JointConfig.default_inRange
  globals := Globals.default_inRange

/-- An image in range loads as it stands: its C is not below its B (R91, R176). -/
theorem Profile.InRange.loaded_eq {p : Profile} (h : p.InRange) : p.loaded = p := by
  simp [Profile.loaded, h.globals.ceiling.1]

namespace Machine

variable (straps : BitVec 4) (image : Option Profile) (pending : List Instr)

/-! ### Every record at its reset value (R175) -/

namespace State

@[simp] theorem afterReset_image : (afterReset straps image pending).image = image := rfl
@[simp] theorem afterReset_writing : (afterReset straps image pending).writing = none := rfl
@[simp] theorem afterReset_line : (afterReset straps image pending).line = Line.reset := rfl
@[simp] theorem afterReset_cfg_none : (afterReset straps none pending).cfg = Profile.default := rfl
@[simp] theorem afterReset_cfg_some (p : Profile) : (afterReset straps (some p) pending).cfg = p.loaded := rfl

@[simp] theorem afterReset_district (d : DistrictId) :
    (afterReset straps image pending).district d = District.reset := by
  simp [afterReset, district]

@[simp] theorem afterReset_monitor (d : DistrictId) : (afterReset straps image pending).monitor d = Monitor.reset := by
  simp [afterReset, monitor]

@[simp] theorem afterReset_timer (d : DistrictId) : (afterReset straps image pending).timer d = Timer.empty := by
  simp [afterReset, timer]

@[simp] theorem afterReset_episode (f : FeedId) : (afterReset straps image pending).episode f = none := by
  simp [afterReset, episode]

@[simp] theorem afterReset_queue (f : FeedId) : (afterReset straps image pending).queue f = [] := by
  simp [afterReset, queue]

@[simp] theorem afterReset_channel (c : ChannelId) : (afterReset straps image pending).channel c = none := by
  simp [afterReset, channel]

end State

/-! ### The laws that the reset values meet -/

/-- The defaults or the image are in force, and no write is in flight (R176). -/
theorem afterReset_configInRange (h : ∀ p, image = some p → p.InRange) :
    ConfigInRange (State.afterReset straps image pending) where
  cfg := by
    cases image with
    | none => exact Profile.default_inRange
    | some p =>
      have inRange := h p rfl
      rwa [State.afterReset_cfg_some, inRange.loaded_eq]
  image := h
  writing p writing := by simp at writing

/-- Every counter, integrator and sample is 0. -/
theorem afterReset_countersInRange : CountersInRange (State.afterReset straps image pending) := by
  constructor <;> simp [District.reset, Monitor.reset, Line.reset]

/-- Every district is OFF with an empty timer, every queue is empty and every channel free. -/
theorem afterReset_recoverySound : RecoverySound (State.afterReset straps image pending) := by
  constructor <;> simp [District.reset, entryOf, probeKindOf, atRest]

theorem afterReset_bandsSorted : BandsSorted (State.afterReset straps image pending) := by
  simp [BandsSorted]

/-- Every district is OFF, where an enabled joint of the image may isolate it and no set has to be filled. -/
theorem afterReset_isolationSound : IsolationSound (State.afterReset straps image pending) := by
  constructor <;> simp [District.reset, mayBeIsolated]

/-- F is 0, below every lockout limit in range. -/
theorem afterReset_failuresSound (h : ConfigInRange (State.afterReset straps image pending)) :
    FailuresSound (State.afterReset straps image pending) := by
  intro d
  have limit : 1 ≤ ((State.afterReset straps image pending).dcfg d).lockoutLimit := (h.cfg.districts d).lockoutLimit.1
  have zero : ((State.afterReset straps image pending).district d).failures = 0 := by simp [District.reset]
  rw [zero]
  exact ⟨Nat.zero_le _, fun reached => by omega⟩

/-- Every polarity is NORMAL and no swap window stands. -/
theorem afterReset_polaritySound : PolaritySound (State.afterReset straps image pending) := by
  constructor <;> simp [District.reset, Monitor.reset]

theorem afterReset_episodesSound : EpisodesSound (State.afterReset straps image pending) := by
  constructor <;> simp

/-- Every timer is empty, which fits every state. -/
theorem afterReset_timersSound : TimersSound (State.afterReset straps image pending) := by
  constructor <;> simp [timerFits, Timer.empty]

end Machine

end Sys2Proof

open Sys2Proof Sys2Proof.Machine
/-- Settles O3: the first power-on is a reset without an image, and every reset from an image in range is sound. -/
theorem resetIsSound : Obligations.ResetIsSound :=
  have inRange : ConfigInRange State.reset := afterReset_configInRange _ _ _ (by simp)
  ⟨inRange, afterReset_countersInRange _ _ _, afterReset_slotsSound _ _ _, afterReset_recoverySound _ _ _,
    afterReset_bandsSorted _ _ _, afterReset_isolationSound _ _ _, afterReset_failuresSound _ _ _ inRange,
    afterReset_polaritySound _ _ _, afterReset_episodesSound _ _ _, afterReset_timersSound _ _ _⟩
end

section
/-! The Profile Store (R176, R177). -/

namespace Sys2Proof.Machine

variable {s : State} {src : Byte}

/-! ### STORE_PROFILE (R177, R179) -/

theorem bodyStoreProfile_outsider (outsider : slotOf s src = none) :
    bodyStoreProfile src [] s = refuse .notJoined [] s :=
  ofSlot_outsider s outsider _

section
variable {n : SlotId} (joined : slotOf s src = some n)
include joined

theorem bodyStoreProfile_run (run : s.mode = .run) : bodyStoreProfile src [] s = refuse .mode [] s := by
  refine (ofSlot_joined s joined _).trans ?_
  simp [run]

theorem bodyStoreProfile_writing (standby : s.mode ≠ .run) (writing : s.writing.isSome) :
    bodyStoreProfile src [] s = refuse .busy [] s := by
  refine (ofSlot_joined s joined _).trans ?_
  simp [standby, writing]

theorem bodyStoreProfile_starts (standby : s.mode ≠ .run) (idle : ¬s.writing.isSome) :
    bodyStoreProfile src [] s = ⟨.ok, [], { s with image := none, writing := some s.cfg }⟩ := by
  refine (ofSlot_joined s joined _).trans ?_
  simp [standby, idle, State.setProfileStore]
end

/-! ### PROFILE_WRITE_END (R177) -/

theorem profileWriteEnd_agrees {p : Profile} (h : s.writing = some p) :
    profileWriteEnd true s = { s with image := some p, profileLost := false, writing := none } := by
  simp [profileWriteEnd, h, State.setProfileStore]

theorem profileWriteEnd_differs {p : Profile} (h : s.writing = some p) :
    profileWriteEnd false s = { s with image := none, profileLost := true, writing := none } := by
  simp [profileWriteEnd, h, State.setProfileStore]

theorem profileWriteEnd_idle (h : s.writing = none) (agrees : Bool) : profileWriteEnd agrees s = s := by
  simp [profileWriteEnd, h]

end Sys2Proof.Machine

open Sys2Proof Sys2Proof.Machine
/-- Settles O43: the slot, the mode and a write in flight are asked in that order before a write starts, and the
read-back check decides between the two ends of a write in flight. -/
theorem profileWrites : Obligations.ProfileWrites := by
  refine ⟨fun s src payload taken filled => takeRequest_refuses taken _ (noPayload_refuses filled _),
    fun s src taken => ⟨?_, fun p writing => ⟨?_, ?_⟩, fun idle agrees => ?_⟩⟩
  · split
    · next outsider => exact takeRequest_refuses taken _ (bodyStoreProfile_outsider outsider)
    next member =>
    obtain ⟨n, joined⟩ := Option.ne_none_iff_exists'.mp member
    split
    · next run => exact takeRequest_refuses taken _ (bodyStoreProfile_run joined run)
    next standby =>
    split
    · next writing => exact takeRequest_refuses taken _ (bodyStoreProfile_writing joined standby writing)
    · next idle => exact takeRequest_answers taken _ (bodyStoreProfile_starts joined standby idle) rfl
  · exact congrArg Host.Outcome.next (profileWriteEnd_agrees writing)
  · exact congrArg Host.Outcome.next (profileWriteEnd_differs writing)
  · exact congrArg Host.Outcome.next (profileWriteEnd_idle idle agrees)
end

section
/-! Request frames, from the bytes of a frame to the command and back (R178, R179, R182, R184). -/

namespace Sys2Proof

open Machine

variable {address : BitVec 4} {src kind : Byte} {payload bytes : List Byte}

/-! ### The sum of the bytes (R178, R180) -/

theorem byteSum_eq_sum (bs : List Byte) : byteSum bs = bs.sum := List.sum_eq_foldl.symm

theorem byteSum_append_check (bs : List Byte) : byteSum (bs ++ [checkByte bs]) = 0#8 := by
  simp [byteSum_eq_sum, checkByte]

/-- One replaced byte changes the sum. -/
theorem byteSum_set_ne {k : Nat} (h : k < bytes.length) {b : Byte} (changed : b ≠ bytes[k]) :
    byteSum (bytes.set k b) ≠ byteSum bytes := by
  rw [byteSum_eq_sum, byteSum_eq_sum, List.sum_set', dif_pos h]
  intro same
  exact changed (neg_add_eq_zero.mp (add_eq_left.mp same)).symm

/-! ### Decoding (R178, R179) -/

/-- Bytes after SYNC whose LEN is right and whose sum is not 0. -/
theorem decodeFrame_checkError {tail : List Byte} (len : 3 < tail.length) (short : tail[3].toNat ≤ 16)
    (whole : tail.length = tail[3].toNat + 5) (sum : byteSum tail ≠ 0#8) :
    decodeFrame address (0xC5#8 :: tail) = some .checkError := by
  match tail with
  | dest :: src :: kind :: len :: rest =>
    have length : rest.length = len.toNat + 1 := by simpa using whole
    have inRange : len.toNat ≤ 16 := short
    simp [decodeFrame, inRange, length, sum]

/-- The bytes of a frame for this part whose LEN is right. -/
theorem decodeFrame_addressed {len : Byte} {rest : List Byte} (short : len.toNat ≤ 16)
    (whole : rest.length = len.toNat + 1) :
    decodeFrame address (0xC5#8 :: address.setWidth 8 :: src :: kind :: len :: rest) = some
      (if byteSum (address.setWidth 8 :: src :: kind :: len :: rest) ≠ 0#8 then .checkError
       else if 1 ≤ src.toNat ∧ src.toNat ≤ 63 then requestOf src kind (rest.take len.toNat)
       else .badSourceFrame src) := by
  by_cases sum : byteSum (address.setWidth 8 :: src :: kind :: len :: rest) = 0#8
  · by_cases source : 1 ≤ src.toNat ∧ src.toNat ≤ 63
    · simp [decodeFrame, short, whole, sum, validFrame, sourceOk, source]
    · have bad : sourceOk src = false := by simpa [sourceOk] using source
      simp [decodeFrame, short, whole, sum, validFrame, bad, source]
  · simp [decodeFrame, short, whole, sum]

theorem payloadLength_toNat (h : payload.length ≤ 16) : (byte payload.length).toNat = payload.length :=
  byte_toNat (by omega)

/-- The bytes of a request frame after SYNC (R178). -/
def afterSync (address : BitVec 4) (src kind : Byte) (payload : List Byte) : List Byte :=
  requestBody address src kind payload ++ [checkByte (requestBody address src kind payload)]

theorem requestFrame_eq_cons : requestFrame address src kind payload = 0xC5#8 :: afterSync address src kind payload :=
  rfl

theorem afterSync_length : (afterSync address src kind payload).length = payload.length + 5 := by
  simp [afterSync, requestBody]

theorem byteSum_afterSync : byteSum (afterSync address src kind payload) = 0#8 :=
  byteSum_append_check (requestBody address src kind payload)

theorem decodeFrame_requestFrame (ok : requestOk src payload = true) :
    decodeFrame address (requestFrame address src kind payload) = some (requestOf src kind payload) := by
  simp only [requestOk, sourceOk, payloadOk, Bool.and_eq_true, decide_eq_true_eq] at ok
  obtain ⟨source, fits⟩ := ok
  have len := payloadLength_toNat fits
  have sum : ¬byteSum (afterSync address src kind payload) ≠ 0#8 := not_not.mpr byteSum_afterSync
  have taken : (payload ++ [checkByte (requestBody address src kind payload)]).take (byte payload.length).toNat =
      payload := by rw [len, List.take_left]
  refine (decodeFrame_addressed (len.trans_le fits) (by simp [len])).trans (congrArg some ?_)
  exact (if_neg sum).trans ((if_pos source).trans (congrArg (requestOf src kind) taken))

/-! ### The KIND of a request (R179, R184) -/

theorem requestOf_unknown (src : Byte) (payload : List Byte) (unknown : kind ∉ requestKinds) :
    requestOf src kind payload = .unknownKindRequest src kind payload := by
  have other {n : Nat} (named : kind.toNat = n) (known : BitVec.ofNat 8 n ∈ requestKinds) : False :=
    unknown (by rwa [← named, BitVec.ofNat_toNat, BitVec.setWidth_eq] at known)
  unfold requestOf
  split
  case h_26 => rfl
  all_goals next named => exact (other named (by decide)).elim

/-- A well-formed command that has a frame is the request of its own SOURCE, KIND and payload. -/
theorem frameOf_eq_some {i : Instr} (wf : i.wf = true) (framed : frameOf address i = some bytes) :
    ∃ src kind payload, requestOk src payload = true ∧ requestOf src kind payload = i ∧
      requestFrame address src kind payload = bytes := by
  cases i with
  | partStatus src p | summary src p | districtStatus src p | feedStatus src p | jointStatus src p
  | readDistrictConfig src p | readFeedConfig src p | readJointConfig src p | readGlobals src p | join src p
  | leave src p | subscribe src p | hold src p | release src p | breakHold src p | acceptJoint src p | grant src p
  | retryNow src p | clear src p | setDistrict src p | setFeed src p | setJoint src p | setGlobals src p
  | storeProfile src p | setMode src p => exact ⟨src, _, p, wf, rfl, Option.some.inj framed⟩
  | unknownKindRequest src kind p =>
    obtain ⟨ok, unknown⟩ : requestOk src p = true ∧ kind ∉ requestKinds := by simpa [Instr.wf] using wf
    exact ⟨src, kind, p, ok, requestOf_unknown src p unknown, Option.some.inj framed⟩
  | _ => cases framed

end Sys2Proof

open Sys2Proof Sys2Proof.Machine
/-- Settles O12: a command with a frame is the request of some SOURCE, KIND and payload, and the frame of those decodes
to that request. -/
theorem requestFramesDecode : Obligations.RequestFramesDecode := by
  intro address i bytes wf framed
  obtain ⟨src, kind, payload, ok, rfl, rfl⟩ := frameOf_eq_some wf framed
  exact decodeFrame_requestFrame ok
end

section
/-! Damaged request frames (R178). -/

namespace Sys2Proof

open Machine

variable {address : BitVec 4} {src kind b : Byte} {payload : List Byte}

/-- Another byte than LEN is replaced: the length still fits, and the bytes after SYNC no longer sum to 0. -/
theorem decodeFrame_replaced (fits : payload.length ≤ 16) {j : Nat}
    (h : j + 1 < (requestFrame address src kind payload).length) (other : 3 ≠ j)
    (changed : b ≠ (requestFrame address src kind payload)[j + 1]) :
    decodeFrame address ((requestFrame address src kind payload).set (j + 1) b) = some .checkError := by
  have place : j < (afterSync address src kind payload).length := Nat.lt_of_succ_lt_succ h
  have size : ((afterSync address src kind payload).set j b).length = payload.length + 5 := by
    rw [List.length_set, afterSync_length]
  have len : (((afterSync address src kind payload).set j b)[3]'(by omega)).toNat = payload.length := by
    rw [List.getElem_set_ne other.symm]
    exact payloadLength_toNat fits
  have sum : byteSum ((afterSync address src kind payload).set j b) ≠ 0#8 :=
    byteSum_afterSync (address := address) ▸ byteSum_set_ne place changed
  rw [requestFrame_eq_cons, List.set_cons_succ]
  exact decodeFrame_checkError (by omega) (by omega) (by omega) sum

/-- LEN is replaced. -/
theorem requestFrame_set_len : (requestFrame address src kind payload).set 4 b =
    0xC5#8 :: address.setWidth 8 :: src :: kind :: b ::
      (payload ++ [checkByte (requestBody address src kind payload)]) := rfl

theorem decodeFrame_len_above (above : 16 < b.toNat) :
    decodeFrame address ((requestFrame address src kind payload).set 4 b) = some .frameError := by
  simp [requestFrame_set_len, decodeFrame, above]

theorem decodeFrame_len_raised (raised : payload.length < b.toNat) (short : b.toNat ≤ 16) :
    decodeFrame address ((requestFrame address src kind payload).set 4 b) = none := by
  simp [requestFrame_set_len, decodeFrame, short, raised.ne]

/-- A lowered LEN takes a byte of the payload as CHECK. -/
theorem requestFrame_lowered (lowered : b.toNat < payload.length) :
    ((requestFrame address src kind payload).set 4 b).take (6 + b.toNat) =
      0xC5#8 :: address.setWidth 8 :: src :: kind :: b :: payload.take (b.toNat + 1) := by
  rw [requestFrame_set_len, show 6 + b.toNat = b.toNat + 1 + 5 by omega]
  simp only [List.take_succ_cons]
  rw [List.take_append_of_le_length lowered]

theorem decodeFrame_len_lowered (fits : payload.length ≤ 16) (lowered : b.toNat < payload.length) :
    let early := ((requestFrame address src kind payload).set 4 b).take (6 + b.toNat)
    decodeFrame address early = some
      (if byteSum (early.drop 1) ≠ 0#8 then .checkError
       else if 1 ≤ src.toNat ∧ src.toNat ≤ 63 then requestOf src kind (payload.take b.toNat)
       else .badSourceFrame src) := by
  intro early
  have decoded := decodeFrame_addressed (address := address) (src := src) (kind := kind) (len := b)
    (rest := payload.take (b.toNat + 1)) (by omega) (by rw [List.length_take]; omega)
  rw [List.take_take, Nat.min_eq_left (Nat.le_succ _)] at decoded
  rw [show early = _ from requestFrame_lowered lowered]
  exact decoded

end Sys2Proof

open Sys2Proof Sys2Proof.Machine
/-- Settles O13: a replaced byte other than LEN changes the sum that CHECK makes 0, and a replaced LEN moves the end of
the frame. -/
theorem damagedFramesAreCaught : Obligations.DamagedFramesAreCaught := by
  intro address src kind b payload k h fits pastSync changed
  obtain ⟨j, rfl⟩ := Nat.exists_eq_add_of_le' pastSync
  refine ⟨fun other => ?_, fun isLen above => ?_, fun isLen raised short => ?_, fun isLen lowered => ?_⟩
  · exact decodeFrame_replaced fits h (by omega) changed
  · exact isLen ▸ decodeFrame_len_above above
  · exact isLen ▸ decodeFrame_len_raised raised short
  · exact isLen ▸ decodeFrame_len_lowered fits lowered
end

section
/-! The rows of the line (R178 to R182): frames that start and fail, stray frames, and the reply that is sent. -/

namespace Sys2Proof.Machine

variable {s : State}

/-! ### The conditions of the line (R178 to R180) -/

theorem receiving_of_hunting (h : s.line.cond = .hunting) : receiving s = false := by simp [receiving, h]

theorem receiving_of_inFrame (h : s.line.cond = .inFrame) : receiving s = true := by simp [receiving, h]

theorem lineClosed_iff : lineClosed s = true ↔ ∃ r, s.line.cond = .replyDue r ∨ s.line.cond = .replying r := by
  unfold lineClosed
  cases s.line.cond <;> simp

theorem receiving_of_closed (h : lineClosed s = true) : receiving s = false := by
  obtain ⟨r, due | sending⟩ := lineClosed_iff.mp h
  · simp [receiving, due]
  · simp [receiving, sending]

theorem not_hunting_of_closed (h : lineClosed s = true) : (s.line.cond == .hunting) = false := by
  obtain ⟨r, due | sending⟩ := lineClosed_iff.mp h
  · simp [due]
  · simp [sending]

/-! ### Starts and faults (R178) -/

theorem exec_frameStart_hunting (h : s.line.cond = .hunting) :
    exec .frameStart s = .next (s.setLine { s.line with cond := .inFrame, buffer := [0xC5#8] }) :=
  congrArg Host.Outcome.next (if_pos (by simp [h]))

theorem exec_frameStart_ignored (h : (s.line.cond == .hunting) = false) : exec .frameStart s = .next s :=
  congrArg Host.Outcome.next (if_neg (by simp [h]))

/-- Outside a frame the three faults are ignored. -/
theorem exec_faults_ignored (h : receiving s = false) :
    exec .checkError s = .next s ∧ exec .frameError s = .next s ∧ exec .interByteTimeout s = .next s := by
  have outside : ¬receiving s = true := by simp [h]
  exact ⟨congrArg Host.Outcome.next (if_neg outside), congrArg Host.Outcome.next (if_neg outside),
    congrArg Host.Outcome.next (if_neg outside)⟩

/-- In a frame each of the three faults discards it with one count. -/
theorem exec_faults_discard (h : receiving s = true) :
    exec .checkError s = .next (s.setLine
        { s.line with cond := .hunting, buffer := [], checkErrors := min 65535 (s.line.checkErrors + 1) }) ∧
      exec .frameError s = .next (discardFrame s) ∧ exec .interByteTimeout s = .next (discardFrame s) :=
  ⟨congrArg Host.Outcome.next (if_pos h), congrArg Host.Outcome.next (if_pos h),
    congrArg Host.Outcome.next (if_pos h)⟩

/-! ### Stray frames (R179) -/

theorem exec_foreignFrame_closed (h : lineClosed s = true) (dest : Byte) : exec (.foreignFrame dest) s = .next s :=
  congrArg Host.Outcome.next (if_pos (by simp [h]))

theorem exec_foreignFrame_open (h : lineClosed s = false) {dest : Byte}
    (foreign : dest ≠ s.lineAddress.setWidth 8) :
    exec (.foreignFrame dest) s = .next (toHunting s) :=
  congrArg Host.Outcome.next (if_neg (by simp [h, foreign]))

theorem exec_badSourceFrame_closed (h : lineClosed s = true) (src : Byte) : exec (.badSourceFrame src) s = .next s :=
  congrArg Host.Outcome.next (if_pos (by simp [h]))

theorem exec_badSourceFrame_open (h : lineClosed s = false) {src : Byte} (bad : sourceOk src = false) :
    exec (.badSourceFrame src) s = .next (discardFrame s) :=
  congrArg Host.Outcome.next (if_neg (by simp [h, bad]))

theorem sourceOk_eq_false {src : Byte} (h : src = 0#8 ∨ 63 < src.toNat) : sourceOk src = false := by
  rcases h with rfl | above
  · rfl
  · simp [sourceOk, above]

theorem exec_unknownKindRequest {kind : Byte} (unknown : kind ∉ requestKinds) (src : Byte) (payload : List Byte) :
    exec (.unknownKindRequest src kind payload) s =
      done (takeRequest src kind payload (refuse .unknownKind []) s) :=
  congrArg Host.Outcome.next (if_neg (by simpa using unknown))

/-! ### The reply (R180, R182) -/

theorem exec_replyStart_due {r : Reply} (h : s.line.cond = .replyDue r) :
    exec .replyStart s = .next (s.setLine { s.line with cond := .replying r }) := by
  simp [exec, execReplyStart, done, h]

theorem driverEnabled_replying {r : Reply} (h : s.line.cond = .replying r) : driverEnabled s = true := by
  simp [driverEnabled, h]

theorem driverEnabled_due {r : Reply} (h : s.line.cond = .replyDue r) : driverEnabled s = false := by
  simp [driverEnabled, h]

/-- The bytes that are sent once a reply has started, with the byte of its status. -/
theorem transmitted_started {r : Reply} {code : Byte} (h : byte r.status.code = code) :
    transmitted (s.setLine { s.line with cond := .replying r }) =
      [0xC6#8, s.lineAddress.setWidth 8, r.dest, r.kind, code, byte r.payload.length] ++ r.payload ++
        [checkByte (replyBody s.lineAddress r)] := by
  rw [← h]
  rfl

theorem byteSum_transmitted_started (r : Reply) :
    byteSum ((transmitted (s.setLine { s.line with cond := .replying r })).drop 1) = 0#8 :=
  byteSum_append_check (replyBody s.lineAddress r)

/-- The twelve status codes (R182). -/
theorem byte_statusCode (st : Status) : byte st.code = match st with
    | .ok => 0x00#8
    | .busy => 0x01#8
    | .refusedState => 0x02#8
    | .notJoined => 0x03#8
    | .noSlot => 0x04#8
    | .badArg => 0x05#8
    | .notDue => 0x06#8
    | .notHolder => 0x07#8
    | .holding => 0x08#8
    | .isolated => 0x09#8
    | .mode => 0x0A#8
    | .unknownKind => 0x0B#8 := by
  cases st <;> rfl

end Sys2Proof.Machine

open Sys2Proof Sys2Proof.Machine
/-- Settles O18: the start of a frame asks whether the line is hunting, and a fault whether it is in a frame. -/
theorem framesStartAndFail : Obligations.FramesStartAndFail :=
  fun _ => ⟨fun hunting => ⟨exec_frameStart_hunting hunting, exec_faults_ignored (receiving_of_hunting hunting)⟩,
    fun inFrame => ⟨exec_frameStart_ignored (by simp [inFrame]), exec_faults_discard (receiving_of_inFrame inFrame)⟩⟩

/-- Settles O19: a frame that is received for another part, or from no node, ends the frame alone, and an unknown KIND
is a request that is refused. -/
theorem strayFrames : Obligations.StrayFrames :=
  fun _ b => ⟨fun receives foreign => exec_foreignFrame_open receives foreign,
    fun receives bad => exec_badSourceFrame_open receives (sourceOk_eq_false bad),
    fun _ payload taken unknown =>
      (exec_unknownKindRequest unknown b payload).trans (takeRequest_refuses taken _ rfl)⟩

/-- Settles O20: the reply that is sent is its body with the CHECK that makes the sum 0, and LDEN stands asserted until
either end. -/
theorem replyIsSentAndEnds : Obligations.ReplyIsSentAndEnds := by
  refine fun s r => ⟨fun due => ?_, fun sending => ?_⟩
  · exact ⟨_, checkByte (replyBody s.lineAddress r), exec_replyStart_due due, rfl, driverEnabled_due due,
      driverEnabled_replying rfl, transmitted_started (byte_statusCode r.status), byteSum_transmitted_started r⟩
  · have enabled := driverEnabled_replying sending
    exact ⟨congrArg Host.Outcome.next (if_pos enabled), congrArg Host.Outcome.next (if_pos enabled)⟩
end

section
/-! Requests of every KIND (R179, R180, R183): what the answer to a request leaves alone. -/

namespace Sys2Proof.Machine

variable {s t u : State} {src : Byte}

/-! ### The queue of waiting commands and the line -/

/-- State `t` has the waiting commands and the line of state `s`. -/
def SamePorts (s t : State) : Prop := t.pending = s.pending ∧ t.line = s.line

theorem SamePorts.refl (s : State) : SamePorts s s := ⟨rfl, rfl⟩

theorem samePorts_keeps (s : State) : Keeps (SamePorts s) where
  district _ _ _ _ h := h
  monitor _ _ _ h := h
  sampled _ _ h := h
  timer _ _ _ h := h
  feed _ _ _ h := h
  episode _ _ _ h := h
  summary _ _ _ h := h
  queue _ _ _ h := h
  channel _ _ _ h := h
  lastGranted _ _ h := h
  slot _ _ _ _ h := h

theorem jointEvent_samePorts (j : JointId) (g : Joint → Joint) : SamePorts s (jointEvent j g s) :=
  jointEvent_keeps (samePorts_keeps s) (fun _ _ _ h => h) j g (.refl s)

theorem takeHolders_samePorts (d : DistrictId) (h : BitVec 6) : SamePorts s (takeHolders d h s) :=
  isolationChange_keeps (samePorts_keeps s) _ (.refl s)

theorem setHolders_samePorts (d : DistrictId) (h : BitVec 6) : SamePorts s (setHolders d h s) :=
  arbitrate_keeps (samePorts_keeps s) s (takeHolders_samePorts d h)

theorem markFormer_samePorts (d : DistrictId) (former : BitVec 6) (h : SamePorts s t) :
    SamePorts s (markFormer d former t) :=
  forSlots_keeps (fun _ _ hu => ite_keeps hu hu) h

theorem writeGlobals_samePorts (es : List FieldEntry) (x : Globals) : SamePorts s (writeGlobals es x s) :=
  ite_keeps (.refl s) (.refl s)

theorem leaveRun_samePorts (s : State) : SamePorts s (leaveRun s) :=
  forFeeds_keeps (P := SamePorts s) (fun _ _ h => h) <|
  forDistricts_keeps (fun _ _ h => h) (SamePorts.refl s)

theorem readThrough_samePorts (src : Byte) (g : Slot → Slot) : SamePorts s (readThrough src g s) := by
  unfold readThrough
  split <;> exact .refl s

/-! ### Answers (R183) -/

/-- The answer to a request in state `s` leaves the waiting commands and the line alone, and a refusal leaves the whole
state. -/
structure Answer.Orderly (s : State) (a : Answer) : Prop where
  ports : SamePorts s a.state
  refusal : a.status ≠ .ok → a.state = s

theorem refuse_orderly (st : Status) (payload : List Byte) : (refuse st payload s).Orderly s :=
  ⟨.refl s, fun _ => rfl⟩

theorem accepted_orderly (payload : List Byte) (h : SamePorts s t) : Answer.Orderly s ⟨.ok, payload, t⟩ :=
  ⟨h, fun refused => absurd rfl refused⟩

theorem ite_orderly {due : Prop} [Decidable due] {a b : Answer} (ha : a.Orderly s) (hb : b.Orderly s) :
    (if due then a else b).Orderly s := by
  split
  · exact ha
  · exact hb

theorem noPayload_orderly {body : Answer} (payload : List Byte) (answer : body.Orderly s) :
    (noPayload payload s body).Orderly s := by
  unfold noPayload
  split
  · exact answer
  · exact refuse_orderly _ _

theorem oneDistrict_orderly {body : DistrictId → Answer} (payload : List Byte) (answer : ∀ d, (body d).Orderly s) :
    (oneDistrict payload s body).Orderly s := by
  unfold oneDistrict
  split
  · split
    · exact answer _
    · exact refuse_orderly _ _
  · exact refuse_orderly _ _

theorem oneFeed_orderly {body : FeedId → Answer} (payload : List Byte) (answer : ∀ f, (body f).Orderly s) :
    (oneFeed payload s body).Orderly s := by
  unfold oneFeed
  split
  · split
    · exact answer _
    · exact refuse_orderly _ _
  · exact refuse_orderly _ _

theorem oneJoint_orderly {body : JointId → Answer} (payload : List Byte) (answer : ∀ j, (body j).Orderly s) :
    (oneJoint payload s body).Orderly s := by
  unfold oneJoint
  split
  · split
    · exact answer _
    · exact refuse_orderly _ _
  · exact refuse_orderly _ _

theorem ofSlot_orderly {body : SlotId → Answer} (src : Byte) (answer : ∀ n, (body n).Orderly s) :
    (ofSlot src s body).Orderly s := by
  unfold ofSlot
  split
  · exact answer _
  · exact refuse_orderly _ _

theorem partWide_orderly {a : Answer} (src : Byte) (answer : a.Orderly s) : (partWide src s a).Orderly s :=
  ofSlot_orderly src fun _ => ite_orderly (refuse_orderly _ _) answer

/-- A request that names one district and needs a slot. -/
theorem districtOfSlot_orderly {body : DistrictId → SlotId → Answer} (payload : List Byte)
    (answer : ∀ d n, (body d n).Orderly s) : (oneDistrict payload s fun d => ofSlot src s (body d)).Orderly s :=
  oneDistrict_orderly payload fun d => ofSlot_orderly src (answer d)

/-! ### Reads and slots (R159 to R163, R185) -/

section
variable (src : Byte) (payload : List Byte) (s : State)

theorem bodyPartStatus_orderly : (bodyPartStatus src payload s).Orderly s :=
  noPayload_orderly payload (accepted_orderly _ (.refl s))

theorem bodySummary_orderly : (bodySummary src payload s).Orderly s :=
  noPayload_orderly payload (accepted_orderly _ (.refl s))

theorem bodyDistrictStatus_orderly : (bodyDistrictStatus src payload s).Orderly s :=
  oneDistrict_orderly payload fun _ => accepted_orderly _ (readThrough_samePorts src _)

theorem bodyFeedStatus_orderly : (bodyFeedStatus src payload s).Orderly s :=
  oneFeed_orderly payload fun _ => accepted_orderly _ (readThrough_samePorts src _)

theorem bodyJointStatus_orderly : (bodyJointStatus src payload s).Orderly s :=
  oneJoint_orderly payload fun _ => accepted_orderly _ (readThrough_samePorts src _)

theorem bodyReadDistrictConfig_orderly : (bodyReadDistrictConfig payload s).Orderly s := by
  have unchanged := bodyReadDistrictConfig_unchanged (s := s) payload
  exact ⟨by rw [unchanged]; exact .refl s, fun _ => unchanged⟩

theorem bodyReadFeedConfig_orderly : (bodyReadFeedConfig payload s).Orderly s :=
  oneFeed_orderly payload fun _ => accepted_orderly _ (.refl s)

theorem bodyReadJointConfig_orderly : (bodyReadJointConfig payload s).Orderly s :=
  oneJoint_orderly payload fun _ => accepted_orderly _ (.refl s)

theorem bodyReadGlobals_orderly : (bodyReadGlobals payload s).Orderly s :=
  noPayload_orderly payload (accepted_orderly _ (.refl s))

theorem bodyJoin_orderly : (bodyJoin src payload s).Orderly s := by
  refine noPayload_orderly payload ?_
  split
  · exact accepted_orderly _ (.refl s)
  · split
    · exact accepted_orderly _ (.refl s)
    · exact refuse_orderly _ _

theorem bodyLeave_orderly : (bodyLeave src payload s).Orderly s :=
  noPayload_orderly payload <| ofSlot_orderly src fun _ =>
    ite_orderly (refuse_orderly _ _) (accepted_orderly _ (.refl s))

theorem bodySubscribe_orderly : (bodySubscribe src payload s).Orderly s := by
  unfold bodySubscribe
  split
  · exact ite_orderly (refuse_orderly _ _) (ofSlot_orderly src fun _ => accepted_orderly _ (.refl s))
  · exact refuse_orderly _ _

/-! ### Holds, grants and lockouts (R94, R155, R164 to R169) -/

theorem bodyHold_orderly : (bodyHold src payload s).Orderly s :=
  districtOfSlot_orderly payload fun d _ =>
    accepted_orderly _ (ite_keeps (.refl s) (setHolders_samePorts d _))

theorem bodyRelease_orderly : (bodyRelease src payload s).Orderly s :=
  districtOfSlot_orderly payload fun d _ => ite_orderly
    (accepted_orderly _ (arbitrate_keeps (samePorts_keeps s) s (takeHolders_samePorts d _)))
    (refuse_orderly _ _)

theorem bodyBreakHold_orderly : (bodyBreakHold src payload s).Orderly s :=
  districtOfSlot_orderly payload fun d _ =>
    accepted_orderly _ (ite_keeps (.refl s) (markFormer_samePorts d _ (setHolders_samePorts d _)))

theorem bodyAcceptJoint_orderly : (bodyAcceptJoint src payload s).Orderly s :=
  oneJoint_orderly payload fun j => ofSlot_orderly src fun _ => ite_orderly
    (accepted_orderly _ (jointEvent_samePorts j _)) (refuse_orderly _ _)

theorem grantRetry_orderly (d : DistrictId) : (stateAnswer .ok d (grantRetry d s)).Orderly s :=
  accepted_orderly _ (grantRetry_keeps (samePorts_keeps s) d (.refl s))

theorem bodyGrant_orderly : (bodyGrant src payload s).Orderly s := by
  refine districtOfSlot_orderly payload fun d _ => ?_
  split
  · exact grantRetry_orderly s d
  all_goals exact refuse_orderly _ _

theorem bodyRetryNow_orderly : (bodyRetryNow src payload s).Orderly s := by
  refine districtOfSlot_orderly payload fun d _ => ?_
  split
  · exact grantRetry_orderly s d
  · exact refuse_orderly _ _
  · exact grantRetry_orderly s d
  · exact refuse_orderly _ _

theorem bodyClear_orderly : (bodyClear src payload s).Orderly s := by
  refine districtOfSlot_orderly payload fun d _ => ?_
  split
  · exact accepted_orderly _ (clearLock_keeps (samePorts_keeps s) d (.refl s))
  · exact refuse_orderly _ _

/-! ### Writes, modes and the Profile Store (R21 to R25, R58, R92, R156, R170 to R177) -/

theorem bodySetDistrict_orderly : (bodySetDistrict src payload s).Orderly s := by
  have hP := samePorts_keeps s
  unfold bodySetDistrict
  split
  · exact refuse_orderly _ _
  refine oneDistrict_orderly _ fun d => ?_
  split
  · exact refuse_orderly _ _
  split
  · exact refuse_orderly _ _
  · exact ite_orderly (refuse_orderly _ _) (partWide_orderly src (accepted_orderly _
      (arbitrate_keeps hP s (writeDistrict_keeps hP (fun _ _ _ h => h) d _ _ (.refl s)))))

theorem bodySetFeed_orderly : (bodySetFeed src payload s).Orderly s := by
  have hP := samePorts_keeps s
  have written (f : FeedId) (es : List FieldEntry) (c : FeedConfig) : SamePorts s (writeFeed f es c s) :=
    writeFeed_keeps hP (fun _ _ _ h => h) f es c (.refl s)
  unfold bodySetFeed
  split
  · exact refuse_orderly _ _
  refine oneFeed_orderly _ fun f => ?_
  split
  · exact refuse_orderly _ _
  split
  · exact refuse_orderly _ _
  · exact partWide_orderly src (accepted_orderly _
      (ite_keeps (arbiterLook_keeps hP (written f _ _)) (written f _ _)))

theorem bodySetJoint_orderly : (bodySetJoint src payload s).Orderly s := by
  have hP := samePorts_keeps s
  unfold bodySetJoint
  split
  · exact refuse_orderly _ _
  refine oneJoint_orderly _ fun j => ?_
  split
  · exact refuse_orderly _ _
  split
  · exact refuse_orderly _ _
  · exact partWide_orderly src (accepted_orderly _ (arbitrate_keeps hP s
      (writeJoint_keeps hP (fun _ _ _ h => h) (fun _ _ _ h => h) j _ _ (.refl s))))

theorem bodySetGlobals_orderly : (bodySetGlobals src payload s).Orderly s := by
  unfold bodySetGlobals
  split
  · exact refuse_orderly _ _
  split
  · exact refuse_orderly _ _
  · exact ite_orderly (refuse_orderly _ _)
      (partWide_orderly src (accepted_orderly _ (writeGlobals_samePorts _ _)))

theorem requestMode_orderly (m : Mode) : (requestMode m s).Orderly s := by
  have entered : SamePorts s (enterRun s) := enterRun_keeps (samePorts_keeps s) (fun _ _ h => h) (.refl s)
  unfold requestMode
  split
  · exact ite_orderly (refuse_orderly _ _) (accepted_orderly _ entered)
  · exact accepted_orderly _ (leaveRun_samePorts s)
  · exact accepted_orderly _ (.refl s)
  · exact accepted_orderly _ (.refl s)

theorem bodySetMode_orderly : (bodySetMode src payload s).Orderly s := by
  unfold bodySetMode
  split
  · split
    · exact ofSlot_orderly src fun _ => requestMode_orderly s _
    · exact refuse_orderly _ _
  · exact refuse_orderly _ _

theorem bodyStoreProfile_orderly : (bodyStoreProfile src payload s).Orderly s :=
  noPayload_orderly payload <| ofSlot_orderly src fun _ =>
    ite_orderly (refuse_orderly _ _) (ite_orderly (refuse_orderly _ _) (accepted_orderly _ (.refl s)))

/-! ### Every KIND -/

/-- A request of any KIND is answered under its own KIND, and its answer is orderly. -/
theorem exec_requestOf (kind : Byte) : ∃ body : State → Answer,
    exec (requestOf src kind payload) s = done (takeRequest src kind payload body s) ∧ (body s).Orderly s := by
  by_cases known : kind ∈ requestKinds
  · simp only [requestKinds, List.mem_cons, List.not_mem_nil, or_false] at known
    rcases known with rfl | rfl | rfl | rfl | rfl | rfl | rfl | rfl | rfl | rfl | rfl | rfl | rfl | rfl | rfl | rfl |
      rfl | rfl | rfl | rfl | rfl | rfl | rfl | rfl | rfl
    · exact ⟨bodyPartStatus src payload, rfl, bodyPartStatus_orderly src payload s⟩
    · exact ⟨bodySummary src payload, rfl, bodySummary_orderly src payload s⟩
    · exact ⟨bodyDistrictStatus src payload, rfl, bodyDistrictStatus_orderly src payload s⟩
    · exact ⟨bodyFeedStatus src payload, rfl, bodyFeedStatus_orderly src payload s⟩
    · exact ⟨bodyJointStatus src payload, rfl, bodyJointStatus_orderly src payload s⟩
    · exact ⟨bodyReadDistrictConfig payload, rfl, bodyReadDistrictConfig_orderly payload s⟩
    · exact ⟨bodyReadFeedConfig payload, rfl, bodyReadFeedConfig_orderly payload s⟩
    · exact ⟨bodyReadJointConfig payload, rfl, bodyReadJointConfig_orderly payload s⟩
    · exact ⟨bodyReadGlobals payload, rfl, bodyReadGlobals_orderly payload s⟩
    · exact ⟨bodyJoin src payload, rfl, bodyJoin_orderly src payload s⟩
    · exact ⟨bodyLeave src payload, rfl, bodyLeave_orderly src payload s⟩
    · exact ⟨bodySubscribe src payload, rfl, bodySubscribe_orderly src payload s⟩
    · exact ⟨bodyHold src payload, rfl, bodyHold_orderly src payload s⟩
    · exact ⟨bodyRelease src payload, rfl, bodyRelease_orderly src payload s⟩
    · exact ⟨bodyBreakHold src payload, rfl, bodyBreakHold_orderly src payload s⟩
    · exact ⟨bodyAcceptJoint src payload, rfl, bodyAcceptJoint_orderly src payload s⟩
    · exact ⟨bodyGrant src payload, rfl, bodyGrant_orderly src payload s⟩
    · exact ⟨bodyRetryNow src payload, rfl, bodyRetryNow_orderly src payload s⟩
    · exact ⟨bodyClear src payload, rfl, bodyClear_orderly src payload s⟩
    · exact ⟨bodySetDistrict src payload, rfl, bodySetDistrict_orderly src payload s⟩
    · exact ⟨bodySetFeed src payload, rfl, bodySetFeed_orderly src payload s⟩
    · exact ⟨bodySetJoint src payload, rfl, bodySetJoint_orderly src payload s⟩
    · exact ⟨bodySetGlobals src payload, rfl, bodySetGlobals_orderly src payload s⟩
    · exact ⟨bodyStoreProfile src payload, rfl, bodyStoreProfile_orderly src payload s⟩
    · exact ⟨bodySetMode src payload, rfl, bodySetMode_orderly src payload s⟩
  · rw [requestOf_unknown src payload known]
    exact ⟨refuse .unknownKind [], exec_unknownKindRequest known src payload, refuse_orderly _ _⟩
end

end Sys2Proof.Machine

open Sys2Proof Sys2Proof.Machine
/-- Settles O22: the reply becomes due with the SOURCE and the KIND of the request, and a refusal leaves the state. -/
theorem refusedRequestsChangeNothing : Obligations.RefusedRequestsChangeNothing := by
  intro s t src kind payload taken next
  obtain ⟨body, answers, orderly⟩ := exec_requestOf src payload s kind
  rw [takeRequest_taken s taken] at answers
  cases next.symm.trans answers
  refine ⟨⟨src, kind, (body s).status, (body s).payload⟩, ?_, rfl, rfl, fun refused => ?_⟩
  · rw [← orderly.ports.2]
    rfl
  · rw [Answer.reply, orderly.refusal refused]
    rfl

/-- Settles O21: every row of a frame asks first whether the receive side is open, or whether it is hunting or in a
frame. -/
theorem closedReceiveSideLosesFrames : Obligations.ClosedReceiveSideLosesFrames := by
  intro s src kind dest payload closed
  obtain ⟨body, answers, -⟩ := exec_requestOf src payload s kind
  rw [takeRequest_closed s closed] at answers
  exact ⟨answers, exec_foreignFrame_closed closed dest, exec_badSourceFrame_closed closed src,
    exec_frameStart_ignored (not_hunting_of_closed closed), exec_faults_ignored (receiving_of_closed closed)⟩
end

section
/-! The queue of waiting commands through every command (log entry 15). -/

namespace Sys2Proof.Machine

variable {s : State}

theorem takeRequest_pending {body : State → Answer} (src kind : Byte) (payload : List Byte)
    (answer : (body s).Orderly s) : (takeRequest src kind payload body s).pending = s.pending := by
  unfold takeRequest
  split
  · rfl
  · split
    · rfl
    · exact answer.ports.1

theorem profileWriteEnd_samePorts (agrees : Bool) (s : State) : SamePorts s (profileWriteEnd agrees s) := by
  unfold profileWriteEnd
  split
  · exact ite_keeps (.refl s) (.refl s)
  · exact .refl s

theorem jointSample_samePorts (j : JointId) (high : Bool) : SamePorts s (jointSample j high s) :=
  jointSample_keeps (samePorts_keeps s) (fun _ _ _ h => h) j high (.refl s)

/-- The command goes on to a state with the same commands waiting. -/
def KeepsTheQueue (s : State) (i : Instr) : Prop := ∃ t, exec i s = .next t ∧ t.pending = s.pending

theorem requestOf_keepsTheQueue (src kind : Byte) (payload : List Byte) :
    KeepsTheQueue s (requestOf src kind payload) := by
  obtain ⟨body, answers, orderly⟩ := exec_requestOf src payload s kind
  exact ⟨_, answers, takeRequest_pending src kind payload orderly⟩

theorem unknownKindRequest_keepsTheQueue (src kind : Byte) (payload : List Byte) :
    KeepsTheQueue s (.unknownKindRequest src kind payload) :=
  ⟨_, rfl, ite_keeps (P := fun t => t.pending = s.pending) rfl
    (takeRequest_pending src kind payload (refuse_orderly _ _))⟩

theorem replyStart_keepsTheQueue : KeepsTheQueue s .replyStart := by
  refine ⟨_, rfl, ?_⟩
  split <;> rfl

theorem exec_keepsTheQueue (i : Instr) (s : State) : KeepsTheQueue s i :=
  have hP := samePorts_keeps s
  have h := SamePorts.refl s
  have leaves {i : Instr} {t : State} (same : SamePorts s t) (next : exec i s = .next t := by rfl) :
      KeepsTheQueue s i := ⟨t, next, same.1⟩
  have onLine {due : Prop} [Decidable due] {t u : State} (ht : t.pending = s.pending) (hu : u.pending = s.pending) :
      (if due then t else u).pending = s.pending := ite_keeps (P := fun t => t.pending = s.pending) ht hu
  match i with
  | .powerOnReset straps => ⟨State.afterReset straps s.image s.pending, rfl, rfl⟩
  | .currentSample d _ v => leaves (arbitrate_keeps hP _ (sample_keeps hP d _ v (settleDistrict_keeps hP d h)))
  | .swapWindowSuccess d => leaves (swapSuccess_keeps hP d h)
  | .episodeWindowExpiry f => leaves (ite_keeps (episodeExpiry_keeps hP f h) h)
  | .episodeCapExpiry f => leaves (ite_keeps (episodeExpiry_keeps hP f h) h)
  | .stallAssertion f => leaves (stallAssertion_keeps hP f h)
  | .stallClear f => leaves (stallClear_keeps hP f h)
  | .feedFirstDecision f => leaves (feedDecision_keeps hP f h)
  | .shed f => leaves (shedExpiry_keeps hP f h)
  | .coolExpiry d => leaves (coolExpiry_keeps hP d h)
  | .grantExpiry d => leaves (grantExpiry_keeps hP d h)
  | .probationExpiry d => leaves (probationExpiry_keeps hP d h)
  | .patrolExpiry d => leaves (patrolExpiry_keeps hP d h)
  | .senseEnd c => leaves (ite_keeps (stageEnd_keeps hP c h) h)
  | .prechargeEnd c => leaves (ite_keeps (stageEnd_keeps hP c h) h)
  | .rampStepEnd c => leaves (ite_keeps (stageEnd_keeps hP c h) h)
  | .confirmEnd c => leaves (ite_keeps (stageEnd_keeps hP c h) h)
  | .probeLifetimeExpiry c => leaves (lifetimeExpiry_keeps hP c h)
  | .jointFirstDecision j => leaves (ite_keeps (jointEvent_samePorts j _) h)
  | .debouncedInputChange j => leaves (ite_keeps (jointEvent_samePorts j _) h)
  | .settleExpiry j => leaves (ite_keeps (jointEvent_samePorts j _) h)
  | .dockingExpiry j => leaves (ite_keeps (jointEvent_samePorts j _) h)
  | .partStatus src payload => requestOf_keepsTheQueue src 0x01#8 payload
  | .summary src payload => requestOf_keepsTheQueue src 0x02#8 payload
  | .districtStatus src payload => requestOf_keepsTheQueue src 0x03#8 payload
  | .feedStatus src payload => requestOf_keepsTheQueue src 0x04#8 payload
  | .jointStatus src payload => requestOf_keepsTheQueue src 0x05#8 payload
  | .readDistrictConfig src payload => requestOf_keepsTheQueue src 0x06#8 payload
  | .readFeedConfig src payload => requestOf_keepsTheQueue src 0x07#8 payload
  | .readJointConfig src payload => requestOf_keepsTheQueue src 0x08#8 payload
  | .readGlobals src payload => requestOf_keepsTheQueue src 0x09#8 payload
  | .join src payload => requestOf_keepsTheQueue src 0x10#8 payload
  | .leave src payload => requestOf_keepsTheQueue src 0x11#8 payload
  | .subscribe src payload => requestOf_keepsTheQueue src 0x12#8 payload
  | .hold src payload => requestOf_keepsTheQueue src 0x20#8 payload
  | .release src payload => requestOf_keepsTheQueue src 0x21#8 payload
  | .breakHold src payload => requestOf_keepsTheQueue src 0x22#8 payload
  | .acceptJoint src payload => requestOf_keepsTheQueue src 0x23#8 payload
  | .grant src payload => requestOf_keepsTheQueue src 0x30#8 payload
  | .retryNow src payload => requestOf_keepsTheQueue src 0x31#8 payload
  | .clear src payload => requestOf_keepsTheQueue src 0x32#8 payload
  | .setDistrict src payload => requestOf_keepsTheQueue src 0x40#8 payload
  | .setFeed src payload => requestOf_keepsTheQueue src 0x41#8 payload
  | .setJoint src payload => requestOf_keepsTheQueue src 0x42#8 payload
  | .setGlobals src payload => requestOf_keepsTheQueue src 0x43#8 payload
  | .storeProfile src payload => requestOf_keepsTheQueue src 0x44#8 payload
  | .profileWriteEnd agrees => leaves (profileWriteEnd_samePorts agrees s)
  | .setMode src payload => requestOf_keepsTheQueue src 0x45#8 payload
  | .unknownKindRequest src kind payload => unknownKindRequest_keepsTheQueue src kind payload
  | .foreignFrame _ => ⟨_, rfl, onLine rfl rfl⟩
  | .badSourceFrame _ => ⟨_, rfl, onLine rfl rfl⟩
  | .checkError => ⟨_, rfl, onLine rfl rfl⟩
  | .frameError => ⟨_, rfl, onLine rfl rfl⟩
  | .interByteTimeout => ⟨_, rfl, onLine rfl rfl⟩
  | .replyStart => replyStart_keepsTheQueue
  | .replyEnd => ⟨_, rfl, onLine rfl rfl⟩
  | .replyCollision => ⟨_, rfl, onLine rfl rfl⟩
  | .tickBoundary => leaves (tickBoundary_keeps hP (fun _ _ _ h => h) h)
  | .stallLineSample f high => leaves (stallSample_keeps hP f high h)
  | .jointSenseSample j high => leaves (jointSample_samePorts j high)
  | .frameStart => ⟨_, rfl, onLine rfl rfl⟩

end Sys2Proof.Machine

open Sys2Proof Sys2Proof.Machine
/-- Settles O2: no update of recovery, of the joints, of a request's answer or of the line is one of the queue. -/
theorem commandsCompleteAndKeepTheQueue : Obligations.CommandsCompleteAndKeepTheQueue := exec_keepsTheQueue
end

section
/-! The step where a command waits: `step` splits on the queue alone, and a queue that is written twice holds the
second. -/

namespace Sys2Proof.Machine

theorem State.setPending_setPending (s : State) (q r : List Instr) : (s.setPending q).setPending r = s.setPending r :=
  rfl

theorem step_of_pending_cons {s : State} {c : Instr} {rest : List Instr} (waiting : s.pending = c :: rest) :
    step s = exec c (s.setPending rest) := by
  unfold step
  split
  case h_1 idle => cases waiting.symm.trans idle
  case h_2 front =>
    cases waiting.symm.trans front
    rfl

end Sys2Proof.Machine

open Sys2Proof Sys2Proof.Machine
/-- Settles O1: the queue that is set has the command at its front, and the rest takes its place before `exec` runs. -/
theorem stepRunsFrontCommand : Obligations.StepRunsFrontCommand := by
  intro s c rest
  calc step (s.setPending (c :: rest))
      = exec c ((s.setPending (c :: rest)).setPending rest) := step_of_pending_cons (s.setPending_pending _)
    _ = exec c (s.setPending rest) := by rw [State.setPending_setPending]
end

section
open Sys2Proof Sys2Proof.Machine
/-- Settles O17: the meaning of a reset is one record, whose fields are the reset values as they stand. -/
theorem powerOnResetValues : Obligations.PowerOnResetValues := by
  intro straps s
  rfl
end

section
/-! The leaving of RUN as one state (R173, R174). -/

namespace Sys2Proof.Machine

variable (s : State)

/-- The walk over the districts at the leaving of RUN changes each district's own records (R173, R174). -/
theorem forDistricts_leaveDistrict : forDistricts leaveDistrict s =
    { s with
      districts := Vector.ofFn (fun d => (s.district d).leaveRun)
      monitors := Vector.ofFn (fun d => (s.monitor d).leaveRun) } := by
  have same : ∃ u v, forDistricts leaveDistrict s = { s with districts := u, monitors := v } :=
    forDistricts_keeps (P := fun t => ∃ u v, t = { s with districts := u, monitors := v }) (fun d t h => by
      obtain ⟨u, v, rfl⟩ := h
      exact ⟨_, _, rfl⟩) ⟨s.districts, s.monitors, rfl⟩
  have district (d : DistrictId) : (forDistricts leaveDistrict s).district d = (s.district d).leaveRun :=
    forDistricts_read (d := d) (read := fun t => t.district d) (φ := District.leaveRun) (I := fun _ => True) (fun _ _ _ => trivial)
      (fun t _ => by simp [leaveDistrict, State.modDistrict, State.modMonitor])
      (fun e other t _ => by simp [leaveDistrict, State.modDistrict, State.modMonitor, State.setDistrict_district, other])
      trivial
  have monitor (d : DistrictId) : (forDistricts leaveDistrict s).monitor d = (s.monitor d).leaveRun :=
    forDistricts_read (d := d) (read := fun t => t.monitor d) (φ := Monitor.leaveRun) (I := fun _ => True) (fun _ _ _ => trivial)
      (fun t _ => by simp [leaveDistrict, State.modDistrict, State.modMonitor])
      (fun e other t _ => by simp [leaveDistrict, State.modDistrict, State.modMonitor, State.setMonitor_monitor, other])
      trivial
  obtain ⟨u, v, walked⟩ := same
  rw [walked] at district monitor ⊢
  have districts : u = Vector.ofFn (fun d => (s.district d).leaveRun) := by
    ext1 i hi
    rw [Vector.getElem_ofFn]
    exact district ⟨i, hi⟩
  have monitors : v = Vector.ofFn (fun d => (s.monitor d).leaveRun) := by
    ext1 i hi
    rw [Vector.getElem_ofFn]
    exact monitor ⟨i, hi⟩
  rw [districts, monitors]

/-- The walk over the feeds at the leaving of RUN changes each feed's own record (R53, R174). -/
theorem forFeeds_leaveRun : forFeeds (fun f t => t.modFeed f Feed.leaveRun) s =
    { s with feeds := Vector.ofFn (fun f => (s.feed f).leaveRun) } := by
  have same : ∃ v, forFeeds (fun f t => t.modFeed f Feed.leaveRun) s = { s with feeds := v } :=
    forFeeds_keeps (P := fun t => ∃ v, t = { s with feeds := v }) (fun f t h => by
      obtain ⟨v, rfl⟩ := h
      exact ⟨_, rfl⟩) ⟨s.feeds, rfl⟩
  have feed (f : FeedId) : (forFeeds (fun f t => t.modFeed f Feed.leaveRun) s).feed f = (s.feed f).leaveRun :=
    forFeeds_read (f := f) (read := fun t => t.feed f) (g := fun f t => t.modFeed f Feed.leaveRun) (φ := Feed.leaveRun)
      (I := fun _ => True) (fun _ _ _ => trivial)
      (fun t _ => by simp [State.modFeed]) (fun e other t _ => by simp [State.modFeed, State.setFeed_feed, other]) trivial
  obtain ⟨v, walked⟩ := same
  rw [walked] at feed ⊢
  have feeds : v = Vector.ofFn (fun f => (s.feed f).leaveRun) := by
    ext1 i hi
    rw [Vector.getElem_ofFn]
    exact feed ⟨i, hi⟩
  rw [feeds]

theorem leaveRun_eq : leaveRun s =
    { s with
      mode := .standby
      districts := Vector.ofFn (fun d => (s.district d).leaveRun)
      monitors := Vector.ofFn (fun d => (s.monitor d).leaveRun)
      timers := Vector.replicate 16 Timer.empty
      feeds := Vector.ofFn (fun f => (s.feed f).leaveRun)
      episodes := Vector.replicate 4 none
      queues := Vector.replicate 4 []
      channels := Vector.replicate 4 none
      lastGranted := 3 } := by
  rw [leaveRun, forDistricts_leaveDistrict, forFeeds_leaveRun]
  rfl

theorem bodySetMode_leaves {s : State} {src : Byte} {n : SlotId} (joined : slotOf s src = some n)
    (run : s.mode = .run) : bodySetMode src [0#8] s = ⟨.ok, [0#8], leaveRun s⟩ := by
  have answer : bodySetMode src [0#8] s = requestMode .standby s := ofSlot_joined s joined _
  have standby : modeByte (leaveRun s) = [0#8] := modeByte_standby (by rw [leaveRun_eq])
  simp only [answer, requestMode, run, standby]

theorem District.leaveRun_eq (r : District) : r.leaveRun =
    match r.st with
    | .off => { r with polarity := .normal }
    | .locked cause _ => { r with st := .locked cause .noLook, polarity := .normal }
    | _ => { r with st := .off, failures := 0, probation := false, polarity := .normal } := by
  unfold District.leaveRun
  cases r.st <;> rfl

end Sys2Proof.Machine

open Sys2Proof Sys2Proof.Machine
/-- Settles O45: the walks over the districts and the feeds change one record each, and the rest is emptied. -/
theorem leavingRun : Obligations.LeavingRun := by
  intro s src n taken joined run
  have left := leaveRun_eq s
  simp only [District.leaveRun_eq] at left
  exact (takeRequest_answers (taken.singleton _) _ (bodySetMode_leaves joined run) (by rw [left])).trans (by rw [left]; rfl)
end

section
/-! One district's view of the part: its records, its place in the ready queues and the channels, and whether it is
isolated. The laws that speak of each district alone (R4, R5, R7, R8, R11, R78, R81, R97, R112) are laws of its view. -/

namespace Sys2Proof.Machine

/-- What the laws of one district read of the part. -/
structure View where
  record : District
  monitor : Monitor
  timer : Timer
  cfg : DistrictConfig
  globals : Globals
  mode : Mode
  /-- the isolation set is not empty -/
  isolated : Bool
  /-- the kinds of the district's entries in each feed's queue -/
  entries : FeedId → Multiset EntryKind
  /-- the district's probe in each channel -/
  probes : ChannelId → Option Probe

/-- The kinds of district `d`'s entries in a queue, whatever their places. -/
def kindsOf (d : DistrictId) (q : List Entry) : Multiset EntryKind :=
  (q.filter (fun e => decide (e.district = d))).map Entry.kind

/-- The probe in a channel, if it is one of district `d`. -/
def ownProbe (d : DistrictId) (x : Option Probe) : Option Probe := x.filter (fun p => decide (p.district = d))

def view (s : State) (d : DistrictId) : View where
  record := s.district d
  monitor := s.monitor d
  timer := s.timer d
  cfg := s.dcfg d
  globals := s.cfg.globals
  mode := s.mode
  isolated := isolationSet s d
  entries f := kindsOf d (s.queue f)
  probes c := ownProbe d (s.channel c)

variable {s : State} {d : DistrictId} {v w : View}

/-! ### What the records of one district read like -/

theorem mem_kindsOf {q : List Entry} {k : EntryKind} : k ∈ kindsOf d q ↔ ∃ e ∈ q, e.district = d ∧ e.kind = k := by
  simp [kindsOf, and_assoc]

theorem card_kindsOf (q : List Entry) : (kindsOf d q).card = (q.map Entry.district).count d := by
  rw [kindsOf, Multiset.coe_card, List.length_map, ← List.countP_eq_length_filter, List.count, List.countP_map]
  rfl

theorem ownProbe_eq_some {x : Option Probe} {p : Probe} : ownProbe d x = some p ↔ x = some p ∧ p.district = d := by
  simp [ownProbe, Option.filter_eq_some_iff]

theorem view_probes_eq_some {c : ChannelId} {p : Probe} :
    (view s d).probes c = some p ↔ s.channel c = some p ∧ p.district = d := ownProbe_eq_some

/-! ### The laws of one district -/

/-- `RecoverySound` as one district sees it (R5, R11, R97, R112, R173, R174). -/
structure View.Agrees (v : View) : Prop where
  entries : ∀ f, v.entries f = if f = v.cfg.feed then ((entryOf v.record.st).toList : Multiset EntryKind) else 0
  context : ∀ c p, v.probes c = some p → p.feed = v.cfg.feed ∧ probeKindOf v.record.st = some p.kind ∧
    (p.kind = .look → lookStage p = true)
  probing : ∀ k, probeKindOf v.record.st = some k → ∃ c p, v.probes c = some p
  channel : ∀ b c p q, v.probes b = some p → v.probes c = some q → b = c
  probation : v.record.probation = true → v.record.st = .live
  standby : v.mode = .standby → atRest v.record.st = true ∧ v.timer = Timer.empty

/-- `IsolationSound` as one district sees it (R11, R15 to R18). -/
structure View.IsolationOk (v : View) : Prop where
  held : v.isolated = true → mayBeIsolated v.record.st = true
  isolated : ∀ r, v.record.st = .isolated r → v.isolated = true

/-- `FailuresSound` as one district sees it (R4). -/
def View.FailuresOk (v : View) : Prop :=
  v.record.failures ≤ v.cfg.lockoutLimit ∧
    (v.record.failures = v.cfg.lockoutLimit → isLocked v.record.st = true)

/-- A probe in a CONFIRM that runs, where a swap window may stand (R35, R36). -/
def Probe.confirms (p : Probe) : Prop := p.stage.isConfirm = true ∧ p.pause = none

/-- Where a swap window may stand: in LIVE or in a CONFIRM that runs (R26, R35). -/
def View.MaySwap (v : View) : Prop := v.record.st = .live ∨ ∃ c p, v.probes c = some p ∧ p.confirms

/-- `PolaritySound` as one district sees it (R8, R26, R35). -/
structure View.PolarityOk (v : View) : Prop where
  normal : v.cfg.reversing = false → v.record.polarity = .normal
  window : v.monitor.window.isSome → v.cfg.reversing = true ∧ v.MaySwap

/-- The purpose of the timer fits the district's state (R81); a timer without a purpose is empty (R78). -/
def View.timerFits (v : View) : Bool :=
  match v.timer.purpose, v.timer.running with
  | none, _ => v.timer == Timer.empty
  | some .cool, true => v.record.st == .cooling .counting
  | some .cool, false => v.record.st == .isolated .coolRetained
  | some .grant, true => v.record.st == .awaitingGrant
  | some .probation, true => v.record.st == .live && v.record.probation
  | some .patrol, true => isLocked v.record.st && v.cfg.patrol && !v.isolated && v.mode == .run
  | some _, false => false

/-- `TimersSound` as one district sees it (R78, R81). -/
structure View.TimerOk (v : View) : Prop where
  fits : v.timerFits = true
  mode : v.timer.mode = if v.timer.purpose = some .patrol then .repeating else .oneShot
  count : v.timer.count ≤ 65535 ∧ (v.timer.purpose.isSome → 1 ≤ v.timer.count)

/-- The part of `CountersInRange` that speaks of one district (R7, R26, R27). -/
structure View.CountersOk (v : View) : Prop where
  trips : v.record.trips ≤ 65535
  swaps : v.record.swaps ≤ 255
  integrator : v.monitor.integrator ≤ 65535
  history : ∀ k : Fin 8, v.monitor.history[k] ≤ 1000

/-- The configuration that one district reads stands in its ranges (R2, R91). -/
structure View.InRange (v : View) : Prop where
  cfg : v.cfg.InRange
  globals : v.globals.InRange

/-! ### The laws of the part are those of every district -/

theorem View.Agrees.of_recoverySound (h : RecoverySound s) (d : DistrictId) : (view s d).Agrees where
  entries f := by
    have short : (kindsOf d (s.queue f)).card ≤ 1 := by
      rw [card_kindsOf]
      exact List.nodup_iff_count_le_one.mp (h.single f) d
    have member (k : EntryKind) : k ∈ kindsOf d (s.queue f) ↔
        f = (s.dcfg d).feed ∧ entryOf (s.district d).st = some k := by
      rw [mem_kindsOf]
      constructor
      · rintro ⟨e, he, rfl, rfl⟩
        exact ⟨(h.entry f e he).1.symm, (h.entry f e he).2⟩
      · rintro ⟨rfl, hk⟩
        exact h.queued d k hk
    change kindsOf d (s.queue f) = if f = (s.dcfg d).feed then ((entryOf (s.district d).st).toList : Multiset _) else 0
    rcases Nat.le_one_iff_eq_zero_or_eq_one.mp short with empty | one
    · have empty := Multiset.card_eq_zero.mp empty
      split
      · next own =>
        cases hk : entryOf (s.district d).st with
        | none => exact empty
        | some k => simpa [empty] using (member k).mpr ⟨own, hk⟩
      · exact empty
    · obtain ⟨k, single⟩ := Multiset.card_eq_one.mp one
      obtain ⟨own, hk⟩ := (member k).mp (by simp [single])
      rw [if_pos own, hk, single]
      rfl
  context c p hp := by
    obtain ⟨hc, rfl⟩ := view_probes_eq_some.mp hp
    exact ⟨(h.context c p hc).1.symm, (h.context c p hc).2, h.look c p hc⟩
  probing k hk := by
    obtain ⟨c, p, hc, hd⟩ := h.probing d k hk
    exact ⟨c, p, view_probes_eq_some.mpr ⟨hc, hd⟩⟩
  channel b c p q hp hq := by
    obtain ⟨hb, rfl⟩ := view_probes_eq_some.mp hp
    obtain ⟨hc, hd⟩ := view_probes_eq_some.mp hq
    exact h.channel b c p q hb hc hd.symm
  probation := h.probation d
  standby standby := h.standby standby d

theorem RecoverySound.of_views (h : ∀ d, (view s d).Agrees) : RecoverySound s where
  entry f e he := by
    have mem : e.kind ∈ (view s e.district).entries f := mem_kindsOf.mpr ⟨e, he, rfl, rfl⟩
    rw [(h e.district).entries] at mem
    split at mem
    · next own => exact ⟨own.symm, Option.mem_toList.mp (Multiset.mem_coe.mp mem)⟩
    · exact absurd mem (Multiset.notMem_zero _)
  queued d k hk := by
    have mem : k ∈ (view s d).entries (view s d).cfg.feed := by
      rw [(h d).entries, if_pos rfl]
      exact Multiset.mem_coe.mpr (Option.mem_toList.mpr hk)
    exact mem_kindsOf.mp mem
  single f := by
    refine List.nodup_iff_count_le_one.mpr fun d => ?_
    have eq : kindsOf d (s.queue f) = _ := (h d).entries f
    rw [← card_kindsOf, eq]
    split
    · cases entryOf (view s d).record.st <;> simp
    · simp
  context c p hc := by
    obtain ⟨feed, kind, -⟩ := (h p.district).context c p (view_probes_eq_some.mpr ⟨hc, rfl⟩)
    exact ⟨feed.symm, kind⟩
  probing d k hk := by
    obtain ⟨c, p, hp⟩ := (h d).probing k hk
    exact ⟨c, p, view_probes_eq_some.mp hp⟩
  channel b c p q hb hc same :=
    (h p.district).channel b c p q (view_probes_eq_some.mpr ⟨hb, rfl⟩) (view_probes_eq_some.mpr ⟨hc, same.symm⟩)
  look c p hc := ((h p.district).context c p (view_probes_eq_some.mpr ⟨hc, rfl⟩)).2.2
  probation d := (h d).probation
  standby standby d := (h d).standby standby

theorem recoverySound_iff : RecoverySound s ↔ ∀ d, (view s d).Agrees := ⟨.of_recoverySound, .of_views⟩

theorem isolationSound_iff : IsolationSound s ↔ ∀ d, (view s d).IsolationOk :=
  ⟨fun h d => ⟨h.held d, h.isolated d⟩, fun h => ⟨fun d => (h d).held, fun d => (h d).isolated⟩⟩

theorem failuresSound_iff : FailuresSound s ↔ ∀ d, (view s d).FailuresOk := Iff.rfl

theorem view_maySwap : (view s d).MaySwap ↔ (s.district d).st = .live ∨
    ∃ c p, s.channel c = some p ∧ p.district = d ∧ p.stage.isConfirm = true ∧ p.pause = none := by
  simp only [View.MaySwap, view_probes_eq_some, Probe.confirms, and_assoc]
  rfl

theorem polaritySound_iff : PolaritySound s ↔ ∀ d, (view s d).PolarityOk := by
  refine ⟨fun h d => ⟨h.normal d, fun present => ?_⟩, fun h => ⟨fun d => (h d).normal, fun d present => ?_⟩⟩
  · exact ⟨(h.window d present).1, view_maySwap.mpr (h.window d present).2⟩
  · exact ⟨((h d).window present).1, view_maySwap.mp ((h d).window present).2⟩

theorem view_timerFits : (view s d).timerFits = Machine.timerFits s d := rfl

theorem timersSound_iff : TimersSound s ↔ ∀ d, (view s d).TimerOk := by
  refine ⟨fun h d => ⟨by rw [view_timerFits]; exact h.fits d, h.mode d, h.count d⟩, fun h => ⟨fun d => ?_, fun d =>
    (h d).mode, fun d => (h d).count⟩⟩
  rw [← view_timerFits]
  exact (h d).fits

theorem countersInRange_iff : CountersInRange s ↔ (∀ d, (view s d).CountersOk) ∧
    s.line.checkErrors ≤ 65535 ∧ s.line.frameErrors ≤ 65535 ∧ s.line.replyCollisions ≤ 65535 :=
  ⟨fun h => ⟨fun d => ⟨h.trips d, h.swaps d, h.integrator d, h.history d⟩, h.checkErrors, h.frameErrors,
      h.replyCollisions⟩,
    fun ⟨h, check, frame, collisions⟩ => ⟨fun d => (h d).trips, fun d => (h d).swaps, fun d => (h d).integrator,
      fun d => (h d).history, check, frame, collisions⟩⟩

theorem View.InRange.of_config (h : ConfigInRange s) (d : DistrictId) : (view s d).InRange :=
  ⟨h.cfg.districts d, h.cfg.globals⟩

end Sys2Proof.Machine
end

section
/-! The life of one district: every change that a step of the part makes of one district's view, as a chain of small
ones. COOLING in phase merging is the place through which a district passes from one part of its recovery to another;
the part itself need not stand there between two of the small changes. -/

namespace Sys2Proof.Machine

/-- Probe `q` is probe `p` later in its channel: a look stays where a look may stand (R28, R124). -/
structure Probe.Onward (p q : Probe) : Prop where
  district : q.district = p.district
  feed : q.feed = p.feed
  kind : q.kind = p.kind
  look : p.kind = .look → lookStage p = true → lookStage q = true

/-- The district's state lets its restricted fields be written (R21). -/
def View.Still (v : View) : Prop :=
  v.mode = .standby ∨ v.record.st = .off ∨ (∃ r, v.record.st = .isolated r) ∨ isLocked v.record.st = true

/-- The states that a district in COOLING merging may take with neither an entry nor a probe (R41, R82, R122). -/
def followsMerging (x : DistrictState) : Bool :=
  match x with
  | .cooling .counting => true
  | .awaitingGrant => true
  | .locked _ .noLook => true
  | _ => false

/-- The state with another look status, if it has one (R3). -/
def withLook (look : LookStatus) (x : DistrictState) : DistrictState :=
  match x with
  | .locked cause _ => .locked cause look
  | x => x

/-- The state of a district whose entry is granted a channel (R106). -/
def grantedSt (k : EntryKind) (x : DistrictState) : DistrictState :=
  match k, x with
  | .full, _ => .probing
  | .look, x => withLook .inFlight x

/-- The timer with purpose `p` may be loaded (R81, R88). -/
def View.MayLoad (v : View) (p : Purpose) : Prop :=
  match p with
  | .cool => v.record.st = .cooling .counting
  | .grant => v.record.st = .awaitingGrant
  | .probation => v.record.probation = true
  | .patrol => (isLocked v.record.st = true ∧ v.cfg.patrol = true ∧ v.isolated = false ∧ v.mode = .run) ∨
      (v.timer.purpose = some .patrol ∧ v.timer.running = true)

/-- One small change of a district's view. -/
inductive VStep : View → View → Prop
  /-- the causes, the counters and the holders (R6, R7, R14) -/
  | record (v : View) (r : District) (st : r.st = v.record.st) (failures : r.failures = v.record.failures)
      (probation : r.probation = v.record.probation) (polarity : r.polarity = v.record.polarity)
      (trips : v.record.trips ≤ 65535 → r.trips ≤ 65535) (swaps : v.record.swaps ≤ 255 → r.swaps ≤ 255) :
      VStep v { v with record := r }
  /-- a sample, the integrator, a swap window that counts or ends (R27, R29, R36 to R39) -/
  | monitor (v : View) (m : Monitor) (window : m.window.isSome → v.monitor.window.isSome)
      (integrator : v.monitor.integrator ≤ 65535 → m.integrator ≤ 65535)
      (history : (∀ k : Fin 8, v.monitor.history[k] ≤ 1000) → ∀ k : Fin 8, m.history[k] ≤ 1000) :
      VStep v { v with monitor := m }
  /-- a swap (R35) -/
  | swap (v : View) (m : Monitor) (x : Polarity) (reversing : v.cfg.reversing = true) (maySwap : v.MaySwap)
      (integrator : v.monitor.integrator ≤ 65535 → m.integrator ≤ 65535) (history : m.history = v.monitor.history) :
      VStep v { v with monitor := m, record := { v.record with polarity := x } }
  /-- polarity back to where it stood before a swap, or to NORMAL (R8, R37) -/
  | polarity (v : View) (x : Polarity) (may : v.monitor.window.isSome ∨ x = .normal) :
      VStep v { v with record := { v.record with polarity := x } }
  /-- a probe moves on in its channel (R114 to R118, R133, R138, R139) -/
  | probe (v : View) (c : ChannelId) (p q : Probe) (own : v.probes c = some p) (onward : p.Onward q)
      (window : p.confirms → q.confirms ∨ v.monitor.window = none) :
      VStep v { v with probes := fun b => if b = c then some q else v.probes b }
  /-- SET_GLOBALS (R92) -/
  | globals (v : View) (g : Globals) (range : v.globals.InRange → g.InRange) : VStep v { v with globals := g }
  /-- SET_DISTRICT with its effect on F (R21 to R25) -/
  | configured (v : View) (k : DistrictConfig) (n : Nat) (range : v.cfg.InRange → k.InRange)
      (limit : (k.lockoutLimit = v.cfg.lockoutLimit ∧ n = v.record.failures) ∨ (v.cfg.InRange →
        n < k.lockoutLimit ∨ (isLocked v.record.st = true ∧ n ≤ k.lockoutLimit)))
      (feed : k.feed = v.cfg.feed ∨ (v.Agrees → entryOf v.record.st = none ∧ probeKindOf v.record.st = none))
      (patrol : k.patrol = v.cfg.patrol ∨ k.patrol = true ∨ isLocked v.record.st = false ∨ v.timer = Timer.empty)
      (reversing : k.reversing = v.cfg.reversing ∨ k.reversing = true ∨ (v.record.polarity = .normal ∧ v.Still)) :
      VStep v { v with cfg := k, record := { v.record with failures := n } }
  /-- the entry to RUN (R171) -/
  | entered (v : View) (standby : v.mode = .standby) : VStep v { v with mode := .run }
  /-- the leaving of RUN (R173, R174) -/
  | left (v : View) : VStep v { v with
      mode := .standby, record := v.record.leaveRun, monitor := v.monitor.leaveRun, timer := Timer.empty,
      entries := fun _ => 0, probes := fun _ => none }
  /-- a tick boundary (R80) -/
  | tick (v : View) : VStep v { v with timer := v.timer.tick }
  /-- stop and clear (R79) -/
  | timerCleared (v : View) : VStep v { v with timer := Timer.empty }
  /-- load (R79) -/
  | timerLoaded (v : View) (p : Purpose) (n : Nat) (may : v.MayLoad p) (range : v.InRange → n ≤ 65535) :
      VStep v { v with timer := loaded p n }
  /-- probation ends, and its timer stops (R5) -/
  | probationEnds (v : View) :
      VStep v { v with record := { v.record with probation := false }, timer := Timer.empty }
  /-- F takes another value (R4) -/
  | failures (v : View) (n : Nat) (below : v.InRange → n < v.cfg.lockoutLimit ∨
      (isLocked v.record.st = true ∧ n ≤ v.cfg.lockoutLimit)) :
      VStep v { v with record := { v.record with failures := n } }
  /-- LIVE ends, with its swap window and its probation (R15, R41, R54) -/
  | liveEnds (v : View) (x : Timer) (live : v.record.st = .live) (window : v.monitor.window = none)
      (timer : x = Timer.empty ∨ (x = v.timer ∧ v.record.probation = false)) :
      VStep v { v with record := { v.record with st := .cooling .merging, probation := false }, timer := x }
  /-- a count or a grant window ends (R17, R82, R84, R168) -/
  | waitEnds (v : View) (st : v.record.st = .cooling .counting ∨ v.record.st = .awaitingGrant) :
      VStep v { v with record := { v.record with st := .cooling .merging }, timer := Timer.empty }
  /-- a count, a grant window or a lockout begins (R42, R75, R82, R122) -/
  | follows (v : View) (x : DistrictState) (merging : v.record.st = .cooling .merging)
      (next : followsMerging x = true) : VStep v { v with record := { v.record with st := x } }
  /-- a FULL probe succeeds, after its end (R120) -/
  | recovers (v : View) (merging : v.record.st = .cooling .merging) :
      VStep v { v with record := { v.record with st := .live, probation := true } }
  /-- a FULL entry is removed (R99) -/
  | dequeued (v : View) (es : FeedId → Multiset EntryKind) (queued : v.record.st = .queued)
      (none_left : v.Agrees → ∀ f, es f = 0) :
      VStep v { v with record := { v.record with st := .cooling .merging }, entries := es }
  /-- a FULL entry is placed (R97, R98) -/
  | enqueued (v : View) (es : FeedId → Multiset EntryKind) (merging : v.record.st = .cooling .merging)
      (placed : v.Agrees → ∀ f, es f = if f = v.cfg.feed then {.full} else 0) :
      VStep v { v with record := { v.record with st := .queued }, entries := es }
  /-- a LOOK entry is removed (R18, R24, R169) -/
  | lookRemoved (v : View) (cause : LockCause) (es : FeedId → Multiset EntryKind)
      (queued : v.record.st = .locked cause .queued) (none_left : v.Agrees → ∀ f, es f = 0) :
      VStep v { v with record := { v.record with st := .locked cause .noLook }, entries := es }
  /-- a LOOK entry is placed (R89) -/
  | lookPlaced (v : View) (cause : LockCause) (es : FeedId → Multiset EntryKind)
      (st : v.record.st = .locked cause .noLook) (free : v.isolated = false) (timer : v.timer.purpose ≠ none)
      (placed : v.Agrees → ∀ f, es f = if f = v.cfg.feed then {.look} else 0) :
      VStep v { v with record := { v.record with st := .locked cause .queued }, entries := es }
  /-- a grant (R106, R113) -/
  | granted (v : View) (f : FeedId) (c : ChannelId) (p : Probe) (rest : Multiset EntryKind)
      (head : v.entries f = p.kind ::ₘ rest) (feed : p.feed = f) (stage : p.stage = .sense) (runs : p.pause = none) :
      VStep v { v with
        record := { v.record with st := grantedSt p.kind v.record.st }
        entries := fun g => if g = f then rest else v.entries g
        probes := fun b => if b = c then some p else v.probes b }
  /-- a FULL probe ends (R107) -/
  | probeEnds (v : View) (ps : ChannelId → Option Probe) (probing : v.Agrees → v.record.st = .probing)
      (window : v.Agrees → v.monitor.window = none) (none_left : v.Agrees → ∀ c, ps c = none) :
      VStep v { v with record := { v.record with st := .cooling .merging }, probes := ps }
  /-- a look ends (R107, R126) -/
  | lookEnds (v : View) (ps : ChannelId → Option Probe)
      (st : v.Agrees → ∃ cause, v.record.st = .locked cause .inFlight)
      (window : v.Agrees → v.monitor.window = none) (none_left : v.Agrees → ∀ c, ps c = none) :
      VStep v { v with record := { v.record with st := withLook .noLook v.record.st }, probes := ps }
  /-- a look passes (R125) -/
  | lookPasses (v : View) (ps : ChannelId → Option Probe) (n : Nat)
      (st : v.Agrees → v.record.st = .probing ∨ ∃ cause, v.record.st = .locked cause .inFlight)
      (window : v.Agrees → v.monitor.window = none)
      (none_left : v.Agrees → ∀ c, ps c = none) (below : v.InRange → n < v.cfg.lockoutLimit) :
      VStep v { v with
        record := { v.record with st := .cooling .merging, failures := n }, timer := Timer.empty, probes := ps }
  /-- a lockout or an isolation ends in OFF (R24, R169) -/
  | rests (v : View) (st : (∃ r, v.record.st = .isolated r) ∨ ∃ cause, v.record.st = .locked cause .noLook) :
      VStep v { v with record := { v.record with st := .off, failures := 0 }, timer := Timer.empty }
  /-- an OFF district takes part in recovery (R24, R171) -/
  | wakes (v : View) (off : v.record.st = .off) (run : v.mode = .run) (free : v.isolated = false) :
      VStep v { v with record := { v.record with st := .cooling .merging } }
  /-- an OFF district that is isolated takes part in recovery (R24, R171) -/
  | wakesIsolated (v : View) (off : v.record.st = .off) (run : v.mode = .run) (held : v.isolated = true) :
      VStep v { v with record := { v.record with st := .isolated .queued } }
  /-- an ISOLATED district returns elsewhere (R24) -/
  | returnsTo (v : View) (r r' : ResumeTo) (st : v.record.st = .isolated r) (retained : r ≠ .coolRetained) :
      VStep v { v with record := { v.record with st := .isolated r' } }
  /-- an ISOLATED member of an episode receives its count (R75) -/
  | countRetained (v : View) (n : Nat) (st : v.record.st = .isolated .coolPending) (range : v.InRange → n ≤ 65535) :
      VStep v { v with
        record := { v.record with st := .isolated .coolRetained }, timer := { loaded .cool n with running := false } }
  /-- an onset on a member of an episode, or on a district whose entry or probe has been taken (R15 to R17) -/
  | onset (v : View) (r : ResumeTo) (merging : v.record.st = .cooling .merging) :
      VStep v { v with record := { v.record with st := .isolated r }, isolated := true }
  /-- an onset on a running count (R16) -/
  | onsetCounting (v : View) (counting : v.record.st = .cooling .counting) :
      VStep v { v with
        record := { v.record with st := .isolated .coolRetained }, isolated := true,
        timer := { v.timer with running := false, boundary := false } }
  /-- an onset on a lockout (R18) -/
  | onsetLocked (v : View) (cause : LockCause) (st : v.record.st = .locked cause .noLook) :
      VStep v { v with isolated := true, timer := Timer.empty }
  /-- an onset on a district that stands by (R15) -/
  | onsetOff (v : View) (st : v.record.st = .off ∨ ∃ r, v.record.st = .isolated r) :
      VStep v { v with isolated := true }
  /-- a release (R20) -/
  | released (v : View) (r : ResumeTo) (st : v.record.st = .isolated r) (retained : r ≠ .coolRetained) :
      VStep v { v with record := { v.record with st := .cooling .merging }, isolated := false }
  /-- a release with a retained count (R20) -/
  | resumes (v : View) (st : v.record.st = .isolated .coolRetained) :
      VStep v { v with
        record := { v.record with st := .cooling .counting }, isolated := false,
        timer := loaded .cool v.timer.count }
  /-- a release of a district that is not ISOLATED (R20) -/
  | freed (v : View) (st : ∀ r, v.record.st ≠ .isolated r) : VStep v { v with isolated := false }

/-- A chain of small changes. -/
abbrev VSteps : View → View → Prop := Relation.ReflTransGen VStep

variable {v w : View}

/-! ### States, by what they call for -/

theorem isLocked_iff {x : DistrictState} : isLocked x = true ↔ ∃ cause look, x = .locked cause look := by
  cases x <;> simp [isLocked]

theorem entryOf_eq_full {x : DistrictState} : entryOf x = some .full ↔ x = .queued := by
  rcases x with _ | _ | _ | _ | _ | _ | _ | ⟨_, _ | _ | _⟩ <;> simp [entryOf]

theorem entryOf_eq_look {x : DistrictState} : entryOf x = some .look ↔ ∃ cause, x = .locked cause .queued := by
  rcases x with _ | _ | _ | _ | _ | _ | _ | ⟨_, _ | _ | _⟩ <;> simp [entryOf]

theorem probeKindOf_eq_full {x : DistrictState} : probeKindOf x = some .full ↔ x = .probing := by
  rcases x with _ | _ | _ | _ | _ | _ | _ | ⟨_, _ | _ | _⟩ <;> simp [probeKindOf]

theorem probeKindOf_eq_look {x : DistrictState} :
    probeKindOf x = some .look ↔ ∃ cause, x = .locked cause .inFlight := by
  rcases x with _ | _ | _ | _ | _ | _ | _ | ⟨_, _ | _ | _⟩ <;> simp [probeKindOf]

/-- A district with an entry in a queue: its state says which. -/
theorem View.Agrees.entry_kind (h : v.Agrees) {f : FeedId} {k : EntryKind} {rest : Multiset EntryKind}
    (head : v.entries f = k ::ₘ rest) : f = v.cfg.feed ∧ entryOf v.record.st = some k ∧ rest = 0 := by
  rw [h.entries] at head
  split at head
  · next own =>
    cases hk : entryOf v.record.st with
    | none => simp [hk] at head
    | some k' =>
      simp only [hk, Option.toList_some, Multiset.coe_singleton, Multiset.singleton_eq_cons_iff] at head
      exact ⟨own, by rw [head.1], head.2⟩
  · simp at head

/-- What a grant takes its district from, and to (R106). -/
theorem View.Agrees.granted_from (h : v.Agrees) {f : FeedId} {k : EntryKind} {rest : Multiset EntryKind}
    (head : v.entries f = k ::ₘ rest) :
    (v.record.st = .queued ∧ grantedSt k v.record.st = .probing ∧ k = .full) ∨
      ∃ cause, v.record.st = .locked cause .queued ∧ grantedSt k v.record.st = .locked cause .inFlight ∧
        k = .look := by
  obtain ⟨-, entry, -⟩ := h.entry_kind head
  cases k with
  | full => exact .inl ⟨entryOf_eq_full.mp entry, rfl, rfl⟩
  | look =>
    obtain ⟨cause, st⟩ := entryOf_eq_look.mp entry
    exact .inr ⟨cause, st, by rw [st]; rfl, rfl⟩

/-- A district without an entry kind has no entry. -/
theorem View.Agrees.no_entries (h : v.Agrees) (none : entryOf v.record.st = none) (f : FeedId) : v.entries f = 0 := by
  rw [h.entries, none]
  split <;> rfl

/-- A district without a probe kind has no probe. -/
theorem View.Agrees.no_probes (h : v.Agrees) (none : probeKindOf v.record.st = none) (c : ChannelId) :
    v.probes c = .none := by
  cases hp : v.probes c with
  | none => rfl
  | some p =>
    have kind := (h.context c p hp).2.1
    rw [none] at kind
    cases kind

end Sys2Proof.Machine
end

section
/-! Every change in the life of a district keeps its state, its entries and its probe in agreement (R5, R11, R97, R112,
R173, R174). -/

namespace Sys2Proof.Machine

variable {v w : View}

/-! ### How agreement is made -/

/-- Out of its resting states a district is in a part in RUN (R173). -/
theorem View.Agrees.run (h : v.Agrees) (busy : atRest v.record.st = false) : v.mode = .run := by
  cases mode : v.mode with
  | standby => rw [(h.standby mode).1] at busy; cases busy
  | run => rfl

/-- An update of neither the state, the entries, the probes nor the feed. -/
theorem View.Agrees.same (h : v.Agrees) (entries : w.entries = v.entries) (probes : w.probes = v.probes)
    (feed : w.cfg.feed = v.cfg.feed) (st : w.record.st = v.record.st)
    (probation : w.record.probation = true → v.record.st = .live)
    (standby : w.mode = .standby → atRest v.record.st = true ∧ w.timer = Timer.empty) : w.Agrees where
  entries f := by rw [entries, feed, st, h.entries]
  context c p hp := by
    rw [probes] at hp
    rw [feed, st]
    exact h.context c p hp
  probing k hk := by
    rw [st] at hk
    rw [probes]
    exact h.probing k hk
  channel b c p q hp hq := by
    rw [probes] at hp hq
    exact h.channel b c p q hp hq
  probation := by rwa [st]
  standby := by rwa [st]

/-- A district with neither an entry nor a probe, in a state that calls for neither. -/
theorem View.Agrees.idle (entries : ∀ f, w.entries f = 0) (probes : ∀ c, w.probes c = none)
    (entry : entryOf w.record.st = none) (probe : probeKindOf w.record.st = none)
    (probation : w.record.probation = true → w.record.st = .live)
    (standby : w.mode = .standby → atRest w.record.st = true ∧ w.timer = Timer.empty) : w.Agrees where
  entries f := by
    rw [entries, entry]
    split <;> rfl
  context c p hp := by simp [probes] at hp
  probing k hk := by simp [probe] at hk
  channel b c p q hp := by simp [probes] at hp
  probation := probation
  standby := standby

/-- A district with its one entry in the queue of its feed, and no probe. -/
theorem View.Agrees.waiting {k : EntryKind} (entries : ∀ f, w.entries f = if f = w.cfg.feed then {k} else 0)
    (probes : ∀ c, w.probes c = none) (entry : entryOf w.record.st = some k)
    (probation : w.record.probation = true → w.record.st = .live) (run : w.mode = .run) : w.Agrees where
  entries f := by rw [entries, entry]; rfl
  context c p hp := by simp [probes] at hp
  probing k' hk := by
    cases k
    · rw [entryOf_eq_full.mp entry] at hk
      cases hk
    · obtain ⟨cause, st⟩ := entryOf_eq_look.mp entry
      rw [st] at hk
      cases hk
  channel b c p q hp := by simp [probes] at hp
  probation := probation
  standby standby := by rw [run] at standby; cases standby

/-- Probation stands in LIVE alone, so it is off elsewhere. -/
theorem View.Agrees.off_probation (h : v.Agrees) (st : v.record.st ≠ .live) : v.record.probation = false := by
  cases on : v.record.probation with
  | false => rfl
  | true => exact absurd (h.probation on) st

/-- A change between states that call for neither an entry nor a probe, outside LIVE and the resting states. -/
theorem View.Agrees.moves (h : v.Agrees) {x : DistrictState} (st : v.record.st = x)
    (quiet : entryOf x = none ∧ probeKindOf x = none) (busy : atRest x = false) (notLive : x ≠ .live)
    (same : w.entries = v.entries ∧ w.probes = v.probes ∧ w.mode = v.mode ∧ w.record.probation = v.record.probation)
    (calls : entryOf w.record.st = none ∧ probeKindOf w.record.st = none) : w.Agrees := by
  subst st
  obtain ⟨entries, probes, mode, probation⟩ := same
  refine .idle (fun f => ?_) (fun c => ?_) calls.1 calls.2 (fun on => ?_) (fun standby => ?_)
  · rw [entries, h.no_entries quiet.1]
  · rw [probes, h.no_probes quiet.2]
  · rw [probation, h.off_probation notLive] at on
    cases on
  · rw [mode, h.run busy] at standby
    cases standby

theorem followsMerging_quiet {x : DistrictState} (next : followsMerging x = true) :
    entryOf x = none ∧ probeKindOf x = none := by
  unfold followsMerging at next
  split at next
  · exact ⟨rfl, rfl⟩
  · exact ⟨rfl, rfl⟩
  · exact ⟨rfl, rfl⟩
  · cases next

/-! ### Probes and grants -/

theorem View.Agrees.probe (h : v.Agrees) {c : ChannelId} {p q : Probe} (own : v.probes c = some p)
    (onward : p.Onward q) : View.Agrees { v with probes := fun b => if b = c then some q else v.probes b } where
  entries := h.entries
  context b x hx := by
    dsimp only at hx
    split at hx
    · cases hx
      obtain ⟨feed, kind, look⟩ := h.context c p own
      exact ⟨onward.feed.trans feed, by rw [onward.kind]; exact kind, fun isLook =>
        onward.look (onward.kind.symm.trans isLook) (look (onward.kind.symm.trans isLook))⟩
    · exact h.context b x hx
  probing k hk := by
    obtain ⟨b, x, hx⟩ := h.probing k hk
    exact ⟨c, q, if_pos rfl⟩
  channel a b x y hx hy := by
    have held {b : ChannelId} {x : Probe} (hx : (if b = c then some q else v.probes b) = some x) :
        ∃ x', v.probes b = some x' := by
      split at hx
      · next same => exact ⟨p, by rw [same, own]⟩
      · exact ⟨x, hx⟩
    obtain ⟨x', hx'⟩ := held hx
    obtain ⟨y', hy'⟩ := held hy
    exact h.channel a b x' y' hx' hy'
  probation := h.probation
  standby := h.standby

theorem View.Agrees.granted (h : v.Agrees) {f : FeedId} {p : Probe} {rest : Multiset EntryKind} (c : ChannelId)
    (head : v.entries f = p.kind ::ₘ rest) (feed : p.feed = f) (stage : p.stage = .sense) (runs : p.pause = none) :
    View.Agrees { v with
      record := { v.record with st := grantedSt p.kind v.record.st }
      entries := fun g => if g = f then rest else v.entries g
      probes := fun b => if b = c then some p else v.probes b } := by
  obtain ⟨own, -, rfl⟩ := h.entry_kind head
  have calls : (∀ b, v.probes b = none) ∧ entryOf (grantedSt p.kind v.record.st) = none ∧
      probeKindOf (grantedSt p.kind v.record.st) = some p.kind ∧ v.record.st ≠ .live ∧ v.mode = .run := by
    rcases h.granted_from head with ⟨st, next, kind⟩ | ⟨cause, st, next, kind⟩ <;> rw [next, kind, st]
    · exact ⟨h.no_probes (st ▸ rfl), rfl, rfl, nofun, h.run (st ▸ rfl)⟩
    · exact ⟨h.no_probes (st ▸ rfl), rfl, rfl, nofun, h.run (st ▸ rfl)⟩
  obtain ⟨noProbe, noEntry, probing, notLive, run⟩ := calls
  have only {b : ChannelId} {x : Probe} (hx : (if b = c then some p else v.probes b) = some x) : b = c ∧ x = p := by
    split at hx
    · next same => exact ⟨same, (Option.some.inj hx).symm⟩
    · simp [noProbe] at hx
  refine ⟨fun g => ?_, fun b x hx => ?_, fun k hk => ⟨c, p, if_pos rfl⟩, fun a b x y hx hy => ?_, fun on => ?_,
    fun standby => ?_⟩
  · dsimp only
    rw [noEntry]
    by_cases hg : g = f
    · simp [hg]
    · rw [if_neg hg, h.entries, if_neg (fun e => hg (e.trans own.symm))]
      split <;> rfl
  · obtain ⟨-, rfl⟩ := only hx
    exact ⟨feed.trans own, probing, fun _ => by simp [lookStage, stage, runs, Stage.isSense]⟩
  · rw [(only hx).1, (only hy).1]
  · exact absurd (h.probation on) notLive
  · rw [run] at standby
    cases standby

/-! ### Every change -/

theorem VStep.agrees (step : VStep v w) (h : v.Agrees) : w.Agrees := by
  have idle {x : DistrictState} (st : v.record.st = x) (entry : entryOf x = none) (probe : probeKindOf x = none) :
      (∀ f, v.entries f = 0) ∧ ∀ c, v.probes c = none :=
    ⟨h.no_entries (st ▸ entry), h.no_probes (st ▸ probe)⟩
  have off {x : DistrictState} (st : v.record.st = x) (notLive : x ≠ .live) : v.record.probation = false :=
    h.off_probation (st ▸ notLive)
  have run {x : DistrictState} (st : v.record.st = x) (busy : atRest x = false) : v.mode = .run :=
    h.run (st ▸ busy)
  cases step with
  | record r st failures probation => exact h.same rfl rfl rfl st (by rw [probation]; exact h.probation) h.standby
  | monitor => exact h.same rfl rfl rfl rfl h.probation h.standby
  | swap => exact h.same rfl rfl rfl rfl h.probation h.standby
  | polarity => exact h.same rfl rfl rfl rfl h.probation h.standby
  | probe c p q own onward => exact h.probe own onward
  | globals => exact h.same rfl rfl rfl rfl h.probation h.standby
  | configured k n range limit feed =>
    rcases feed with feed | quiet
    · exact h.same rfl rfl feed rfl h.probation h.standby
    · obtain ⟨entry, probe⟩ := quiet h
      exact .idle (h.no_entries entry) (h.no_probes probe) entry probe h.probation h.standby
  | entered => exact h.same rfl rfl rfl rfl h.probation nofun
  | left =>
    have st : entryOf v.record.leaveRun.st = none ∧ probeKindOf v.record.leaveRun.st = none ∧
        atRest v.record.leaveRun.st = true := by
      unfold District.leaveRun
      cases hst : v.record.st <;> simp [entryOf, probeKindOf, atRest]
    have probation : v.record.leaveRun.probation = false := by
      unfold District.leaveRun
      cases hst : v.record.st <;> simp [off hst]
    exact .idle (fun _ => rfl) (fun _ => rfl) st.1 st.2.1 (fun on => by rw [probation] at on; cases on)
      fun _ => ⟨st.2.2, rfl⟩
  | tick =>
    exact h.same rfl rfl rfl rfl h.probation fun standby =>
      ⟨(h.standby standby).1, by dsimp only; rw [(h.standby standby).2]; rfl⟩
  | timerCleared => exact h.same rfl rfl rfl rfl h.probation fun standby => ⟨(h.standby standby).1, rfl⟩
  | timerLoaded p n may =>
    refine h.same rfl rfl rfl rfl h.probation fun standby => ?_
    obtain ⟨rests, empty⟩ := h.standby standby
    cases p with
    | cool => rw [may] at rests; cases rests
    | grant => rw [may] at rests; cases rests
    | probation => rw [h.probation may] at rests; cases rests
    | patrol =>
      rcases may with ⟨-, -, -, run⟩ | ⟨purpose, -⟩
      · rw [run] at standby; cases standby
      · rw [empty] at purpose; cases purpose
  | probationEnds => exact h.same rfl rfl rfl rfl nofun fun standby => ⟨(h.standby standby).1, rfl⟩
  | failures => exact h.same rfl rfl rfl rfl h.probation h.standby
  | liveEnds x live =>
    obtain ⟨entries, probes⟩ := idle live rfl rfl
    exact .idle entries probes rfl rfl nofun fun standby => by rw [run live rfl] at standby; cases standby
  | waitEnds st =>
    rcases st with st | st <;> exact h.moves st ⟨rfl, rfl⟩ rfl nofun ⟨rfl, rfl, rfl, rfl⟩ ⟨rfl, rfl⟩
  | follows x merging next =>
    exact h.moves merging ⟨rfl, rfl⟩ rfl nofun ⟨rfl, rfl, rfl, rfl⟩ (followsMerging_quiet next)
  | recovers merging =>
    obtain ⟨entries, probes⟩ := idle merging rfl rfl
    exact .idle entries probes rfl rfl (fun _ => rfl) fun standby => by rw [run merging rfl] at standby; cases standby
  | dequeued es queued none_left =>
    exact .idle (none_left h) (h.no_probes (by rw [queued]; rfl)) rfl rfl
      (fun on => by rw [off queued nofun] at on; cases on)
      fun standby => by rw [run queued rfl] at standby; cases standby
  | enqueued es merging placed =>
    exact .waiting (placed h) (idle merging rfl rfl).2 rfl (fun on => by rw [off merging nofun] at on; cases on)
      (run merging rfl)
  | lookRemoved cause es queued none_left =>
    exact .idle (none_left h) (h.no_probes (by rw [queued]; rfl)) rfl rfl
      (fun on => by rw [off queued nofun] at on; cases on)
      fun standby => by rw [run queued rfl] at standby; cases standby
  | lookPlaced cause es st free timer placed =>
    refine .waiting (placed h) (idle st rfl rfl).2 rfl (fun on => by rw [off st nofun] at on; cases on) ?_
    cases mode : v.mode with
    | standby => exact absurd (by rw [(h.standby mode).2]; rfl) timer
    | run => rfl
  | granted f c p rest head feed stage runs => exact h.granted c head feed stage runs
  | probeEnds ps probing window none_left =>
    have st := probing h
    exact .idle (h.no_entries (by rw [st]; rfl)) (none_left h) rfl rfl
      (fun on => by rw [off st nofun] at on; cases on) fun standby => by rw [run st rfl] at standby; cases standby
  | lookEnds ps look window none_left =>
    obtain ⟨cause, st⟩ := look h
    rw [st]
    exact .idle (h.no_entries (by rw [st]; rfl)) (none_left h) rfl rfl
      (fun on => by rw [off st nofun] at on; cases on) fun standby => by rw [run st rfl] at standby; cases standby
  | lookPasses ps n probed window none_left =>
    have quiet : (∀ f, v.entries f = 0) ∧ v.record.probation = false ∧ v.mode = .run := by
      rcases probed h with st | ⟨cause, st⟩ <;> exact ⟨h.no_entries (by rw [st]; rfl), off st nofun, run st rfl⟩
    obtain ⟨entries, probation, run⟩ := quiet
    exact .idle entries (none_left h) rfl rfl (fun on => by rw [probation] at on; cases on)
      fun standby => by rw [run] at standby; cases standby
  | rests st =>
    have quiet : (∀ f, v.entries f = 0) ∧ (∀ c, v.probes c = none) ∧ v.record.probation = false := by
      rcases st with ⟨r, st⟩ | ⟨cause, st⟩ <;> exact ⟨(idle st rfl rfl).1, (idle st rfl rfl).2, off st nofun⟩
    obtain ⟨entries, probes, probation⟩ := quiet
    exact .idle entries probes rfl rfl (fun on => by rw [probation] at on; cases on) fun _ => ⟨rfl, rfl⟩
  | wakes st running =>
    exact .idle (idle st rfl rfl).1 (idle st rfl rfl).2 rfl rfl (fun on => by rw [off st nofun] at on; cases on)
      fun standby => by rw [running] at standby; cases standby
  | wakesIsolated st running =>
    exact .idle (idle st rfl rfl).1 (idle st rfl rfl).2 rfl rfl (fun on => by rw [off st nofun] at on; cases on)
      fun standby => by rw [running] at standby; cases standby
  | returnsTo r r' st => exact h.moves st ⟨rfl, rfl⟩ rfl nofun ⟨rfl, rfl, rfl, rfl⟩ ⟨rfl, rfl⟩
  | countRetained n st => exact h.moves st ⟨rfl, rfl⟩ rfl nofun ⟨rfl, rfl, rfl, rfl⟩ ⟨rfl, rfl⟩
  | onset r st => exact h.moves st ⟨rfl, rfl⟩ rfl nofun ⟨rfl, rfl, rfl, rfl⟩ ⟨rfl, rfl⟩
  | onsetCounting st => exact h.moves st ⟨rfl, rfl⟩ rfl nofun ⟨rfl, rfl, rfl, rfl⟩ ⟨rfl, rfl⟩
  | onsetLocked => exact h.same rfl rfl rfl rfl h.probation fun standby => ⟨(h.standby standby).1, rfl⟩
  | onsetOff => exact h.same rfl rfl rfl rfl h.probation h.standby
  | released r st => exact h.moves st ⟨rfl, rfl⟩ rfl nofun ⟨rfl, rfl, rfl, rfl⟩ ⟨rfl, rfl⟩
  | resumes st => exact h.moves st ⟨rfl, rfl⟩ rfl nofun ⟨rfl, rfl, rfl, rfl⟩ ⟨rfl, rfl⟩
  | freed => exact h.same rfl rfl rfl rfl h.probation h.standby

end Sys2Proof.Machine
end

section
/-! Every change in the life of a district keeps it out of service while it is isolated (R11, R15 to R20), F within the
lockout limit (R4), and polarity and swap windows where they may stand (R8, R26, R35). -/

namespace Sys2Proof.Machine

variable {v w : View}

/-! ### Configuration in range (R2, R91) -/

theorem VStep.inRange (step : VStep v w) (h : v.InRange) : w.InRange := by
  cases step with
  | globals g range => exact ⟨h.cfg, range h.globals⟩
  | configured k n range => exact ⟨range h.cfg, h.globals⟩
  | _ => exact ⟨h.cfg, h.globals⟩

/-! ### Isolation (R11) -/

/-- A district in a state that isolation shuts out is not isolated. -/
theorem View.IsolationOk.free (h : v.IsolationOk) {x : DistrictState} (st : v.record.st = x)
    (out : mayBeIsolated x = false) : v.isolated = false := by
  cases held : v.isolated with
  | false => rfl
  | true =>
    have may := h.held held
    rw [st, out] at may
    cases may

/-- A district that is not isolated may take every state but ISOLATED. -/
theorem View.IsolationOk.of_free (free : w.isolated = false) (st : ∀ r, w.record.st ≠ .isolated r) : w.IsolationOk :=
  ⟨fun held => absurd (free.symm.trans held) Bool.false_ne_true, fun r isolated => absurd isolated (st r)⟩

/-- An isolated district may take the states that isolation allows. -/
theorem View.IsolationOk.of_held (held : w.isolated = true) (st : mayBeIsolated w.record.st = true) : w.IsolationOk :=
  ⟨fun _ => st, fun _ _ => held⟩

theorem View.IsolationOk.same (h : v.IsolationOk) (isolated : w.isolated = v.isolated)
    (st : w.record.st = v.record.st) : w.IsolationOk :=
  ⟨fun held => by rw [st]; exact h.held (isolated ▸ held),
    fun r x => by rw [isolated]; exact h.isolated r (st ▸ x)⟩

theorem followsMerging_notIsolated {x : DistrictState} (next : followsMerging x = true) (r : ResumeTo) :
    x ≠ .isolated r := by
  rintro rfl
  cases next

theorem leaveRun_mayBeIsolated (r : District) : mayBeIsolated r.leaveRun.st = true := by
  unfold District.leaveRun
  cases r.st <;> rfl

theorem leaveRun_notIsolated (r : District) (x : ResumeTo) : r.leaveRun.st ≠ .isolated x := by
  unfold District.leaveRun
  cases r.st <;> simp

/-- The district that a grant takes had an entry, which no isolated district has. -/
theorem View.IsolationOk.granted (h : v.IsolationOk) (agrees : v.Agrees) {f : FeedId} {k : EntryKind}
    {rest : Multiset EntryKind} (head : v.entries f = k ::ₘ rest) :
    v.isolated = false ∧ ∀ r, grantedSt k v.record.st ≠ .isolated r := by
  rcases agrees.granted_from head with ⟨st, next, -⟩ | ⟨cause, st, next, -⟩
  · exact ⟨h.free st rfl, fun r => by rw [next]; exact nofun⟩
  · exact ⟨h.free st rfl, fun r => by rw [next]; exact nofun⟩

theorem VStep.isolationOk (step : VStep v w) (agrees : v.Agrees) (h : v.IsolationOk) : w.IsolationOk := by
  cases step with
  | record r st => exact h.same rfl st
  | left =>
    exact ⟨fun _ => leaveRun_mayBeIsolated v.record, fun r x => absurd x (leaveRun_notIsolated v.record r)⟩
  | liveEnds x live => exact .of_free (h.free live rfl) nofun
  | waitEnds st =>
    rcases st with st | st
    · exact .of_free (h.free st rfl) nofun
    · exact .of_free (h.free st rfl) nofun
  | follows x merging next => exact .of_free (h.free merging rfl) (followsMerging_notIsolated next)
  | recovers merging => exact .of_free (h.free merging rfl) nofun
  | dequeued es queued => exact .of_free (h.free queued rfl) nofun
  | enqueued es merging => exact .of_free (h.free merging rfl) nofun
  | lookRemoved cause es queued => exact .of_free (h.free queued rfl) nofun
  | lookPlaced cause es st free => exact .of_free free nofun
  | granted f c p rest head => exact .of_free (h.granted agrees head).1 (h.granted agrees head).2
  | probeEnds ps probing => exact .of_free (h.free (probing agrees) rfl) nofun
  | lookEnds ps look =>
    obtain ⟨cause, st⟩ := look agrees
    exact .of_free (h.free st rfl) (by rw [st]; exact nofun)
  | lookPasses ps n probed =>
    rcases probed agrees with st | ⟨cause, st⟩
    · exact .of_free (h.free st rfl) nofun
    · exact .of_free (h.free st rfl) nofun
  | rests => exact ⟨fun _ => rfl, nofun⟩
  | wakes off run free => exact .of_free free nofun
  | wakesIsolated off run held => exact .of_held held rfl
  | returnsTo r r' st => exact .of_held (h.isolated r st) rfl
  | countRetained n st => exact .of_held (h.isolated _ st) rfl
  | onset => exact .of_held rfl rfl
  | onsetCounting => exact .of_held rfl rfl
  | onsetLocked cause st => exact .of_held rfl (by dsimp only; rw [st]; rfl)
  | onsetOff st =>
    rcases st with st | ⟨r, st⟩
    · exact .of_held rfl (by dsimp only; rw [st]; rfl)
    · exact .of_held rfl (by dsimp only; rw [st]; rfl)
  | released => exact .of_free rfl nofun
  | resumes => exact .of_free rfl nofun
  | freed st => exact .of_free rfl st
  | _ => exact h.same rfl rfl

/-! ### Failure counts (R4) -/

/-- A district that is not LOCKED has F below the lockout limit. -/
theorem View.FailuresOk.below (h : v.FailuresOk) {x : DistrictState} (st : v.record.st = x)
    (unlocked : isLocked x = false) : v.record.failures < v.cfg.lockoutLimit := by
  refine lt_of_le_of_ne h.1 fun full => ?_
  have locked := h.2 full
  rw [st, unlocked] at locked
  cases locked

theorem View.FailuresOk.of_below (below : w.record.failures < w.cfg.lockoutLimit) : w.FailuresOk :=
  ⟨below.le, fun full => absurd full below.ne⟩

/-- F and the limit stand, and a LOCKED district stays so. -/
theorem View.FailuresOk.same (h : v.FailuresOk) (failures : w.record.failures = v.record.failures)
    (limit : w.cfg.lockoutLimit = v.cfg.lockoutLimit)
    (locked : isLocked v.record.st = true → isLocked w.record.st = true) : w.FailuresOk := by
  unfold View.FailuresOk
  rw [failures, limit]
  exact ⟨h.1, fun full => locked (h.2 full)⟩

theorem View.FailuresOk.of_limit
    (limit : w.record.failures < w.cfg.lockoutLimit ∨
      (isLocked w.record.st = true ∧ w.record.failures ≤ w.cfg.lockoutLimit)) : w.FailuresOk := by
  rcases limit with below | ⟨locked, le⟩
  · exact .of_below below
  · exact ⟨le, fun _ => locked⟩

theorem VStep.failuresOk (step : VStep v w) (agrees : v.Agrees) (range : v.InRange) (h : v.FailuresOk) :
    w.FailuresOk := by
  have positive : 0 < v.cfg.lockoutLimit := range.cfg.lockoutLimit.1
  have to_locked {r : District} (failures : r.failures = v.record.failures) (st : isLocked r.st = true) :
      View.FailuresOk { v with record := r } := h.same failures rfl fun _ => st
  cases step with
  | record r st failures => exact h.same failures rfl (by dsimp only; rw [st]; exact id)
  | configured k n _ limit =>
    rcases limit with ⟨limit, failures⟩ | limit
    · exact h.same failures limit id
    · exact .of_limit (limit range.cfg)
  | left =>
    cases st : v.record.st with
    | locked cause look =>
      exact h.same (by simp [District.leaveRun, st]) rfl fun _ => by simp [District.leaveRun, st, isLocked]
    | off => exact .of_below (by simpa [District.leaveRun, st] using h.below st rfl)
    | _ => exact .of_below (by simpa [District.leaveRun, st] using positive)
  | failures n below => exact .of_limit (below range)
  | liveEnds x live => exact .of_below (h.below live rfl)
  | waitEnds st =>
    rcases st with st | st
    · exact .of_below (h.below st rfl)
    · exact .of_below (h.below st rfl)
  | follows x merging next => exact .of_below (h.below merging rfl)
  | recovers merging => exact .of_below (h.below merging rfl)
  | dequeued es queued => exact .of_below (h.below queued rfl)
  | enqueued es merging => exact .of_below (h.below merging rfl)
  | lookRemoved cause es queued => exact h.same rfl rfl fun _ => rfl
  | lookPlaced cause es st free => exact h.same rfl rfl fun _ => rfl
  | granted f c p rest head =>
    rcases agrees.granted_from head with ⟨st, -, -⟩ | ⟨cause, st, next, -⟩
    · exact .of_below (h.below st rfl)
    · exact h.same rfl rfl fun _ => by dsimp only; rw [next]; rfl
  | probeEnds ps probing => exact .of_below (h.below (probing agrees) rfl)
  | lookEnds ps look =>
    obtain ⟨cause, st⟩ := look agrees
    exact h.same rfl rfl fun _ => by rw [st]; rfl
  | lookPasses ps n probed window none_left below => exact .of_below (below range)
  | rests => exact .of_below positive
  | wakes off => exact .of_below (h.below off rfl)
  | wakesIsolated off => exact .of_below (h.below off rfl)
  | returnsTo r r' st => exact .of_below (h.below st rfl)
  | countRetained n st => exact .of_below (h.below st rfl)
  | onset r st => exact .of_below (h.below st rfl)
  | onsetCounting st => exact .of_below (h.below st rfl)
  | released r st => exact .of_below (h.below st rfl)
  | resumes st => exact .of_below (h.below st rfl)
  | _ => exact h.same rfl rfl id

/-! ### Polarity and swap windows (R8, R35) -/

/-- An update that leaves the district's swap window, if one stands, where it may. -/
theorem View.PolarityOk.same (h : v.PolarityOk) (reversing : w.cfg.reversing = v.cfg.reversing)
    (polarity : w.record.polarity = v.record.polarity)
    (window : w.monitor.window.isSome → v.monitor.window.isSome ∧ (v.MaySwap → w.MaySwap)) : w.PolarityOk where
  normal := by
    rw [reversing, polarity]
    exact h.normal
  window present := by
    obtain ⟨before, keeps⟩ := window present
    rw [reversing]
    exact ⟨(h.window before).1, keeps (h.window before).2⟩

/-- A district with no swap window stands in LIVE or in a running CONFIRM, or may go anywhere. -/
theorem View.PolarityOk.none (h : v.PolarityOk) (reversing : w.cfg.reversing = v.cfg.reversing)
    (polarity : w.record.polarity = v.record.polarity) (window : w.monitor.window = .none) : w.PolarityOk :=
  h.same reversing polarity fun present => by rw [window] at present; cases present

/-- A swap window stands on a district that has a probe or is LIVE. -/
theorem View.PolarityOk.no_window (h : v.PolarityOk) (agrees : v.Agrees) {x : DistrictState} (st : v.record.st = x)
    (notLive : x ≠ .live) (probe : probeKindOf x ≠ some .full) : v.monitor.window = .none := by
  cases window : v.monitor.window with
  | none => rfl
  | some _ =>
    obtain ⟨-, live | ⟨c, p, hp, confirm, runs⟩⟩ := h.window (by rw [window]; rfl)
    · exact absurd (st.symm.trans live) notLive
    · obtain ⟨-, kind, look⟩ := agrees.context c p hp
      cases hk : p.kind with
      | full => exact absurd (by rw [← st, kind, hk]) probe
      | look =>
        have stands := look hk
        cases stage : p.stage <;>
          simp_all [lookStage, Stage.isConfirm, Stage.isSense, Stage.isPrecharge]

theorem View.PolarityOk.still_no_window (h : v.PolarityOk) (agrees : v.Agrees) (still : v.Still) :
    v.monitor.window = .none := by
  rcases still with standby | off | ⟨r, isolated⟩ | locked
  · have rests := (agrees.standby standby).1
    refine h.no_window agrees rfl (fun live => ?_) (fun probing => ?_)
    · rw [live] at rests; cases rests
    · rw [probeKindOf_eq_full.mp probing] at rests; cases rests
  · exact h.no_window agrees off nofun nofun
  · exact h.no_window agrees isolated nofun nofun
  · obtain ⟨cause, look, st⟩ := isLocked_iff.mp locked
    refine h.no_window agrees st nofun fun probing => ?_
    cases probeKindOf_eq_full.mp probing

theorem leaveRun_polarity (r : District) : r.leaveRun.polarity = .normal := by
  unfold District.leaveRun
  cases r.st <;> rfl

theorem VStep.polarityOk (step : VStep v w) (agrees : v.Agrees) (h : v.PolarityOk) : w.PolarityOk := by
  have gone {x : DistrictState} (st : v.record.st = x) (notLive : x ≠ .live) (probe : probeKindOf x ≠ some .full) :=
    h.no_window agrees st notLive probe
  cases step with
  | record r st _ _ polarity =>
    exact h.same rfl polarity fun present =>
      ⟨present, by unfold View.MaySwap; dsimp only; rw [st]; exact id⟩
  | monitor m window => exact h.same rfl rfl fun present => ⟨window present, id⟩
  | swap m x reversing maySwap =>
    exact ⟨fun off => absurd (off.symm.trans reversing) Bool.false_ne_true, fun _ => ⟨reversing, maySwap⟩⟩
  | polarity x may =>
    refine ⟨fun off => ?_, h.window⟩
    rcases may with present | normal
    · dsimp only at off
      rw [(h.window present).1] at off
      cases off
    · exact normal
  | probe c p q own onward window =>
    refine h.same rfl rfl fun present => ⟨present, ?_⟩
    rintro (live | ⟨b, x, hx, confirms⟩)
    · exact .inl live
    · obtain rfl := agrees.channel b c x p hx own
      obtain rfl := Option.some.inj (hx.symm.trans own)
      rcases window confirms with onwards | none
      · exact .inr ⟨b, q, if_pos rfl, onwards⟩
      · dsimp only at present
        rw [none] at present
        cases present
  | configured k n _ _ _ _ reversing =>
    rcases reversing with same | on | ⟨normal, still⟩
    · exact h.same same rfl fun present => ⟨present, id⟩
    · exact ⟨fun off => absurd (off.symm.trans on) Bool.false_ne_true, fun present => ⟨on, (h.window present).2⟩⟩
    · have none := h.still_no_window agrees still
      exact ⟨fun _ => normal, fun present => by dsimp only at present; rw [none] at present; cases present⟩
  | left => exact ⟨fun _ => leaveRun_polarity v.record, nofun⟩
  | liveEnds x live window => exact h.none rfl rfl window
  | waitEnds st =>
    rcases st with st | st
    · exact h.none rfl rfl (gone st nofun nofun)
    · exact h.none rfl rfl (gone st nofun nofun)
  | follows x merging => exact h.none rfl rfl (gone merging nofun nofun)
  | recovers merging => exact h.none rfl rfl (gone merging nofun nofun)
  | dequeued es queued => exact h.none rfl rfl (gone queued nofun nofun)
  | enqueued es merging => exact h.none rfl rfl (gone merging nofun nofun)
  | lookRemoved cause es queued => exact h.none rfl rfl (gone queued nofun nofun)
  | lookPlaced cause es st => exact h.none rfl rfl (gone st nofun nofun)
  | granted f c p rest head =>
    rcases agrees.granted_from head with ⟨st, -, -⟩ | ⟨cause, st, -, -⟩
    · exact h.none rfl rfl (gone st nofun nofun)
    · exact h.none rfl rfl (gone st nofun nofun)
  | probeEnds ps probing window => exact h.none rfl rfl (window agrees)
  | lookEnds ps look window => exact h.none rfl rfl (window agrees)
  | lookPasses ps n probed window => exact h.none rfl rfl (window agrees)
  | rests st =>
    rcases st with ⟨r, st⟩ | ⟨cause, st⟩
    · exact h.none rfl rfl (gone st nofun nofun)
    · exact h.none rfl rfl (gone st nofun nofun)
  | wakes off => exact h.none rfl rfl (gone off nofun nofun)
  | wakesIsolated off => exact h.none rfl rfl (gone off nofun nofun)
  | returnsTo r r' st => exact h.none rfl rfl (gone st nofun nofun)
  | countRetained n st => exact h.none rfl rfl (gone st nofun nofun)
  | onset r st => exact h.none rfl rfl (gone st nofun nofun)
  | onsetCounting st => exact h.none rfl rfl (gone st nofun nofun)
  | released r st => exact h.none rfl rfl (gone st nofun nofun)
  | resumes st => exact h.none rfl rfl (gone st nofun nofun)
  | _ => exact h.same rfl rfl fun present => ⟨present, id⟩

end Sys2Proof.Machine
end

section
/-! Every change in the life of a district keeps its timer in a purpose that fits its state, with its mode and its count
(R78 to R81), and its counters, integrator and samples in their ranges (R7, R26, R27). -/

namespace Sys2Proof.Machine

variable {v w : View}

/-! ### Timers (R78, R81) -/

/-- A timer of purpose `p`, running or stopped, fits the district (R81). -/
def View.Fits (v : View) (p : Purpose) (running : Bool) : Prop :=
  match p, running with
  | .cool, true => v.record.st = .cooling .counting
  | .cool, false => v.record.st = .isolated .coolRetained
  | .grant, true => v.record.st = .awaitingGrant
  | .probation, true => v.record.st = .live ∧ v.record.probation = true
  | .patrol, true => isLocked v.record.st = true ∧ v.cfg.patrol = true ∧ v.isolated = false ∧ v.mode = .run
  | _, false => False

theorem View.timerFits_iff : v.timerFits = true ↔
    (v.timer.purpose = none ∧ v.timer = Timer.empty) ∨
      ∃ p, v.timer.purpose = some p ∧ v.Fits p v.timer.running := by
  unfold View.timerFits
  rcases v.timer.purpose with _ | _ | _ | _ | _ <;> rcases v.timer.running with _ | _ <;>
    simp [View.Fits, and_assoc]

theorem View.TimerOk.empty (h : w.timer = Timer.empty) : w.TimerOk := by
  constructor
  · exact View.timerFits_iff.mpr (.inl ⟨by rw [h]; rfl, h⟩)
  · rw [h]; rfl
  · rw [h]; exact ⟨Nat.zero_le _, nofun⟩

/-- The timer stands, and a purpose that fitted still fits. -/
theorem View.TimerOk.same (h : v.TimerOk) (timer : w.timer = v.timer)
    (fits : ∀ p, v.timer.purpose = some p → v.Fits p v.timer.running → w.Fits p v.timer.running) : w.TimerOk := by
  refine ⟨View.timerFits_iff.mpr ?_, by rw [timer]; exact h.mode, by rw [timer]; exact h.count⟩
  rw [timer]
  rcases View.timerFits_iff.mp h.fits with empty | ⟨p, purpose, fit⟩
  · exact .inl empty
  · exact .inr ⟨p, purpose, fits p purpose fit⟩

/-- A loaded timer, running or stopped, whose purpose fits. -/
theorem View.TimerOk.loaded {p : Purpose} {n : Nat} {running : Bool}
    (timer : w.timer = { Machine.loaded p n with running := running }) (fits : w.Fits p running) (range : n ≤ 65535) :
    w.TimerOk := by
  refine ⟨View.timerFits_iff.mpr (.inr ⟨p, by rw [timer]; rfl, by rw [timer]; exact fits⟩), ?_, ?_⟩
  · rw [timer]
    cases p <;> rfl
  · rw [timer]
    simp only [Machine.loaded]
    omega

/-- In a state that no purpose fits the timer is empty. -/
theorem View.TimerOk.no_timer (h : v.TimerOk) (unfit : ∀ p running, ¬ v.Fits p running) : v.timer = Timer.empty := by
  rcases View.timerFits_iff.mp h.fits with ⟨-, empty⟩ | ⟨p, -, fit⟩
  · exact empty
  · exact absurd fit (unfit p _)

/-- The states that a timer may have a purpose in (R81). -/
def mayTime (x : DistrictState) : Bool :=
  match x with
  | .live => true
  | .cooling .counting => true
  | .awaitingGrant => true
  | .isolated .coolRetained => true
  | .locked _ _ => true
  | _ => false

theorem View.Fits.mayTime {p : Purpose} {running : Bool} (h : v.Fits p running) :
    Machine.mayTime v.record.st = true := by
  cases p <;> cases running <;> simp only [View.Fits] at h
  case cool.false => rw [h]; rfl
  case cool.true => rw [h]; rfl
  case grant.true => rw [h]; rfl
  case probation.true => rw [h.1]; rfl
  case patrol.true =>
    obtain ⟨cause, look, st⟩ := isLocked_iff.mp h.1
    rw [st]
    rfl

theorem View.TimerOk.timeless (h : v.TimerOk) {x : DistrictState} (st : v.record.st = x)
    (timeless : Machine.mayTime x = false) : v.timer = Timer.empty :=
  h.no_timer fun p running fits => by
    have may := fits.mayTime
    rw [st, timeless] at may
    cases may

/-- Between LOCKED and LOCKED a PATROL timer stays (R88). -/
theorem View.Fits.locked {p : Purpose} {running : Bool} (h : v.Fits p running) {cause : LockCause} {look : LookStatus}
    (before : v.record.st = .locked cause look) (after : isLocked w.record.st = true) (cfg : w.cfg = v.cfg)
    (isolated : w.isolated = v.isolated) (mode : w.mode = v.mode) : w.Fits p running := by
  cases p <;> cases running <;> simp_all [View.Fits]

/-- Where the state stands, a purpose still fits that fitted, if it is not PATROL or still has its conditions (R88). -/
theorem View.Fits.same_state {p : Purpose} {running : Bool} (h : v.Fits p running) (st : w.record.st = v.record.st)
    (probation : w.record.probation = v.record.probation)
    (patrol : isLocked v.record.st = true → v.cfg.patrol = true → v.isolated = false → v.mode = .run →
      w.cfg.patrol = true ∧ w.isolated = false ∧ w.mode = .run) : w.Fits p running := by
  cases p <;> cases running <;> simp only [View.Fits] at h ⊢
  case cool.false => rw [st, h]
  case cool.true => rw [st, h]
  case grant.true => rw [st, h]
  case probation.true => rwa [st, probation]
  case patrol.true =>
    obtain ⟨locked, on, free, run⟩ := h
    exact ⟨st ▸ locked, patrol locked on free run⟩

theorem View.Fits.live {p : Purpose} {running : Bool} (h : v.Fits p running) (live : v.record.st = .live) :
    v.record.probation = true := by
  cases p <;> cases running <;> simp_all [View.Fits, isLocked]

theorem View.Fits.counting {p : Purpose} {running : Bool} (h : v.Fits p running)
    (counting : v.record.st = .cooling .counting) : p = .cool := by
  cases p <;> cases running <;> simp_all [View.Fits, isLocked]

/-- A tick keeps the purpose, the mode and the running flag of a timer, and a count in its range (R80). -/
theorem View.TimerOk.tick (h : v.TimerOk) : View.TimerOk { v with timer := v.timer.tick } := by
  have kept : v.timer.tick.purpose = v.timer.purpose ∧ v.timer.tick.mode = v.timer.mode ∧
      v.timer.tick.running = v.timer.running := by
    unfold Timer.tick
    split
    · split <;> exact ⟨rfl, rfl, rfl⟩
    · exact ⟨rfl, rfl, rfl⟩
  have count : v.timer.tick.count ≤ v.timer.count ∧ (1 ≤ v.timer.count → 1 ≤ v.timer.tick.count) := by
    unfold Timer.tick
    split
    · split
      · exact ⟨le_rfl, id⟩
      · next more => exact ⟨Nat.sub_le _ _, fun _ => by dsimp only; omega⟩
    · exact ⟨le_rfl, id⟩
  obtain ⟨purpose, mode, running⟩ := kept
  rcases View.timerFits_iff.mp h.fits with ⟨-, empty⟩ | ⟨p, own, fit⟩
  · exact .empty (by dsimp only; rw [empty]; rfl)
  · refine ⟨View.timerFits_iff.mpr (.inr ⟨p, purpose.trans own, ?_⟩), ?_, ?_⟩
    · dsimp only
      rw [running]
      exact fit
    · dsimp only
      rw [mode, purpose]
      exact h.mode
    · exact ⟨count.1.trans h.count.1, fun some => count.2 (h.count.2 (purpose ▸ some))⟩

theorem VStep.timerOk (step : VStep v w) (agrees : v.Agrees) (range : v.InRange) (h : v.TimerOk) : w.TimerOk := by
  have stays {x : DistrictState} (st : v.record.st = x) (timeless : mayTime x = false) (timer : w.timer = v.timer) :
      w.TimerOk := .empty (timer.trans (h.timeless st timeless))
  have lockout {cause : LockCause} {look : LookStatus} (st : v.record.st = .locked cause look)
      (timer : w.timer = v.timer) (after : isLocked w.record.st = true) (cfg : w.cfg = v.cfg)
      (isolated : w.isolated = v.isolated) (mode : w.mode = v.mode) : w.TimerOk :=
    h.same timer fun _ _ fits => fits.locked st after cfg isolated mode
  cases step with
  | record r st _ probation =>
    exact h.same rfl fun p _ fits => fits.same_state st probation fun _ on free run => ⟨on, free, run⟩
  | configured k n _ _ _ patrol =>
    rcases patrol with same | on | unlocked | empty
    · exact h.same rfl fun p _ fits => fits.same_state rfl rfl fun _ on free run => ⟨same.trans on, free, run⟩
    · exact h.same rfl fun p _ fits => fits.same_state rfl rfl fun _ _ free run => ⟨on, free, run⟩
    · exact h.same rfl fun p _ fits => fits.same_state rfl rfl fun locked =>
        absurd (unlocked.symm.trans locked) Bool.false_ne_true
    · exact .empty empty
  | entered standby => exact .empty (agrees.standby standby).2
  | left => exact .empty rfl
  | tick => exact h.tick
  | timerCleared => exact .empty rfl
  | timerLoaded p n may bound =>
    refine .loaded (running := true) rfl ?_ (bound range)
    cases p with
    | cool => exact may
    | grant => exact may
    | probation => exact ⟨agrees.probation may, may⟩
    | patrol =>
      rcases may with may | ⟨purpose, running⟩
      · exact may
      · rcases View.timerFits_iff.mp h.fits with ⟨none, -⟩ | ⟨p, own, fit⟩
        · rw [none] at purpose; cases purpose
        · rw [purpose] at own
          cases own
          rw [running] at fit
          exact fit
  | probationEnds => exact .empty rfl
  | liveEnds x live window timer =>
    rcases timer with empty | ⟨same, ended⟩
    · exact .empty empty
    · exact .empty (same.trans (h.no_timer fun p running fits =>
        absurd (ended.symm.trans (fits.live live)) Bool.false_ne_true))
  | waitEnds => exact .empty rfl
  | follows x merging => exact stays merging rfl rfl
  | recovers merging => exact stays merging rfl rfl
  | dequeued es queued => exact stays queued rfl rfl
  | enqueued es merging => exact stays merging rfl rfl
  | lookRemoved cause es queued => exact lockout queued rfl rfl rfl rfl rfl
  | lookPlaced cause es st => exact lockout st rfl rfl rfl rfl rfl
  | granted f c p rest head =>
    rcases agrees.granted_from head with ⟨st, -, -⟩ | ⟨cause, st, next, -⟩
    · exact stays st rfl rfl
    · exact lockout st rfl (by dsimp only; rw [next]; rfl) rfl rfl rfl
  | probeEnds ps probing => exact stays (probing agrees) rfl rfl
  | lookEnds ps look =>
    obtain ⟨cause, st⟩ := look agrees
    exact lockout st rfl (by dsimp only; rw [st]; rfl) rfl rfl rfl
  | lookPasses => exact .empty rfl
  | rests => exact .empty rfl
  | wakes off => exact stays off rfl rfl
  | wakesIsolated off => exact stays off rfl rfl
  | returnsTo r r' st retained =>
    refine stays st ?_ rfl
    cases r with
    | coolRetained => exact absurd rfl retained
    | _ => rfl
  | countRetained n st bound => exact .loaded (running := false) rfl rfl (bound range)
  | onset r merging => exact stays merging rfl rfl
  | onsetCounting counting =>
    rcases View.timerFits_iff.mp h.fits with ⟨-, empty⟩ | ⟨p, own, fit⟩
    · exact .empty (by dsimp only; rw [empty]; rfl)
    · obtain rfl := fit.counting counting
      exact ⟨View.timerFits_iff.mpr (.inr ⟨.cool, own, rfl⟩), h.mode, h.count⟩
  | onsetLocked => exact .empty rfl
  | onsetOff st =>
    refine h.same rfl fun p _ fits => fits.same_state rfl rfl fun locked => ?_
    rcases st with st | ⟨r, st⟩
    · rw [st] at locked; cases locked
    · rw [st] at locked; cases locked
  | released r st retained =>
    refine stays st ?_ rfl
    cases r with
    | coolRetained => exact absurd rfl retained
    | _ => rfl
  | resumes st => exact .loaded (running := true) rfl rfl h.count.1
  | freed st => exact h.same rfl fun p _ fits => fits.same_state rfl rfl fun _ on _ run => ⟨on, rfl, run⟩
  | _ => exact h.same rfl fun p _ fits => fits

/-! ### Counters, integrators and samples (R7, R26, R27) -/

theorem View.CountersOk.same (h : v.CountersOk) (trips : w.record.trips = v.record.trips)
    (swaps : w.record.swaps = v.record.swaps) (monitor : w.monitor = v.monitor) : w.CountersOk :=
  ⟨trips ▸ h.trips, swaps ▸ h.swaps, monitor ▸ h.integrator, monitor ▸ h.history⟩

theorem leaveRun_counters (r : District) : r.leaveRun.trips = r.trips ∧ r.leaveRun.swaps = r.swaps := by
  unfold District.leaveRun
  cases r.st <;> exact ⟨rfl, rfl⟩

theorem VStep.countersOk (step : VStep v w) (h : v.CountersOk) : w.CountersOk := by
  cases step with
  | record r _ _ _ _ trips swaps => exact ⟨trips h.trips, swaps h.swaps, h.integrator, h.history⟩
  | monitor m _ integrator history => exact ⟨h.trips, h.swaps, integrator h.integrator, history h.history⟩
  | swap m x _ _ integrator history => exact ⟨h.trips, h.swaps, integrator h.integrator, by rw [history]; exact h.history⟩
  | left =>
    obtain ⟨trips, swaps⟩ := leaveRun_counters v.record
    exact ⟨trips ▸ h.trips, swaps ▸ h.swaps, Nat.zero_le _, h.history⟩
  | _ => exact h.same rfl rfl rfl

/-! ### Chains of changes -/

section
variable (steps : VSteps v w)
include steps

theorem VSteps.agrees (h : v.Agrees) : w.Agrees := by
  induction steps with
  | refl => exact h
  | tail _ step ih => exact step.agrees ih

theorem VSteps.inRange (h : v.InRange) : w.InRange := by
  induction steps with
  | refl => exact h
  | tail _ step ih => exact step.inRange ih

theorem VSteps.isolationOk (agrees : v.Agrees) (h : v.IsolationOk) : w.IsolationOk := by
  induction steps with
  | refl => exact h
  | tail steps step ih => exact step.isolationOk (VSteps.agrees steps agrees) ih

theorem VSteps.failuresOk (agrees : v.Agrees) (range : v.InRange) (h : v.FailuresOk) : w.FailuresOk := by
  induction steps with
  | refl => exact h
  | tail steps step ih => exact step.failuresOk (VSteps.agrees steps agrees) (VSteps.inRange steps range) ih

theorem VSteps.polarityOk (agrees : v.Agrees) (h : v.PolarityOk) : w.PolarityOk := by
  induction steps with
  | refl => exact h
  | tail steps step ih => exact step.polarityOk (VSteps.agrees steps agrees) ih

theorem VSteps.timerOk (agrees : v.Agrees) (range : v.InRange) (h : v.TimerOk) : w.TimerOk := by
  induction steps with
  | refl => exact h
  | tail steps step ih => exact step.timerOk (VSteps.agrees steps agrees) (VSteps.inRange steps range) ih

theorem VSteps.countersOk (h : v.CountersOk) : w.CountersOk := by
  induction steps with
  | refl => exact h
  | tail _ step ih => exact step.countersOk ih
end

end Sys2Proof.Machine
end

section
/-! The small changes of the part: every command, and the idle period, is a chain of them. Each law of the part is then
a law that every small change keeps. -/

namespace Sys2Proof.Machine

/-- The error counters of the line stand in their ranges (R181). -/
structure Line.InRange (l : Line) : Prop where
  checkErrors : l.checkErrors ≤ 65535
  frameErrors : l.frameErrors ≤ 65535
  replyCollisions : l.replyCollisions ≤ 65535

/-- State `u` is state `t` with other holders, joints, covers and slots: what an event on isolation sets changes before
the districts take the change (R14, R153). -/
structure Overlay (t u : State) : Prop where
  same : u = { t with
    districts := u.districts, joints := u.joints, slots := u.slots, cfg := { t.cfg with joints := u.cfg.joints } }
  holders : ∀ d, u.district d = { t.district d with holders := (u.district d).holders }
  range : (∀ j, (t.jcfg j).InRange) → ∀ j, (u.jcfg j).InRange

/-- One small change of the part. -/
inductive Change : State → State → Prop
  /-- the place of a sample in a sample period (R27) -/
  | sampled (t : State) (ds : BitVec 16) : Change t (t.setSampled ds)
  /-- a sample period boundary of an episode (R62) -/
  | advanced (t : State) (f : FeedId) : Change t (t.modEpisode f Episode.advance)
  /-- a sample, the integrator, a swap window that counts or ends (R27, R29, R36, R38) -/
  | monitor (t : State) (d : DistrictId) (m : Monitor) (window : m.window.isSome → (t.monitor d).window.isSome)
      (integrator : (t.monitor d).integrator ≤ 65535 → m.integrator ≤ 65535)
      (history : (∀ k : Fin 8, (t.monitor d).history[k] ≤ 1000) → ∀ k : Fin 8, m.history[k] ≤ 1000) :
      Change t (t.setMonitor d m)
  /-- the causes and counters of a district (R6, R7) -/
  | record (t : State) (d : DistrictId) (r : District)
      (same : r = { t.district d with lastTrip := r.lastTrip, lastFail := r.lastFail, trips := r.trips, swaps := r.swaps })
      (trips : (t.district d).trips ≤ 65535 → r.trips ≤ 65535) (swaps : (t.district d).swaps ≤ 255 → r.swaps ≤ 255) :
      Change t (t.setDistrict d r)
  /-- a swap window is given up (R37, R39) -/
  | restored (t : State) (d : DistrictId) : Change t (restorePolarity d t)
  /-- a swap starts (R35) -/
  | swapped (t : State) (d : DistrictId) (x : WindowSetting) (may : swapSetting t d = some x) :
      Change t (startSwap d x t)
  /-- probation is loaded anew (R86) -/
  | probationLoaded (t : State) (d : DistrictId) (on : (t.district d).probation = true) :
      Change t (loadTimer d .probation t.cfg.globals.probation t)
  /-- a LIVE district trips (R41) -/
  | tripped (t : State) (d : DistrictId) (cause : TripCause) (live : (t.district d).st = .live)
      (window : (t.monitor d).window = none) : Change t (tripReport d cause t)
  /-- a probe fails (R121, R126) -/
  | probeFails (t : State) (c : ChannelId) (p q : Probe) (cause : FailCause) (own : t.channel c = some q)
      (district : q.district = p.district) (kind : q.kind = p.kind) : Change t (failProbe c p cause t)
  /-- a FULL probe succeeds (R120) -/
  | succeeds (t : State) (c : ChannelId) (p : Probe) (own : t.channel c = some p) (confirm : p.stage.isConfirm = true) :
      Change t (succeed c p.district t)
  /-- a look passes (R125) -/
  | looksPass (t : State) (c : ChannelId) (p : Probe) (own : t.channel c = some p) : Change t (passLook c p.district t)
  /-- a lifetime expires (R128) -/
  | expired (t : State) (c : ChannelId) (p : Probe) (own : t.channel c = some p) : Change t (expireProbe c p t)
  /-- a waiting probe is abandoned (R136) -/
  | abandoned (t : State) (f : FeedId) (c : ChannelId) (waiting : waits t f c = true) : Change t (abandonProbe f c t)
  /-- a probe moves on in its channel (R114 to R118, R133, R138, R139) -/
  | onward (t : State) (c : ChannelId) (g : Probe → Probe) (moves : ∀ p, t.channel c = some p → p.Onward (g p) ∧
      (p.confirms → (g p).confirms ∨ (t.monitor p.district).window = none)) : Change t (t.modChannel c g)
  /-- a channel leaves the waiting probes (R71, R107) -/
  | unwaits (t : State) (f : FeedId) (c : ChannelId) : Change t (stopWaiting f c t)
  /-- an open episode learns of a stall (R66) -/
  | stalls (t : State) (f : FeedId) : Change t (t.modEpisode f (fun e => { e with stallFlag := true, waiting := 0#4 }))
  /-- a member receives its count (R75) -/
  | counted (t : State) (d : DistrictId) (n : Nat) (range : t.cfg.globals.InRange → n ≤ 65535) :
      Change t (handCount d n t)
  /-- an episode closes (R69, R76) -/
  | closed (t : State) (f : FeedId) (x : Summary) : Change t ((t.setEpisode f none).setSummary f x)
  /-- a slot changes (R158 to R162) -/
  | slot (t : State) (n : SlotId) (x : Option Slot) : Change t (t.setSlot n x)
  /-- a feed's record changes (R46 to R53) -/
  | feed (t : State) (f : FeedId) (x : Feed) : Change t (t.setFeed f x)
  /-- a joint's record changes, its state apart (R146 to R148, R152) -/
  | joint (t : State) (j : JointId) (x : Joint) (st : x.st = (t.joint j).st) : Change t (t.setJoint j x)
  /-- a shed (R54 to R56) -/
  | shed (t : State) (f : FeedId) : Change t (shedFeed f t)
  /-- a count or a grant window ends in a retry (R82, R94, R168) -/
  | retried (t : State) (d : DistrictId)
      (st : (t.district d).st = .cooling .counting ∨ (t.district d).st = .awaitingGrant) :
      Change t (becomeQueued d (clearTimer d t))
  /-- a count ends in a grant window (R82) -/
  | awaits (t : State) (d : DistrictId) (st : (t.district d).st = .cooling .counting) :
      Change t (becomeAwaitingGrant d (clearTimer d t))
  /-- a grant window lapses (R84) -/
  | lapsed (t : State) (d : DistrictId) (st : (t.district d).st = .awaitingGrant) :
      Change t (enterLocked d .grantLapsed (clearTimer d t))
  /-- probation has been served (R86) -/
  | served (t : State) (d : DistrictId) :
      Change t (clearTimer d (t.modDistrict d (fun r => { r with failures := 0, probation := false })))
  /-- PATROL repeats (R89) -/
  | patrols (t : State) (d : DistrictId) (due : patrolDue t d = true) : Change t (loadPatrol d t)
  /-- a look is queued (R89) -/
  | lookQueued (t : State) (d : DistrictId) (cause : LockCause) (st : (t.district d).st = .locked cause .noLook)
      (free : isolationSet t d = false) (timer : (t.timer d).purpose ≠ none) :
      Change t (placeEntry d .look (setSt d (.locked cause .queued) t))
  /-- a tick boundary steps a timer (R80) -/
  | ticked (t : State) (d : DistrictId) : Change t (t.setTimer d (t.timer d).tick)
  /-- the prescaler (R77) -/
  | clock (t : State) (prescaler quarter : Nat) : Change t (t.setClock prescaler quarter)
  /-- a grant (R106) -/
  | granted (t : State) (f : FeedId) (c : ChannelId) (e : Entry) (rest : List Entry) (free : t.channel c = none)
      (head : t.queue f = e :: rest) : Change t (grantChannel t f c e rest)
  /-- isolation sets change (R14 to R20, R153) -/
  | isolation (t u : State) (overlay : Overlay t u) : Change t (isolationChange t u)
  /-- a lockout is cleared (R169) -/
  | cleared (t : State) (d : DistrictId) (locked : isLocked (t.district d).st = true) :
      Change t (clearedState d (setFailures d 0 (clearTimer d (dropLook d t))))
  /-- SET_DISTRICT (R21 to R25) -/
  | configured (t : State) (d : DistrictId) (es : List FieldEntry) (k : DistrictConfig)
      (taken : takeDistrict (t.dcfg d) es = some k) (free : districtBusy t d es = false) :
      Change t (writeDistrict d es k t)
  /-- SET_FEED (R58) -/
  | feedConfigured (t : State) (f : FeedId) (k : FeedConfig) (range : (t.fcfg f).InRange → k.InRange) :
      Change t (t.setFcfg f k)
  /-- SET_GLOBALS (R92) -/
  | globals (t : State) (g : Globals) (range : t.cfg.globals.InRange → g.InRange) : Change t (t.setGlobals g)
  /-- the entry to RUN (R171) -/
  | entered (t : State) (standby : t.mode = .standby) : Change t (t.setMode .run)
  /-- a district at the entry to RUN (R171) -/
  | enters (t : State) (d : DistrictId) (run : t.mode = .run) : Change t (enterDistrict d t)
  /-- the leaving of RUN (R173, R174) -/
  | left (t : State) : Change t (leaveRun t)
  /-- the Profile Store (R176, R177) -/
  | stored (t : State) (image : Option Profile) (lost : Bool) (writing : Option Profile)
      (range : ConfigInRange t → (∀ p, image = some p → p.InRange) ∧ ∀ p, writing = some p → p.InRange) :
      Change t (t.setProfileStore image lost writing)
  /-- the line (R178 to R181) -/
  | line (t : State) (l : Line) (range : t.line.InRange → l.InRange) : Change t (t.setLine l)
  /-- the commands that wait outside -/
  | pending (t : State) (q : List Instr) : Change t (t.setPending q)

/-- A chain of small changes. -/
abbrev Changes : State → State → Prop := Relation.ReflTransGen Change

/-- What every small change keeps, a chain of them keeps. -/
theorem Changes.keeps {P : State → Prop} (keeps : ∀ t u, Change t u → P t → P u) {s t : State} (h : Changes s t) :
    P s → P t := fun start => by
  induction h with
  | refl => exact start
  | tail _ change ih => exact keeps _ _ change ih

end Sys2Proof.Machine
end

section
/-! The Probe Engine and the Episode Merger as chains of small changes (chapters 4, 7 and 8). -/

namespace Sys2Proof.Machine

variable {s t : State}

/-! ### Marks, records and the Arbiter (R104 to R106, R162) -/

theorem markDistrict_changes (ks : List Mark) (d : DistrictId) (h : Changes s t) : Changes s (markDistrict ks d t) :=
  forSlots_keeps (fun n u hu => hu.tail (.slot u n _)) h

theorem markFeed_changes (f : FeedId) (h : Changes s t) : Changes s (markFeed f t) :=
  forSlots_keeps (fun n u hu => hu.tail (.slot u n _)) h

theorem clearIntegrator_changes (d : DistrictId) (h : Changes s t) : Changes s (clearIntegrator d t) :=
  h.tail (.monitor t d _ id (fun _ => Nat.zero_le _) id)

theorem restorePolarity_changes (d : DistrictId) (h : Changes s t) : Changes s (restorePolarity d t) :=
  h.tail (.restored t d)

theorem abandonWindow_changes (d : DistrictId) (h : Changes s t) : Changes s (abandonWindow d t) :=
  clearIntegrator_changes d (restorePolarity_changes d h)

theorem modFeed_changes (f : FeedId) (g : Feed → Feed) (h : Changes s t) : Changes s (t.modFeed f g) :=
  h.tail (.feed t f _)

theorem grants_changes (n : Nat) : ∀ t, Changes s t → Changes s (grants n t) := by
  induction n with
  | zero => exact fun _ h => h
  | succ n ih =>
    intro t h
    unfold grants
    split
    · next u granted =>
      obtain ⟨c, f, e, rest, free, -, head, rfl⟩ := nextGrant_some t granted
      exact ih _ (h.tail (.granted t f c e rest (freeChannel_eq_some.mp free).1 head))
    · exact h

theorem arbiterLook_changes (h : Changes s t) : Changes s (arbiterLook t) := grants_changes 4 t h

theorem arbitrate_changes (before : State) (h : Changes s t) : Changes s (arbitrate before t) := by
  rcases arbitrate_cases before t with ⟨-, eq⟩ | ⟨-, eq⟩
  · rwa [eq]
  · rw [eq]
    exact arbiterLook_changes h

/-! ### A probe that moves on (R114 to R118, R133) -/

/-- A look stands in SENSE or PRECHARGE, and not where a later stage would begin (R124). -/
theorem lookStage_iff {p : Probe} : lookStage p = true ↔ (p.stage = .sense ∨ p.stage = .precharge) ∧
    ∀ cause r, p.pause = some ⟨cause, r⟩ → r = .sense ∨ (∃ j, r = .precharge j) ∨ r = .lookPass := by
  obtain ⟨_, _, _, _, _, stage, _, _, pause, _⟩ := p
  rcases pause with _ | ⟨_, _ | _ | _ | _ | _⟩ <;> cases stage <;>
    simp [lookStage, Stage.isSense, Stage.isPrecharge]

/-- A look that moves on stays in SENSE or PRECHARGE. -/
theorem Probe.Onward.of_look {p q : Probe} (same : q.district = p.district ∧ q.feed = p.feed ∧ q.kind = p.kind)
    (look : lookStage p = true → lookStage q = true) : p.Onward q := ⟨same.1, same.2.1, same.2.2, fun _ => look⟩

/-- The lifetime and the stage's samples say nothing of where a probe stands. -/
theorem Probe.Onward.of_same {p q : Probe} (same : q.district = p.district ∧ q.feed = p.feed ∧ q.kind = p.kind)
    (stage : q.stage = p.stage) (pause : q.pause = p.pause) : p.Onward q :=
  .of_look same fun look => by rwa [lookStage_iff, stage, pause, ← lookStage_iff]

theorem Probe.not_confirms_of_pause {p : Probe} {x : Pause} (pause : p.pause = some x) : ¬ p.confirms :=
  fun confirms => by rw [confirms.2] at pause; cases pause

theorem Probe.not_confirms_of_stage {p : Probe} (stage : p.stage.isConfirm = false) : ¬ p.confirms :=
  fun confirms => absurd (confirms.1.symm.trans stage) (by decide)

/-- A probe outside CONFIRM moves on. -/
theorem onward_changes {c : ChannelId} {p : Probe} {g : Probe → Probe} (h : Changes s t) (own : t.channel c = some p)
    (onward : p.Onward (g p)) (free : ¬ p.confirms) : Changes s (t.modChannel c g) :=
  h.tail (.onward t c g fun q hq => by
    cases own.symm.trans hq
    exact ⟨onward, fun confirms => absurd confirms free⟩)

theorem modChannel_modChannel (t : State) (c : ChannelId) (g k : Probe → Probe) :
    (t.modChannel c g).modChannel c k = t.modChannel c (fun p => k (g p)) := by
  simp [State.modChannel, Function.comp_def]

theorem failProbe_changes {c : ChannelId} {p : Probe} (cause : FailCause) (h : Changes s t)
    (own : t.channel c = some p) : Changes s (failProbe c p cause t) :=
  h.tail (.probeFails t c p p cause own rfl rfl)

section
variable {c : ChannelId} {p : Probe} (h : Changes s t) (own : t.channel c = some p)
include h own

theorem endSense_changes (stage : p.stage = .sense) (runs : p.pause = none) : Changes s (endSense c p t) := by
  refine ite_keeps (failProbe_changes _ h own) (onward_changes h own (.of_look ⟨rfl, rfl, rfl⟩ fun _ => ?_)
    (Probe.not_confirms_of_stage (by rw [stage]; rfl)))
  simp [lookStage_iff, runs]

theorem endPrecharge_changes (stage : p.stage = .precharge) : Changes s (endPrecharge c p t) := by
  have free : ¬ p.confirms := Probe.not_confirms_of_stage (by rw [stage]; rfl)
  unfold endPrecharge
  split
  · exact failProbe_changes _ h own
  · split
    · refine onward_changes h own ⟨rfl, rfl, rfl, fun look _ => ?_⟩ free
      simp [lookStage_iff, look, stage]
    · split
      · next full =>
        refine onward_changes (p := p) (clearIntegrator_changes p.district h) own ⟨rfl, rfl, rfl, fun look => ?_⟩ free
        rw [full] at look
        cases look
      · exact h.tail (.looksPass t c p own)

/-- No look stands in RAMP or CONFIRM. -/
theorem late_changes {g : Probe → Probe} (same : (g p).district = p.district ∧ (g p).feed = p.feed ∧ (g p).kind = p.kind)
    (late : p.stage ≠ .sense ∧ p.stage ≠ .precharge) (free : ¬ p.confirms) : Changes s (t.modChannel c g) :=
  onward_changes h own (.of_look same fun look => by
    rcases (lookStage_iff.mp look).1 with stage | stage
    · exact absurd stage late.1
    · exact absurd stage late.2) free

theorem startConfirm_changes (d : DistrictId) (late : p.stage ≠ .sense ∧ p.stage ≠ .precharge) (free : ¬ p.confirms) :
    Changes s (startConfirm c d t) :=
  late_changes (h.tail (.monitor t d { t.monitor d with integrator := 0, confirmSwapUsed := false } id
    (fun _ => Nat.zero_le _) id)) own ⟨rfl, rfl, rfl⟩ late free

theorem endRampStep_changes {k : Nat} (stage : p.stage = .ramp k) : Changes s (endRampStep c p k t) := by
  have late : p.stage ≠ .sense ∧ p.stage ≠ .precharge := by simp [stage]
  have free : ¬ p.confirms := Probe.not_confirms_of_stage (by rw [stage]; rfl)
  exact ite_keeps (failProbe_changes _ h own) <| ite_keeps (late_changes h own ⟨rfl, rfl, rfl⟩ late free) <|
    ite_keeps (late_changes h own ⟨rfl, rfl, rfl⟩ late free) (startConfirm_changes h own p.district late free)

theorem endConfirm_changes (confirm : p.stage.isConfirm = true) : Changes s (endConfirm c p t) :=
  ite_keeps (h.tail (.succeeds t c p own confirm)) (failProbe_changes _ h own)

theorem stageEnd_changes_of_occupied : Changes s (stageEnd c t) := by
  unfold stageEnd
  rw [own]
  dsimp only
  split
  · next due =>
    have runs : p.pause = none := by
      simp only [stageDue, Bool.and_eq_true, beq_iff_eq] at due
      exact due.1.1
    refine arbitrate_changes t ?_
    split
    · next stage => exact endSense_changes h own stage runs
    · next stage => exact endPrecharge_changes h own stage
    · next k stage => exact endRampStep_changes h own stage
    · next b stage => exact endConfirm_changes h own (by rw [stage]; rfl)
  · exact h
end

/-- The start check of CONFIRM, of a probe whose stage has gone on by some samples (R118). -/
theorem startCheck_changes {c : ChannelId} {p : Probe} {n : Nat} (h : Changes s t)
    (own : t.channel c = some { p with elapsed := n }) : Changes s (startCheck c p t) := by
  unfold startCheck
  split
  · next stage =>
    split
    · refine h.tail (.onward t c _ fun q hq => ?_)
      cases own.symm.trans hq
      refine ⟨.of_look ⟨rfl, rfl, rfl⟩ fun look => ?_, fun confirms => .inl ⟨rfl, confirms.2⟩⟩
      rw [lookStage_iff] at look
      simp [stage] at look
    · exact h.tail (.probeFails t c p _ _ own rfl rfl)
  · exact h

theorem stageEnd_changes (c : ChannelId) (h : Changes s t) : Changes s (stageEnd c t) := by
  cases own : t.channel c with
  | some p => exact stageEnd_changes_of_occupied h own
  | none => rwa [stageEnd, own]

theorem lifetimeExpiry_changes (c : ChannelId) (h : Changes s t) : Changes s (lifetimeExpiry c t) := by
  unfold lifetimeExpiry
  split
  · next p own => exact arbitrate_changes t (h.tail (.expired t c p own))
  · exact h

/-! ### Stall pauses (R138, R139) -/

theorem stallPause_changes (f : FeedId) (c : ChannelId) (h : Changes s t) : Changes s (stallPause f c t) := by
  unfold stallPause
  split
  · next p own =>
    split
    · split
      · exact h
      · refine Relation.ReflTransGen.tail ((abandonWindow_changes p.district h).tail (.unwaits _ f c))
          (.onward _ c _ fun q hq => ?_)
        have same : (stopWaiting f c (abandonWindow p.district t)).channel c = some p := by
          simp [stopWaiting, State.modEpisode, abandonWindow_eq, own]
        have ended : ((stopWaiting f c (abandonWindow p.district t)).monitor p.district).window = none := by
          simp [stopWaiting, State.modEpisode, abandonWindow_eq]
        cases same.symm.trans hq
        refine ⟨.of_look ⟨rfl, rfl, rfl⟩ fun look => ?_, fun _ => .inr ended⟩
        obtain ⟨stage, resume⟩ := lookStage_iff.mp look
        refine lookStage_iff.mpr ⟨stage, fun cause r paused => ?_⟩
        obtain ⟨-, rfl⟩ := Pause.mk.inj (Option.some.inj paused)
        rcases stage with stage | stage <;> unfold stallResume <;> rw [stage] <;> split <;> simp_all
    · exact h
  · exact h

theorem stallContinue_changes (f : FeedId) (c : ChannelId) (h : Changes s t) : Changes s (stallContinue f c t) := by
  unfold stallContinue
  split
  · next p own =>
    split
    · split
      · next r paused =>
        refine onward_changes h own (.of_look (by cases r <;> exact ⟨rfl, rfl, rfl⟩) fun look => ?_)
          (Probe.not_confirms_of_pause paused)
        obtain ⟨stage, resume⟩ := lookStage_iff.mp look
        have point := resume _ _ paused
        cases r <;> simp_all [lookStage_iff, resumedAt]
      · exact h
    · exact h
  · exact h

end Sys2Proof.Machine
end

section
/-! The closes of episodes, the expiries of timers and the samples as chains of small changes (chapters 2, 4 and 5). -/

namespace Sys2Proof.Machine

variable {s t : State}

/-! ### The waiting probes take the class (R71, R135, R136) -/

theorem localResume_changes (f : FeedId) (c : ChannelId) (h : Changes s t) : Changes s (localResume f c t) := by
  have unwaited : Changes s (stopWaiting f c t) := h.tail (.unwaits t f c)
  unfold localResume
  dsimp only
  split
  · next p own =>
    have own : (stopWaiting f c t).channel c = some p := own
    split
    · next r paused =>
      have free : ¬ p.confirms := Probe.not_confirms_of_pause paused
      have point (look : lookStage p = true) := (lookStage_iff.mp look).2 _ _ paused
      split
      · have early : ¬ lookStage p = true := fun look => by simpa using point look
        split
        · rw [startRamp, clearIntegrator, State.modMonitor]
          change Changes s (((clearIntegrator p.district (stopWaiting f c t)).modChannel c _).modChannel c _)
          rw [modChannel_modChannel]
          exact onward_changes (clearIntegrator_changes p.district unwaited) own (.of_look ⟨rfl, rfl, rfl⟩ fun look => absurd look early) free
        · rw [enterStage, modChannel_modChannel]
          exact onward_changes unwaited own (.of_look ⟨rfl, rfl, rfl⟩ fun look => absurd look early) free
      · have early : ¬ lookStage p = true := fun look => by simpa using point look
        change Changes s (((stopWaiting f c t).modMonitor p.district
          (fun m => { m with integrator := 0, confirmSwapUsed := false })).modChannel c _ |>.modChannel c _)
        rw [modChannel_modChannel]
        exact onward_changes (unwaited.tail (.monitor _ p.district _ id (fun _ => Nat.zero_le _) id)) own
          (.of_look ⟨rfl, rfl, rfl⟩ fun look => absurd look early) free
      · refine Relation.ReflTransGen.tail (onward_changes (g := fun q => { q with pause := none, elapsed := 0 }) unwaited
          own (.of_look ⟨rfl, rfl, rfl⟩ fun look => ?_) free)
          (.looksPass _ c { p with pause := none, elapsed := 0 } (by simp [State.modChannel, own]))
        simpa [lookStage_iff] using (lookStage_iff.mp look).1
      · rw [enterStage, modChannel_modChannel]
        exact onward_changes unwaited own (.of_look ⟨rfl, rfl, rfl⟩ fun _ => by simp [lookStage_iff]) free
      · rw [enterStage, modChannel_modChannel]
        exact onward_changes unwaited own (.of_look ⟨rfl, rfl, rfl⟩ fun _ => by simp [lookStage_iff]) free
    · exact unwaited
  · exact unwaited

theorem waits_congr {t u : State} {f : FeedId} (h : u.episode f = t.episode f) (b : ChannelId) :
    waits u f b = waits t f b := by rw [waits, waits, h]

theorem waits_stopWaiting (t : State) (f g : FeedId) {b c : ChannelId} (ne : b ≠ c) :
    waits (stopWaiting g c t) f b = waits t f b := by
  by_cases same : g = f
  · subst same
    have other : ¬ b.val = c.val := fun eq => ne (Fin.ext eq)
    cases he : t.episode g <;> simp [waits, stopWaiting, State.modEpisode, he, removeItem, other]
  · exact waits_congr (by simp [stopWaiting, State.modEpisode, State.setEpisode_episode, same]) b

theorem waits_endProbe (t : State) (f : FeedId) {b c : ChannelId} (ne : b ≠ c) :
    waits (endProbe c t) f b = waits t f b := by
  unfold endProbe
  split
  · next p own =>
    calc waits ((stopWaiting p.feed c (abandonWindow p.district t)).setChannel c none) f b
        = waits (stopWaiting p.feed c (abandonWindow p.district t)) f b := waits_congr rfl b
      _ = waits (abandonWindow p.district t) f b := waits_stopWaiting _ f p.feed ne
      _ = waits t f b := waits_congr (by simp [abandonWindow_eq]) b
  · rfl

theorem waits_addMember (t : State) (f g : FeedId) (d : DistrictId) (b : ChannelId) :
    waits (t.modEpisode g (fun e => e.addMember d)) f b = waits t f b := by
  by_cases same : g = f
  · subst same
    cases he : t.episode g <;> simp [waits, State.modEpisode, he, Episode.addMember]
  · exact waits_congr (by simp [State.modEpisode, State.setEpisode_episode, same]) b

theorem setLook_episode (t : State) (d : DistrictId) (x : LookStatus) (f : FeedId) :
    (setLook d x t).episode f = t.episode f := by
  unfold setLook
  split <;> simp [setSt, State.modDistrict]

theorem waits_passLook (t : State) (f : FeedId) (d : DistrictId) {b c : ChannelId} (ne : b ≠ c) :
    waits (passLook c d t) f b = waits t f b := by
  rw [← waits_endProbe t f ne]
  refine waits_congr ?_ b
  unfold passLook
  dsimp only
  split <;> simp [becomeQueued_eq, becomeAwaitingGrant_eq, clearTimer_eq, setFailures, State.modDistrict]

/-- A waiting probe that takes the class leaves the others waiting (R71). -/
theorem waits_localResume (t : State) (f : FeedId) {b c : ChannelId} (ne : b ≠ c) :
    waits (localResume f c t) f b = waits t f b := by
  rw [← waits_stopWaiting t f f ne]
  unfold localResume
  dsimp only
  split
  · split
    · split
      · split <;> exact waits_congr rfl b
      · exact waits_congr rfl b
      · exact (waits_passLook _ f _ ne).trans (waits_congr rfl b)
      · exact waits_congr rfl b
      · exact waits_congr rfl b
    · rfl
  · rfl

theorem waits_abandonProbe (t : State) (f : FeedId) {b c : ChannelId} (ne : b ≠ c) :
    waits (abandonProbe f c t) f b = waits t f b := by
  rw [← waits_endProbe t f ne]
  unfold abandonProbe
  split
  · next p own =>
    split
    · calc waits (joinMerging f p.district (endProbe c t)) f b
          = waits ((setSt p.district (.cooling .merging) (endProbe c t)).modEpisode f
              (fun e => e.addMember p.district)) f b := waits_congr (by simp [joinMerging, clearTimer_eq]) b
        _ = waits (setSt p.district (.cooling .merging) (endProbe c t)) f b := waits_addMember _ f f _ b
        _ = waits (endProbe c t) f b := waits_congr rfl b
    · exact waits_congr (setLook_episode _ _ _ f) b
  · next free => rw [endProbe_free t free]

theorem abandonProbe_changes {f : FeedId} {c : ChannelId} (waiting : waits t f c = true) (h : Changes s t) :
    Changes s (abandonProbe f c t) := h.tail (.abandoned t f c waiting)

theorem waits_takeClass (t : State) (f : FeedId) (cls : EpisodeClass) {b c : ChannelId} (ne : b ≠ c) :
    waits (takeClass f cls c t) f b = waits t f b := by
  cases cls with
  | localClass => exact waits_localResume t f ne
  | massClass => exact waits_abandonProbe t f ne

theorem takeClass_changes {f : FeedId} (cls : EpisodeClass) {c : ChannelId} (waiting : waits t f c = true)
    (h : Changes s t) : Changes s (takeClass f cls c t) := by
  cases cls with
  | localClass => exact localResume_changes f c h
  | massClass => exact abandonProbe_changes waiting h

theorem resolveWaiting_changes (f : FeedId) (cls : EpisodeClass) (w : BitVec 4)
    (waiting : ∀ c : ChannelId, w.getLsbD c.val = true → waits t f c = true) (h : Changes s t) :
    Changes s (resolveWaiting f cls w t) := by
  rw [resolveWaiting_eq]
  suffices walk : ∀ (l : List ChannelId) (t : State), l.Nodup →
      (∀ c ∈ l, w.getLsbD c.val = true → waits t f c = true) → Changes s t →
      Changes s (l.foldl (fun t c => if w.getLsbD c.val then takeClass f cls c t else t) t) from
    walk allChannels t (by decide) (fun c _ => waiting c) h
  intro l
  induction l with
  | nil => exact fun _ _ _ h => h
  | cons c l ih =>
    intro t nodup waiting h
    obtain ⟨fresh, nodup⟩ := List.nodup_cons.mp nodup
    have rest (b : ChannelId) (hb : b ∈ l) := waiting b (List.mem_cons_of_mem _ hb)
    rw [List.foldl_cons]
    split
    · next own =>
      refine ih _ nodup (fun b hb bit => ?_) (takeClass_changes cls (waiting c List.mem_cons_self own) h)
      have other : b ≠ c := fun eq => fresh (eq ▸ hb)
      rw [waits_takeClass t f cls other]
      exact rest b hb bit
    · exact ih t nodup rest h

/-! ### The close (R69 to R76) -/

/-- A count fits in the timer: it is the backoff, below the ceiling, or it is held to the timer's range (R73, R74). -/
theorem memberCount_le (t : State) (f : FeedId) (cls : EpisodeClass) (d : DistrictId) (i : Nat)
    (range : t.cfg.globals.InRange) : memberCount t f cls d i ≤ 65535 := by
  cases cls with
  | localClass => exact (Nat.min_le_left _ _).trans range.ceiling.2
  | massClass => exact Nat.min_le_left _ _

theorem handCounts_changes (f : FeedId) (cls : EpisodeClass) (ds : List DistrictId) :
    ∀ (i : Nat) (t : State), Changes s t → Changes s (handCounts f cls ds i t) := by
  induction ds with
  | nil => exact fun _ _ h => h
  | cons d ds ih =>
    intro i t h
    unfold handCounts
    split
    · exact ih _ _ (h.tail (.counted t d _ (memberCount_le t f cls d i)))
    · exact ih _ _ h

theorem closeEpisode_changes (f : FeedId) (cause : CloseCause) (h : Changes s t) :
    Changes s (closeEpisode f cause t) := by
  unfold closeEpisode
  split
  · exact h
  · next e he =>
    dsimp only
    have waiting (c : ChannelId) (bit : e.waiting.getLsbD c.val = true) : waits t f c = true := by
      rw [waits, he]
      exact bit
    have counted (ms : List DistrictId) := handCounts_changes f (episodeClass t f e) ms 0 _
      (resolveWaiting_changes f (episodeClass t f e) e.waiting waiting h)
    have closed {u : State} (x : Summary) (hu : Changes s u) : Changes s ((u.setEpisode f none).setSummary f x) :=
      hu.tail (.closed u f x)
    split
    · exact markFeed_changes f (closed _ (counted _))
    · exact closed _ (counted _)

theorem episodeExpiry_changes (f : FeedId) (h : Changes s t) : Changes s (episodeExpiry f t) := by
  unfold episodeExpiry
  split
  · exact arbitrate_changes t (closeEpisode_changes f _ h)
  · exact h

theorem periodBoundary_changes (ds : BitVec 16) (h : Changes s t) : Changes s (periodBoundary ds t) :=
  forFeeds_keeps (fun f u hu => hu.tail (.advanced u f)) (h.tail (.sampled t ds))

theorem countSample_changes (d : DistrictId) (h : Changes s t) : Changes s (countSample d t) :=
  ite_keeps (periodBoundary_changes _ h) (h.tail (.sampled t _))

/-! ### Expiries (R80 to R89) -/

theorem takeCool_changes (d : DistrictId) (h : Changes s t) : Changes s (takeCool d t) := by
  unfold takeCool
  split
  · next due =>
    have counting : (t.district d).st = .cooling .counting := by
      simp only [coolDue, Bool.and_eq_true, beq_iff_eq] at due
      exact due.1
    exact arbitrate_changes t (ite_keeps (h.tail (.retried t d (.inl counting)))
      (markDistrict_changes _ d (h.tail (.awaits t d counting))))
  · exact h

theorem grantExpiry_changes (d : DistrictId) (h : Changes s t) : Changes s (grantExpiry d t) := by
  unfold grantExpiry
  split
  · next due =>
    have waiting : (t.district d).st = .awaitingGrant := by
      simp only [grantDue, Bool.and_eq_true, beq_iff_eq] at due
      exact due.1
    exact markDistrict_changes _ d (h.tail (.lapsed t d waiting))
  · exact h

theorem probationExpiry_changes (d : DistrictId) (h : Changes s t) : Changes s (probationExpiry d t) :=
  ite_keeps (h.tail (.served t d)) h

theorem takePatrol_changes (d : DistrictId) (h : Changes s t) : Changes s (takePatrol d t) := by
  unfold takePatrol
  split
  · next due =>
    have loads : Changes s (loadPatrol d t) := h.tail (.patrols t d due)
    refine arbitrate_changes t ?_
    split
    · next cause st =>
      split
      · exact loads
      · next free =>
        exact loads.tail (.lookQueued _ d cause st (Bool.eq_false_iff.mpr free)
          (by simp [loadPatrol, loadTimer_eq, loaded]))
    · exact loads
  · exact h

theorem timerExpiry_changes (d : DistrictId) (h : Changes s t) : Changes s (timerExpiry d t) := by
  unfold timerExpiry
  split
  · exact takeCool_changes d h
  · exact grantExpiry_changes d h
  · exact probationExpiry_changes d h
  · exact takePatrol_changes d h
  · exact h

theorem takeEarlier_changes (d : DistrictId) (h : Changes s t) : Changes s (takeEarlier d t) :=
  ite_keeps (forDistricts_keeps (fun e _ hu => ite_keeps (timerExpiry_changes e hu) hu) h) h

theorem coolExpiry_changes (d : DistrictId) (h : Changes s t) : Changes s (coolExpiry d t) :=
  ite_keeps (takeCool_changes d (takeEarlier_changes d h)) h

theorem patrolExpiry_changes (d : DistrictId) (h : Changes s t) : Changes s (patrolExpiry d t) :=
  ite_keeps (takePatrol_changes d (takeEarlier_changes d h)) h

theorem tickBoundary_changes (h : Changes s t) : Changes s (tickBoundary t) :=
  Relation.ReflTransGen.tail (forDistricts_keeps (P := Changes s) (fun d u hu => hu.tail (.ticked u d))
    (forDistricts_keeps (P := Changes s) (fun d _ => timerExpiry_changes d) h)) (.clock _ 0 0)

end Sys2Proof.Machine
end

section
/-! The samples, the stalls, the joints and the clock as chains of small changes (chapters 1, 2, 3 and 9). -/

namespace Sys2Proof.Machine

variable {s t : State}

/-! ### Trips and swaps (R32 to R44) -/

theorem handTrip_changes (d : DistrictId) (cause : TripCause) (window : (t.monitor d).window = none)
    (h : Changes s t) : Changes s (handTrip d cause t) := by
  unfold handTrip
  split
  · next live => exact h.tail (.tripped t d cause (by simpa using live) window)
  · split
    · next c _ =>
      split
      · next p own =>
        have told : Changes s (t.modDistrict p.district (fun r => { r with lastTrip := some cause })) :=
          h.tail (.record t p.district _ rfl id id)
        exact failProbe_changes _ (clearIntegrator_changes p.district told) own
      · exact h
    · exact h

theorem takeTrip_changes (d : DistrictId) (cause : TripCause) (h : Changes s t) : Changes s (takeTrip d cause t) := by
  unfold takeTrip
  split
  · exact handTrip_changes d _ (by simp [restorePolarity_eq, clearIntegrator, State.modMonitor])
      (clearIntegrator_changes d (restorePolarity_changes d h))
  · next absent =>
    split
    · next x may => exact h.tail (.swapped t d x may)
    · exact handTrip_changes d cause (by simpa [clearIntegrator, State.modMonitor] using absent)
        (clearIntegrator_changes d h)

/-- The integrator after a check that does not trip stays in its range (R26, R30). -/
theorem judge_pass_le {k : DistrictConfig} {a i z n : Nat} (pass : judge k a i z = .pass n) (range : a ≤ 65535) :
    n ≤ 65535 := by
  unfold judge at pass
  split at pass
  · cases pass
  · split at pass
    · split at pass
      · cases pass
      · cases pass
        exact Nat.min_le_left _ _
    · cases pass
      omega

theorem detect_changes (d : DistrictId) (i : Nat) (h : Changes s t) : Changes s (detect d i t) := by
  unfold detect
  split
  · exact h
  · split
    · exact takeTrip_changes d _ h
    · next n pass =>
      have integrated : Changes s (t.modMonitor d (fun m => { m with integrator := n })) :=
        h.tail (.monitor t d _ id (judge_pass_le pass) id)
      exact integrated.tail (.monitor _ d _ (fun present => by simpa using present) id id)

/-! ### The sample (R27, R38, R114) -/

theorem heldChecks_changes {c : ChannelId} {p : Probe} (h : Changes s t) (own : t.channel c = some p)
    (confirm : p.stage.isConfirm = true) : Changes s (heldChecks c p t) := by
  have checked : Changes s (startCheck c p t) := startCheck_changes (n := p.elapsed) h own
  have stays (q : Probe) (hq : (startCheck c p t).channel c = some q) : q.stage.isConfirm = true := by
    unfold startCheck at hq
    split at hq
    · split at hq
      · simp only [State.modChannel, own, State.setChannel_channel_self, Option.map_some, Option.some.injEq] at hq
        rw [← hq]
        rfl
      · simp [failProbe_channel t own] at hq
    · cases own.symm.trans hq
      exact confirm
  unfold heldChecks
  dsimp only
  split
  · next q hq => exact ite_keeps (endConfirm_changes checked hq (stays q hq)) checked
  · exact checked

theorem takeHeldChecks_changes (d : DistrictId) (h : Changes s t) : Changes s (takeHeldChecks d t) := by
  unfold takeHeldChecks
  split
  · exact h
  · split
    · exact h
    · next p own =>
      split
      · next runs =>
        simp only [Bool.and_eq_true] at runs
        exact heldChecks_changes h own runs.1
      · exact h

theorem countSwap_changes (d : DistrictId) (h : Changes s t) : Changes s (countSwap d t) := by
  refine markDistrict_changes _ d ?_
  have ended : Changes s (t.setMonitor d { t.monitor d with window := none }) :=
    h.tail (.monitor t d _ nofun id id)
  exact ended.tail (.record _ d _ rfl id fun _ => Nat.min_le_left _ _)

theorem reloadProbation_changes (d : DistrictId) (h : Changes s t) : Changes s (reloadProbation d t) := by
  unfold reloadProbation
  split
  · next on => exact h.tail (.probationLoaded t d on)
  · exact h

theorem swapSuccess_changes (d : DistrictId) (h : Changes s t) : Changes s (swapSuccess d t) := by
  cases window : (t.monitor d).window with
  | none => rwa [swapSuccess_notDue t (by simp [swapSuccessDue, window])]
  | some w =>
    rw [swapSuccess_eq t window]
    have probation := reloadProbation_changes d (countSwap_changes d h)
    exact ite_keeps (arbitrate_changes t (takeHeldChecks_changes d
      (ite_keeps probation (clearIntegrator_changes d probation)))) h

theorem settleDistrict_changes (d : DistrictId) (h : Changes s t) : Changes s (settleDistrict d t) := by
  have closes {u : State} (hu : Changes s u) :
      Changes s (if beginsPeriod u d then forFeeds episodeExpiry u else u) :=
    ite_keeps (forFeeds_keeps (fun f _ => episodeExpiry_changes f) hu) hu
  refine closes ?_
  split
  · exact stageEnd_changes _ (swapSuccess_changes d h)
  · exact swapSuccess_changes d h

theorem stageSample_changes (d : DistrictId) (h : Changes s t) : Changes s (stageSample d t) := by
  unfold stageSample
  split
  · exact h
  · next c _ =>
    split
    · exact h
    · next p own =>
      split
      · have counted : Changes s (t.modChannel c (fun q => { q with elapsed := q.elapsed + 1 })) :=
          h.tail (.onward t c _ fun q _ => ⟨.of_same ⟨rfl, rfl, rfl⟩ rfl rfl, .inl⟩)
        have later : (t.modChannel c (fun q => { q with elapsed := q.elapsed + 1 })).channel c =
            some { p with elapsed := p.elapsed + 1 } := by simp [State.modChannel, own]
        exact ite_keeps (startCheck_changes counted later) counted
      · exact h

/-- The newest sample is at most 1,000, and the others stood in the history (R27). -/
theorem pushSample_le {h : Vector Nat 8} {i : Nat} (sample : i ≤ 1000) (range : ∀ k : Fin 8, h[k] ≤ 1000) (k : Fin 8) :
    (pushSample h i)[k] ≤ 1000 := by
  simp only [pushSample, Fin.getElem_fin, Vector.getElem_ofFn]
  split
  · next older => exact range ⟨k.val + 1, older⟩
  · exact sample

theorem sample_changes (d : DistrictId) (v : Bool) {i : Nat} (range : i ≤ 1000) (h : Changes s t) :
    Changes s (sample d i v t) := by
  have recorded : Changes s ((countSample d t).modMonitor d
      (fun m => { m with history := pushSample m.history i, voltage := v })) :=
    (countSample_changes d h).tail (.monitor _ d _ id id (pushSample_le range))
  exact stageSample_changes d (detect_changes d i recorded)

/-! ### Stalls (R47 to R56) -/

theorem clearLiveIntegrators_changes (f : FeedId) (h : Changes s t) : Changes s (clearLiveIntegrators f t) :=
  forDistricts_keeps (fun d _ hu => ite_keeps (clearIntegrator_changes d hu) hu) h

theorem shedExpiry_changes (f : FeedId) (h : Changes s t) : Changes s (shedExpiry f t) :=
  ite_keeps (arbitrate_changes t (h.tail (.shed t f))) h

theorem assertStall_changes (f : FeedId) (h : Changes s t) : Changes s (assertStall f t) := by
  have paused : Changes s (forChannels (stallPause f) (clearLiveIntegrators f
      (t.modFeed f (fun x => { x with stalled := true, filterRun := 0 })))) :=
    forChannels_keeps (fun c _ => stallPause_changes f c) (clearLiveIntegrators_changes f (modFeed_changes f _ h))
  have told := markFeed_changes f (paused.tail (.stalls _ f))
  exact ite_keeps (ite_keeps (Relation.ReflTransGen.tail told (.shed _ f)) (modFeed_changes f _ told)) told

theorem clearStall_changes (f : FeedId) (h : Changes s t) : Changes s (clearStall f t) := by
  have shedEnds {u : State} (hu : Changes s u) : Changes s (endShed f u) := by
    unfold endShed
    split
    · exact modFeed_changes f _ (closeEpisode_changes f _ hu)
    · exact modFeed_changes f _ hu
  exact forChannels_keeps (fun c _ => stallContinue_changes f c)
    (clearLiveIntegrators_changes f (markFeed_changes f (shedEnds (modFeed_changes f _ h))))

theorem stallAssertion_changes (f : FeedId) (h : Changes s t) : Changes s (stallAssertion f t) :=
  ite_keeps (arbitrate_changes t (assertStall_changes f h)) h

theorem stallClear_changes (f : FeedId) (h : Changes s t) : Changes s (stallClear f t) :=
  ite_keeps (arbitrate_changes t (clearStall_changes f h)) h

theorem feedDecision_changes (f : FeedId) (h : Changes s t) : Changes s (feedDecision f t) :=
  ite_keeps (ite_keeps (markFeed_changes f (modFeed_changes f _ h))
    (arbitrate_changes t (clearStall_changes f (modFeed_changes f _ h)))) h

theorem settleFeed_changes (f : FeedId) (h : Changes s t) : Changes s (settleFeed f t) :=
  ite_keeps (feedDecision_changes f h) (ite_keeps (stallAssertion_changes f h) (stallClear_changes f h))

theorem stallSample_changes (f : FeedId) (high : Bool) (h : Changes s t) : Changes s (stallSample f high t) := by
  have settled := settleFeed_changes f h
  unfold stallSample
  exact modFeed_changes f _ settled

/-! ### Isolation sets (R14, R153) -/

theorem Overlay.holders_of (t : State) (d : DistrictId) (x : BitVec 6) :
    Overlay t (t.modDistrict d (fun r => { r with holders := x })) where
  same := rfl
  holders e := by
    by_cases own : d = e
    · subst own
      simp [State.modDistrict]
    · simp [State.modDistrict, State.setDistrict_district, own]
  range := id

/-- An update of a joint, its configuration and marks is an overlay (R153, R156). -/
theorem Overlay.joint_of (t : State) (j : JointId) (k : JointConfig) (x : Joint)
    (range : (t.jcfg j).InRange → k.InRange) : Overlay t (markJoint j ((t.setJcfg j k).setJoint j x)) := by
  obtain ⟨slots, marked⟩ := markJoint_same j ((t.setJcfg j k).setJoint j x)
  rw [marked]
  refine ⟨rfl, fun _ => rfl, fun ranges i => ?_⟩
  change (((t.setJcfg j k).setJoint j x).jcfg i).InRange
  by_cases own : j = i
  · subst own
    simpa using range (ranges j)
  · simpa [State.setJcfg_jcfg, own] using ranges i

theorem jointEvent_changes (j : JointId) (g : Joint → Joint) (h : Changes s t) : Changes s (jointEvent j g t) := by
  have event : Overlay t (markJoint j (t.modJoint j g)) := by
    simpa [State.modJoint] using Overlay.joint_of t j (t.jcfg j) (g (t.joint j)) id
  exact arbitrate_changes t (h.tail (.isolation t _ event))

theorem jointDecision_changes (j : JointId) (h : Changes s t) : Changes s (jointDecision j t) :=
  ite_keeps (jointEvent_changes j _ h) h

theorem inputChange_changes (j : JointId) (h : Changes s t) : Changes s (inputChange j t) :=
  ite_keeps (jointEvent_changes j _ h) h

theorem settleExpiry_changes (j : JointId) (h : Changes s t) : Changes s (settleExpiry j t) :=
  ite_keeps (jointEvent_changes j _ h) h

theorem dockingExpiry_changes (j : JointId) (h : Changes s t) : Changes s (dockingExpiry j t) :=
  ite_keeps (jointEvent_changes j _ h) h

theorem settleJoint_changes (j : JointId) (h : Changes s t) : Changes s (settleJoint j t) :=
  inputChange_changes j (dockingExpiry_changes j (settleExpiry_changes j (jointDecision_changes j h)))

theorem modJoint_changes (j : JointId) (g : Joint → Joint) (st : ∀ x, (g x).st = x.st) (h : Changes s t) :
    Changes s (t.modJoint j g) := h.tail (.joint t j _ (st _))

theorem jointSample_changes (j : JointId) (high : Bool) (h : Changes s t) : Changes s (jointSample j high t) := by
  have settled := settleJoint_changes j h
  unfold jointSample
  exact modJoint_changes j _ (fun _ => rfl) settled

/-! ### The idle period (R53, R77, R127) -/

theorem settleAll_changes (h : Changes s t) : Changes s (settleAll t) :=
  forJoints_keeps (P := Changes s) (fun j _ => settleJoint_changes j) <|
  forDistricts_keeps (fun d _ => timerExpiry_changes d) <|
  forFeeds_keeps (fun f _ => settleFeed_changes f) <|
  forFeeds_keeps (fun f _ => episodeExpiry_changes f) <|
  forChannels_keeps (fun c _ => stageEnd_changes c) <|
  forDistricts_keeps (fun d _ => swapSuccess_changes d) h

theorem lifetimePeriod_changes (c : ChannelId) (h : Changes s t) : Changes s (lifetimePeriod c t) := by
  unfold lifetimePeriod
  split
  · next p own =>
    exact ite_keeps (h.tail (.expired t c p own))
      (h.tail (.onward t c _ fun q _ => ⟨.of_same ⟨rfl, rfl, rfl⟩ rfl rfl, .inl⟩))
  · exact h

theorem lifetimePeriods_changes (h : Changes s t) : Changes s (lifetimePeriods t) :=
  arbitrate_changes t (forChannels_keeps (P := Changes s) (fun c _ => lifetimePeriod_changes c) h)

theorem shedPeriod_changes (f : FeedId) (h : Changes s t) : Changes s (shedPeriod f t) := by
  unfold shedPeriod
  split
  · exact ite_keeps (shedExpiry_changes f h) (modFeed_changes f _ h)
  · exact h

theorem prescalerPeriod_changes (h : Changes s t) : Changes s (prescalerPeriod t) :=
  ite_keeps (h.tail (.clock t _ _)) (ite_keeps (h.tail (.clock t _ _)) (tickBoundary_changes h))

theorem idlePeriod_changes (h : Changes s t) : Changes s (idlePeriod t) :=
  prescalerPeriod_changes (forFeeds_keeps (P := Changes s) (fun f _ => shedPeriod_changes f)
    (lifetimePeriods_changes (periodBoundary_changes 0#16 (settleAll_changes h))))

end Sys2Proof.Machine
end

section
/-! The requests, and with them every command, as chains of small changes (chapters 10 to 12). -/

namespace Sys2Proof.Machine

variable {s t : State}

/-! ### Requests that the line takes (R178 to R183) -/

/-- An error counter that saturates stays in its range (R181). -/
theorem satSucc_le (n : Nat) : satSucc 65535 n ≤ 65535 := Nat.min_le_left _ _

/-- A change of the line that leaves its error counters. -/
theorem setLine_changes {l : Line} (h : Changes s t) (same : l.checkErrors = t.line.checkErrors ∧
    l.frameErrors = t.line.frameErrors ∧ l.replyCollisions = t.line.replyCollisions) : Changes s (t.setLine l) := by
  obtain ⟨check, frame, collisions⟩ := same
  exact h.tail (.line t l fun range =>
    ⟨check ▸ range.checkErrors, frame ▸ range.frameErrors, collisions ▸ range.replyCollisions⟩)

theorem discardFrame_changes (h : Changes s t) : Changes s (discardFrame t) :=
  h.tail (.line t _ fun range => ⟨range.checkErrors, satSucc_le _, range.replyCollisions⟩)

theorem toHunting_changes (h : Changes s t) : Changes s (toHunting t) := setLine_changes h ⟨rfl, rfl, rfl⟩

theorem takeRequest_changes {body : State → Answer} (src kind : Byte) (payload : List Byte)
    (answer : Changes s (body t).state) (h : Changes s t) : Changes s (takeRequest src kind payload body t) :=
  ite_keeps h (ite_keeps (discardFrame_changes h) (setLine_changes answer ⟨rfl, rfl, rfl⟩))

/-! ### Slots and holds (R159 to R166) -/

theorem readThrough_changes (src : Byte) (g : Slot → Slot) (h : Changes s t) : Changes s (readThrough src g t) := by
  unfold readThrough
  split
  · exact h.tail (.slot t _ _)
  · exact h

theorem bodyJoin_changes (src : Byte) (payload : List Byte) (h : Changes s t) :
    Changes s (bodyJoin src payload t).state := by
  refine noPayload_state payload ?_ h
  split
  · exact h.tail (.slot t _ _)
  · split
    · exact h.tail (.slot t _ _)
    · exact h

theorem bodyLeave_changes (src : Byte) (payload : List Byte) (h : Changes s t) :
    Changes s (bodyLeave src payload t).state := by
  refine noPayload_state payload (ofSlot_state src (fun n => ?_) h) h
  split
  · exact h
  · exact h.tail (.slot t n _)

theorem bodySubscribe_changes (src : Byte) (payload : List Byte) (h : Changes s t) :
    Changes s (bodySubscribe src payload t).state := by
  unfold bodySubscribe
  split
  · split
    · exact h
    · exact ofSlot_state src (fun n => h.tail (.slot t n _)) h
  · exact h

theorem takeHolders_changes (d : DistrictId) (x : BitVec 6) (h : Changes s t) : Changes s (takeHolders d x t) :=
  h.tail (.isolation t _ (.holders_of t d x))

theorem setHolders_changes (d : DistrictId) (x : BitVec 6) (h : Changes s t) : Changes s (setHolders d x t) :=
  arbitrate_changes t (takeHolders_changes d x h)

theorem bodyHold_changes (src : Byte) (payload : List Byte) (h : Changes s t) :
    Changes s (bodyHold src payload t).state :=
  oneDistrict_state payload (fun d => ofSlot_state src (fun _ => ite_keeps h (setHolders_changes d _ h)) h) h

theorem bodyRelease_changes (src : Byte) (payload : List Byte) (h : Changes s t) :
    Changes s (bodyRelease src payload t).state := by
  refine oneDistrict_state payload (fun d => ofSlot_state src (fun n => ?_) h) h
  split
  · exact arbitrate_changes t (takeHolders_changes d _ h)
  · exact h

theorem markFormer_changes (d : DistrictId) (former : BitVec 6) (h : Changes s t) :
    Changes s (markFormer d former t) :=
  forSlots_keeps (fun n u hu => ite_keeps (hu.tail (.slot u n _)) hu) h

theorem bodyBreakHold_changes (src : Byte) (payload : List Byte) (h : Changes s t) :
    Changes s (bodyBreakHold src payload t).state :=
  oneDistrict_state payload (fun d => ofSlot_state src (fun _ =>
    ite_keeps h (markFormer_changes d _ (setHolders_changes d _ h))) h) h

theorem bodyAcceptJoint_changes (src : Byte) (payload : List Byte) (h : Changes s t) :
    Changes s (bodyAcceptJoint src payload t).state := by
  refine oneJoint_state payload (fun j => ofSlot_state src (fun n => ?_) h) h
  split
  · exact jointEvent_changes j _ h
  · exact h

/-! ### Grants and lockouts (R94, R168, R169) -/

theorem grantRetry_changes (d : DistrictId) (h : Changes s t)
    (st : (t.district d).st = .cooling .counting ∨ (t.district d).st = .awaitingGrant) :
    Changes s (grantRetry d t) :=
  arbitrate_changes t (markDistrict_changes _ d (h.tail (.retried t d st)))

theorem bodyGrant_changes (src : Byte) (payload : List Byte) (h : Changes s t) :
    Changes s (bodyGrant src payload t).state := by
  refine oneDistrict_state payload (fun d => ofSlot_state src (fun n => ?_) h) h
  split
  · next st => exact grantRetry_changes d h (.inr st)
  all_goals exact h

theorem bodyRetryNow_changes (src : Byte) (payload : List Byte) (h : Changes s t) :
    Changes s (bodyRetryNow src payload t).state := by
  refine oneDistrict_state payload (fun d => ofSlot_state src (fun n => ?_) h) h
  split
  · next st => exact grantRetry_changes d h (.inl st)
  · exact h
  · next st => exact grantRetry_changes d h (.inr st)
  · exact h

theorem bodyClear_changes (src : Byte) (payload : List Byte) (h : Changes s t) :
    Changes s (bodyClear src payload t).state := by
  refine oneDistrict_state payload (fun d => ofSlot_state src (fun n => ?_) h) h
  split
  · next st => exact arbitrate_changes t (markDistrict_changes _ d (h.tail (.cleared t d (by rw [st]; rfl))))
  · exact h

/-! ### Writes (R21 to R25, R57, R58, R92, R156) -/

theorem bodySetDistrict_changes (src : Byte) (payload : List Byte) (h : Changes s t) :
    Changes s (bodySetDistrict src payload t).state := by
  unfold bodySetDistrict
  split
  · exact h
  · refine oneDistrict_state _ (fun d => ?_) h
    split
    · exact h
    · split
      · exact h
      · next k taken =>
        split
        · exact h
        · next free =>
          exact partWide_state src (arbitrate_changes t (h.tail
            (.configured t d _ k taken (Bool.eq_false_iff.mpr free)))) h

/-- A written number is clamped to its range, and another stands (R21). -/
theorem take_le {es : List FieldEntry} {id lo hi x : Nat} (bounds : lo ≤ hi) (range : lo ≤ x ∧ x ≤ hi) :
    lo ≤ take es id lo hi x ∧ take es id lo hi x ≤ hi := by
  unfold take
  split
  · unfold clamp
    omega
  · exact range

theorem takeFeed_inRange {c k : FeedConfig} {es : List FieldEntry} (taken : takeFeed c es = some k)
    (range : c.InRange) : k.InRange := by
  unfold takeFeed at taken
  simp only [Option.bind_eq_bind, Option.bind_eq_some_iff, Option.some.injEq] at taken
  obtain ⟨window, -, high, -, filter, -, rfl⟩ := taken
  exact
    { budget := take_le (by decide) range.budget
      massThreshold := take_le (by decide) range.massThreshold
      massCool := take_le (by decide) range.massCool
      stagger := (take_le (lo := 0) (by decide) ⟨Nat.zero_le _, range.stagger⟩).2
      shedDelay := (take_le (lo := 0) (by decide) ⟨Nat.zero_le _, range.shedDelay⟩).2 }

theorem writeFeed_changes {f : FeedId} {es : List FieldEntry} {k : FeedConfig} (taken : takeFeed (t.fcfg f) es = some k)
    (h : Changes s t) : Changes s (writeFeed f es k t) := by
  have stored : Changes s (t.setFcfg f k) := h.tail (.feedConfigured t f k (takeFeed_inRange taken))
  exact markFeed_changes f (ite_keeps (modFeed_changes f _ stored) stored)

theorem bodySetFeed_changes (src : Byte) (payload : List Byte) (h : Changes s t) :
    Changes s (bodySetFeed src payload t).state := by
  unfold bodySetFeed
  split
  · exact h
  · refine oneFeed_state _ (fun f => ?_) h
    split
    · exact h
    · split
      · exact h
      · next k taken =>
        have written := writeFeed_changes taken h
        exact partWide_state src (ite_keeps (arbiterLook_changes written) written) h

/-- A joint write is refused unless it leaves the settle time below the docking timeout (R156). -/
theorem takeJoint_inRange {c k : JointConfig} {es : List FieldEntry} (taken : takeJoint c es = some k) : k.InRange := by
  unfold takeJoint at taken
  simp only [Option.bind_eq_bind, Option.bind_eq_some_iff] at taken
  obtain ⟨enabled, -, high, -, debounce, -, settle, -, docking, -, taken⟩ := taken
  split at taken
  · next below =>
    cases taken
    exact below
  · cases taken

theorem writeJoint_changes {j : JointId} {es : List FieldEntry} {k : JointConfig}
    (taken : takeJoint (t.jcfg j) es = some k) (h : Changes s t) : Changes s (writeJoint j es k t) := by
  rw [writeJoint_eq]
  exact h.tail (.isolation t _ (.joint_of t j k _ fun _ => takeJoint_inRange taken))

theorem bodySetJoint_changes (src : Byte) (payload : List Byte) (h : Changes s t) :
    Changes s (bodySetJoint src payload t).state := by
  unfold bodySetJoint
  split
  · exact h
  · refine oneJoint_state _ (fun j => ?_) h
    split
    · exact h
    · split
      · exact h
      · next k taken => exact partWide_state src (arbitrate_changes t (writeJoint_changes taken h)) h

theorem takeGlobals_inRange {g : Globals} {es : List FieldEntry} (range : g.InRange) : (takeGlobals g es).InRange where
  k := (take_le (lo := 0) (by decide) ⟨Nat.zero_le _, range.k⟩).2
  base := take_le (by decide) range.base
  ceiling := by
    have base := take_le (es := es) (id := 2) (by decide) range.base
    have ceiling := take_le (es := es) (id := 3) (lo := 1) (hi := 65535) (x := g.ceiling) (by decide)
      ⟨range.base.1.trans range.ceiling.1, range.ceiling.2⟩
    exact ⟨le_max_right _ _, max_le ceiling.2 base.2⟩
  probation := take_le (by decide) range.probation
  grantWindow := take_le (by decide) range.grantWindow
  patrol := take_le (by decide) range.patrol

theorem bodySetGlobals_changes (src : Byte) (payload : List Byte) (h : Changes s t) :
    Changes s (bodySetGlobals src payload t).state := by
  have stored (es : List FieldEntry) : Changes s (t.setGlobals (takeGlobals t.cfg.globals es)) :=
    h.tail (.globals t _ takeGlobals_inRange)
  have written (es : List FieldEntry) : Changes s (writeGlobals es (takeGlobals t.cfg.globals es) t) :=
    ite_keeps (Relation.ReflTransGen.tail (stored es) (.clock _ 0 0)) (stored es)
  unfold bodySetGlobals
  split
  · exact h
  · split
    · exact h
    · split
      · exact h
      · exact partWide_state src (written _) h

/-! ### Modes and the Profile Store (R170 to R177) -/

theorem enterDistrict_mode (d : DistrictId) (t : State) : (enterDistrict d t).mode = t.mode := by
  unfold enterDistrict
  split
  · split <;> rfl
  · split
    · rfl
    · split <;> rfl
  · rfl

theorem enterRun_changes (standby : t.mode = .standby) (h : Changes s t) : Changes s (enterRun t) :=
  arbiterLook_changes (forDistricts_keeps (P := fun u => Changes s u ∧ u.mode = .run)
    (fun d u hu => ⟨hu.1.tail (.enters u d hu.2), (enterDistrict_mode d u).trans hu.2⟩)
    ⟨h.tail (.entered t standby), rfl⟩).1

theorem leaveRun_changes (h : Changes s t) : Changes s (leaveRun t) := h.tail (.left t)

theorem requestMode_changes (m : Mode) (h : Changes s t) : Changes s (requestMode m t).state := by
  have left := leaveRun_changes h
  unfold requestMode
  split
  · next standby =>
    have entered := enterRun_changes standby h
    split
    · exact h
    · dsimp only
      exact entered
  · dsimp only
    exact left
  · exact h
  · exact h

theorem bodySetMode_changes (src : Byte) (payload : List Byte) (h : Changes s t) :
    Changes s (bodySetMode src payload t).state := by
  unfold bodySetMode
  split
  · split
    · exact ofSlot_state src (fun _ => requestMode_changes _ h) h
    · exact h
  · exact h

theorem bodyStoreProfile_changes (src : Byte) (payload : List Byte) (h : Changes s t) :
    Changes s (bodyStoreProfile src payload t).state := by
  refine noPayload_state payload (ofSlot_state src (fun n => ?_) h) h
  split
  · exact h
  · split
    · exact h
    · exact h.tail (.stored t _ _ _ fun range => ⟨nofun, fun p eq => by cases eq; exact range.cfg⟩)

theorem profileWriteEnd_changes (agrees : Bool) (h : Changes s t) : Changes s (profileWriteEnd agrees t) := by
  unfold profileWriteEnd
  split
  · next p writing =>
    exact ite_keeps
      (h.tail (.stored t _ _ _ fun range => ⟨fun q eq => by cases eq; exact range.writing p writing, nofun⟩))
      (h.tail (.stored t _ _ _ fun _ => ⟨nofun, nofun⟩))
  · exact h

/-! ### Every command -/

theorem execReplyStart_changes (h : Changes s t) : ∃ u, exec .replyStart t = .next u ∧ Changes s u := by
  refine ⟨_, rfl, ?_⟩
  split
  · exact setLine_changes h ⟨rfl, rfl, rfl⟩
  · exact h

/-- Every command but a reset is a chain of small changes. -/
theorem exec_changes {i : Instr} (noReset : ∀ straps, i ≠ .powerOnReset straps) (h : Changes s t) :
    ∃ u, exec i t = .next u ∧ Changes s u :=
  have request {src kind : Byte} {payload : List Byte} {body : State → Answer} (answer : Changes s (body t).state) :
      ∃ u, done (takeRequest src kind payload body t) = .next u ∧ Changes s u :=
    ⟨_, rfl, takeRequest_changes src kind payload answer h⟩
  match i with
  | .powerOnReset straps => absurd rfl (noReset straps)
  | .currentSample d _ v =>
    ⟨_, rfl, arbitrate_changes _ (sample_changes d v (Nat.min_le_left _ _) (settleDistrict_changes d h))⟩
  | .swapWindowSuccess d => ⟨_, rfl, swapSuccess_changes d h⟩
  | .episodeWindowExpiry f => ⟨_, rfl, ite_keeps (episodeExpiry_changes f h) h⟩
  | .episodeCapExpiry f => ⟨_, rfl, ite_keeps (episodeExpiry_changes f h) h⟩
  | .stallAssertion f => ⟨_, rfl, stallAssertion_changes f h⟩
  | .stallClear f => ⟨_, rfl, stallClear_changes f h⟩
  | .feedFirstDecision f => ⟨_, rfl, feedDecision_changes f h⟩
  | .shed f => ⟨_, rfl, shedExpiry_changes f h⟩
  | .coolExpiry d => ⟨_, rfl, coolExpiry_changes d h⟩
  | .grantExpiry d => ⟨_, rfl, grantExpiry_changes d h⟩
  | .probationExpiry d => ⟨_, rfl, probationExpiry_changes d h⟩
  | .patrolExpiry d => ⟨_, rfl, patrolExpiry_changes d h⟩
  | .senseEnd c => ⟨_, rfl, ite_keeps (stageEnd_changes c h) h⟩
  | .prechargeEnd c => ⟨_, rfl, ite_keeps (stageEnd_changes c h) h⟩
  | .rampStepEnd c => ⟨_, rfl, ite_keeps (stageEnd_changes c h) h⟩
  | .confirmEnd c => ⟨_, rfl, ite_keeps (stageEnd_changes c h) h⟩
  | .probeLifetimeExpiry c => ⟨_, rfl, lifetimeExpiry_changes c h⟩
  | .jointFirstDecision j => ⟨_, rfl, jointDecision_changes j h⟩
  | .debouncedInputChange j => ⟨_, rfl, inputChange_changes j h⟩
  | .settleExpiry j => ⟨_, rfl, settleExpiry_changes j h⟩
  | .dockingExpiry j => ⟨_, rfl, dockingExpiry_changes j h⟩
  | .partStatus _ payload => request (noPayload_state payload h h)
  | .summary _ payload => request (noPayload_state payload h h)
  | .districtStatus src payload => request (oneDistrict_state payload (fun _ => readThrough_changes src _ h) h)
  | .feedStatus src payload => request (oneFeed_state payload (fun _ => readThrough_changes src _ h) h)
  | .jointStatus src payload => request (oneJoint_state payload (fun _ => readThrough_changes src _ h) h)
  | .readDistrictConfig _ payload => request (by rwa [bodyReadDistrictConfig_unchanged payload])
  | .readFeedConfig _ payload => request (oneFeed_state payload (fun _ => h) h)
  | .readJointConfig _ payload => request (oneJoint_state payload (fun _ => h) h)
  | .readGlobals _ payload => request (noPayload_state payload h h)
  | .join src payload => request (bodyJoin_changes src payload h)
  | .leave src payload => request (bodyLeave_changes src payload h)
  | .subscribe src payload => request (bodySubscribe_changes src payload h)
  | .hold src payload => request (bodyHold_changes src payload h)
  | .release src payload => request (bodyRelease_changes src payload h)
  | .breakHold src payload => request (bodyBreakHold_changes src payload h)
  | .acceptJoint src payload => request (bodyAcceptJoint_changes src payload h)
  | .grant src payload => request (bodyGrant_changes src payload h)
  | .retryNow src payload => request (bodyRetryNow_changes src payload h)
  | .clear src payload => request (bodyClear_changes src payload h)
  | .setDistrict src payload => request (bodySetDistrict_changes src payload h)
  | .setFeed src payload => request (bodySetFeed_changes src payload h)
  | .setJoint src payload => request (bodySetJoint_changes src payload h)
  | .setGlobals src payload => request (bodySetGlobals_changes src payload h)
  | .storeProfile src payload => request (bodyStoreProfile_changes src payload h)
  | .profileWriteEnd agrees => ⟨_, rfl, profileWriteEnd_changes agrees h⟩
  | .setMode src payload => request (bodySetMode_changes src payload h)
  | .unknownKindRequest src kind payload => ⟨_, rfl, ite_keeps h (takeRequest_changes src kind payload h h)⟩
  | .foreignFrame _ => ⟨_, rfl, ite_keeps h (toHunting_changes h)⟩
  | .badSourceFrame _ => ⟨_, rfl, ite_keeps h (discardFrame_changes h)⟩
  | .checkError => ⟨_, rfl, ite_keeps
      (h.tail (.line t _ fun range => ⟨satSucc_le _, range.frameErrors, range.replyCollisions⟩)) h⟩
  | .frameError => ⟨_, rfl, ite_keeps (discardFrame_changes h) h⟩
  | .interByteTimeout => ⟨_, rfl, ite_keeps (discardFrame_changes h) h⟩
  | .replyStart => execReplyStart_changes h
  | .replyEnd => ⟨_, rfl, ite_keeps (toHunting_changes h) h⟩
  | .replyCollision => ⟨_, rfl, ite_keeps
      (h.tail (.line t _ fun range => ⟨range.checkErrors, range.frameErrors, satSucc_le _⟩)) h⟩
  | .tickBoundary => ⟨_, rfl, tickBoundary_changes h⟩
  | .stallLineSample f high => ⟨_, rfl, stallSample_changes f high h⟩
  | .jointSenseSample j high => ⟨_, rfl, jointSample_changes j high h⟩
  | .frameStart => ⟨_, rfl, ite_keeps (setLine_changes h ⟨rfl, rfl, rfl⟩) h⟩

/-- A step is a reset, or a chain of small changes. -/
theorem step_changes {s t : State} (stepped : step s = .next t) :
    (∃ straps q, t = State.afterReset straps s.image q) ∨ Changes s t := by
  cases waiting : s.pending with
  | nil =>
    have idle : step s = .next (idlePeriod s) := by rw [step, waiting]
    obtain rfl := Host.Outcome.next.inj (idle.symm.trans stepped)
    exact .inr (idlePeriod_changes .refl)
  | cons i rest =>
    rw [step_of_pending_cons waiting] at stepped
    by_cases reset : ∃ straps, i = .powerOnReset straps
    · obtain ⟨straps, rfl⟩ := reset
      exact .inl ⟨straps, rest, (Host.Outcome.next.inj stepped).symm⟩
    · obtain ⟨u, next, changes⟩ := exec_changes (fun straps eq => reset ⟨straps, eq⟩)
        (Relation.ReflTransGen.single (Change.pending s rest))
      obtain rfl := Host.Outcome.next.inj (stepped.symm.trans next)
      exact .inr changes

end Sys2Proof.Machine
end

section
/-! Every small change keeps the configuration and the line's error counters in their ranges (R2, R46, R91, R145,
R181). -/

namespace Sys2Proof.Machine

variable {s t u : State}

/-- The two states agree on the configuration, the Profile Store and the line. -/
structure SameStored (t u : State) : Prop where
  cfg : u.cfg = t.cfg
  image : u.image = t.image
  writing : u.writing = t.writing
  line : u.line = t.line

theorem SameStored.refl (t : State) : SameStored t t := ⟨rfl, rfl, rfl, rfl⟩

theorem sameStored_keeps (t : State) : Keeps (SameStored t) where
  district _ _ _ _ h := ⟨h.cfg, h.image, h.writing, h.line⟩
  monitor _ _ _ h := ⟨h.cfg, h.image, h.writing, h.line⟩
  sampled _ _ h := ⟨h.cfg, h.image, h.writing, h.line⟩
  timer _ _ _ h := ⟨h.cfg, h.image, h.writing, h.line⟩
  feed _ _ _ h := ⟨h.cfg, h.image, h.writing, h.line⟩
  episode _ _ _ h := ⟨h.cfg, h.image, h.writing, h.line⟩
  summary _ _ _ h := ⟨h.cfg, h.image, h.writing, h.line⟩
  queue _ _ _ h := ⟨h.cfg, h.image, h.writing, h.line⟩
  channel _ _ _ h := ⟨h.cfg, h.image, h.writing, h.line⟩
  lastGranted _ _ h := ⟨h.cfg, h.image, h.writing, h.line⟩
  slot _ _ _ _ h := ⟨h.cfg, h.image, h.writing, h.line⟩

/-- The ranges that a change keeps: the configuration's and the line's. -/
structure KeepsRanges (t u : State) : Prop where
  config : ConfigInRange t → ConfigInRange u
  line : t.line.InRange → u.line.InRange

theorem SameStored.keepsRanges (h : SameStored t u) : KeepsRanges t u where
  config range := ⟨h.cfg ▸ range.cfg, h.image ▸ range.image, h.writing ▸ range.writing⟩
  line range := h.line ▸ range

/-- A change of the configuration alone, and of what neither the Profile Store nor the line reads. -/
theorem KeepsRanges.of_cfg (cfg : t.cfg.InRange → u.cfg.InRange) (image : u.image = t.image)
    (writing : u.writing = t.writing) (line : u.line = t.line) : KeepsRanges t u where
  config range := ⟨cfg range.cfg, image ▸ range.image, writing ▸ range.writing⟩
  line range := line ▸ range

theorem KeepsRanges.trans {v : State} (h : KeepsRanges t u) (same : SameStored u v) : KeepsRanges t v :=
  ⟨fun range => same.keepsRanges.config (h.config range), fun range => same.keepsRanges.line (h.line range)⟩

/-! ### The values that a district write takes (R21, R22) -/

/-- A number that is not named stands (R21). -/
theorem take_unnamed {es : List FieldEntry} {id lo hi x : Nat} (unnamed : names es id = false) :
    take es id lo hi x = x := by
  have absent : written es id = none := by simpa [names] using unnamed
  rw [take, absent]

/-- H is at least T + 10 after a write, and at most 1,000 (R22). -/
theorem takeHard_inRange {c : DistrictConfig} {es : List FieldEntry} {hard : Nat}
    (taken : takeHard c es (take es 7 10 900 c.trip) = some hard) (trip : c.trip ≤ 900)
    (range : c.trip + 10 ≤ c.hard ∧ c.hard ≤ 1000) :
    take es 7 10 900 c.trip + 10 ≤ hard ∧ hard ≤ 1000 := by
  have top : take es 7 10 900 c.trip ≤ 900 := by
    unfold take clamp
    split <;> omega
  unfold takeHard at taken
  split at taken
  · split at taken
    · cases taken
    · cases taken
      unfold clamp
      omega
  · split at taken
    · cases taken
    · next stands =>
      cases taken
      simp only [Bool.and_eq_true, decide_eq_true_eq, not_and, not_lt] at stands
      refine ⟨?_, range.2⟩
      cases named : names es 7 with
      | true => exact stands named
      | false =>
        have kept : take es 7 10 900 c.trip = c.trip := take_unnamed named
        omega

theorem takeDistrict_inRange {c k : DistrictConfig} {es : List FieldEntry} (taken : takeDistrict c es = some k)
    (range : c.InRange) : k.InRange := by
  unfold takeDistrict at taken
  simp only [Option.bind_eq_bind, Option.bind_eq_some_iff, Option.some.injEq] at taken
  obtain ⟨feed, -, policy, -, reversing, -, patrol, -, hard, hardTaken, rfl⟩ := taken
  exact
    { weight := take_le (by decide) range.weight
      trip := take_le (by decide) range.trip
      hard := takeHard_inRange hardTaken range.trip.2 range.hard
      allowance := take_le (by decide) range.allowance
      leak := (take_le (lo := 0) (by decide) ⟨Nat.zero_le _, range.leak⟩).2
      probeAllowance := take_le (by decide) range.probeAllowance
      preLimit := take_le (by decide) range.preLimit
      preTime := take_le (by decide) range.preTime
      rampSteps := take_le (by decide) range.rampSteps
      stepTime := take_le (by decide) range.stepTime
      confirmTime := take_le (by decide) range.confirmTime
      lockoutLimit := take_le (by decide) range.lockoutLimit
      swapWindow := take_le (by decide) range.swapWindow }

/-! ### Every change -/

/-- What the effects of a district write keep, they keep of the state with the configuration stored (R22 to R25). -/
theorem writeDistrict_keeps_stored {P : State → Prop} (hP : Keeps P) (d : DistrictId) (es : List FieldEntry)
    (k : DistrictConfig) (h : P (t.setDcfg d k)) : P (writeDistrict d es k t) := by
  have named {id : Nat} {effect : State → State} (keeps : ∀ u, P u → P (effect u)) (u : State) (hu : P u) :
      P (whenNamed es id effect u) := ite_keeps (keeps u hu) hu
  exact markDistrict_keeps hP _ d <|
    named (fun _ => patrolEffect_keeps hP d) _ <|
    named (fun _ => policyEffect_keeps hP d) _ <|
    named (fun _ => reversingEffect_keeps hP d) _ <|
    named (fun _ => limitEffect_keeps hP d) _ h

theorem inRange_setDcfg {p : Profile} {d : DistrictId} {k : DistrictConfig} (h : p.InRange) (range : k.InRange) :
    Profile.InRange { p with districts := p.districts.set d k } where
  districts e := by
    by_cases own : d = e
    · subst own
      simpa using range
    · have other : d.val ≠ e.val := fun eq => own (Fin.ext eq)
      simpa [Vector.getElem_set, other] using h.districts e
  feeds := h.feeds
  joints := h.joints
  globals := h.globals

theorem inRange_setFcfg {p : Profile} {f : FeedId} {k : FeedConfig} (h : p.InRange) (range : k.InRange) :
    Profile.InRange { p with feeds := p.feeds.set f k } where
  districts := h.districts
  feeds e := by
    by_cases own : f = e
    · subst own
      simpa using range
    · have other : f.val ≠ e.val := fun eq => own (Fin.ext eq)
      simpa [Vector.getElem_set, other] using h.feeds e
  joints := h.joints
  globals := h.globals

/-- A change of isolation sets leaves the Profile Store and the line alone, and stores joints in their ranges (R156). -/
theorem Overlay.keepsRanges (h : Overlay t u) : KeepsRanges t u := by
  have same := h.same
  refine .of_cfg (fun range => ?_) (by rw [same]) (by rw [same]) (by rw [same])
  have cfg : u.cfg = { t.cfg with joints := u.cfg.joints } := congrArg State.cfg same
  rw [cfg]
  exact ⟨range.districts, range.feeds, h.range range.joints, range.globals⟩

theorem Change.keepsRanges (change : Change t u) : KeepsRanges t u := by
  have start : SameStored t t := .refl t
  have hP := sameStored_keeps t
  cases change with
  | sampled ds => exact SameStored.keepsRanges ⟨rfl, rfl, rfl, rfl⟩
  | advanced f => exact SameStored.keepsRanges ⟨rfl, rfl, rfl, rfl⟩
  | monitor d m => exact SameStored.keepsRanges ⟨rfl, rfl, rfl, rfl⟩
  | record d r => exact SameStored.keepsRanges ⟨rfl, rfl, rfl, rfl⟩
  | restored d => exact (restorePolarity_keeps hP d start).keepsRanges
  | swapped d x => exact (startSwap_keeps hP d x start).keepsRanges
  | probationLoaded d => exact SameStored.keepsRanges ⟨rfl, rfl, rfl, rfl⟩
  | tripped d cause => exact (tripReport_keeps hP d cause start).keepsRanges
  | probeFails c p q cause => exact (failProbe_keeps hP c p cause start).keepsRanges
  | succeeds c p => exact (succeed_keeps hP c p.district start).keepsRanges
  | looksPass c p => exact (passLook_keeps hP c p.district start).keepsRanges
  | expired c p => exact (expireProbe_keeps hP c p start).keepsRanges
  | abandoned f c => exact (abandonProbe_keeps hP f c start).keepsRanges
  | onward c g => exact SameStored.keepsRanges ⟨rfl, rfl, rfl, rfl⟩
  | unwaits f c => exact SameStored.keepsRanges ⟨rfl, rfl, rfl, rfl⟩
  | stalls f => exact SameStored.keepsRanges ⟨rfl, rfl, rfl, rfl⟩
  | counted d n => exact (handCount_keeps hP d n start).keepsRanges
  | closed f x => exact SameStored.keepsRanges ⟨rfl, rfl, rfl, rfl⟩
  | slot n x => exact SameStored.keepsRanges ⟨rfl, rfl, rfl, rfl⟩
  | feed f x => exact SameStored.keepsRanges ⟨rfl, rfl, rfl, rfl⟩
  | joint j x => exact SameStored.keepsRanges ⟨rfl, rfl, rfl, rfl⟩
  | shed f => exact (shedFeed_keeps hP f start).keepsRanges
  | retried d => exact SameStored.keepsRanges ⟨rfl, rfl, rfl, rfl⟩
  | awaits d => exact SameStored.keepsRanges ⟨rfl, rfl, rfl, rfl⟩
  | lapsed d => exact (enterLocked_keeps hP d _ (clearTimer_keeps hP d start)).keepsRanges
  | served d => exact SameStored.keepsRanges ⟨rfl, rfl, rfl, rfl⟩
  | patrols d => exact SameStored.keepsRanges ⟨rfl, rfl, rfl, rfl⟩
  | lookQueued d cause => exact SameStored.keepsRanges ⟨rfl, rfl, rfl, rfl⟩
  | ticked d => exact SameStored.keepsRanges ⟨rfl, rfl, rfl, rfl⟩
  | clock prescaler quarter => exact SameStored.keepsRanges ⟨rfl, rfl, rfl, rfl⟩
  | granted f c e rest => exact (grantChannel_keeps hP f c e rest start).keepsRanges
  | isolation v overlay =>
    exact overlay.keepsRanges.trans (isolationChange_keeps (sameStored_keeps v) t (.refl v))
  | cleared d =>
    have rests := setFailures_keeps hP d 0 (clearTimer_keeps hP d (dropLook_keeps hP d start))
    exact (ite_keeps (P := SameStored t) (ite_keeps (setSt_keeps hP d _ rests) (becomeQueued_keeps hP d rests))
      (setSt_keeps hP d _ rests)).keepsRanges
  | configured d es k taken =>
    have stored : KeepsRanges t (t.setDcfg d k) :=
      .of_cfg (fun range => inRange_setDcfg range (takeDistrict_inRange taken (range.districts d))) rfl rfl rfl
    exact stored.trans (writeDistrict_keeps_stored (sameStored_keeps _) d es k (.refl _))
  | feedConfigured f k range =>
    exact .of_cfg (fun before => inRange_setFcfg before (range (before.feeds f))) rfl rfl rfl
  | globals g range =>
    exact .of_cfg (fun before => ⟨before.districts, before.feeds, before.joints, range before.globals⟩) rfl rfl rfl
  | entered => exact SameStored.keepsRanges ⟨rfl, rfl, rfl, rfl⟩
  | enters d => exact (enterDistrict_keeps hP d start).keepsRanges
  | left =>
    rw [leaveRun_eq]
    exact SameStored.keepsRanges ⟨rfl, rfl, rfl, rfl⟩
  | stored image lost writing range =>
    exact ⟨fun before => ⟨before.cfg, (range before).1, (range before).2⟩, id⟩
  | line l range => exact ⟨fun before => ⟨before.cfg, before.image, before.writing⟩, range⟩
  | pending q => exact SameStored.keepsRanges ⟨rfl, rfl, rfl, rfl⟩

theorem Changes.configInRange (changes : Changes s t) : ConfigInRange s → ConfigInRange t :=
  changes.keeps fun _ _ change => change.keepsRanges.config

theorem Changes.line_inRange (changes : Changes s t) : s.line.InRange → t.line.InRange :=
  changes.keeps fun _ _ change => change.keepsRanges.line

end Sys2Proof.Machine

open Sys2Proof Sys2Proof.Machine
/-- Settles O4: a step is a reset, which takes the configuration from the image or the defaults, or a chain of small
changes, of which a write alone changes the configuration and clamps what it takes. -/
theorem configurationStaysInRange : Obligations.ConfigurationStaysInRange := by
  intro s t range stepped
  rcases step_changes stepped with ⟨straps, q, rfl⟩ | changes
  · exact afterReset_configInRange _ _ _ range.image
  · exact changes.configInRange range
end

section
/-! What one district's view reads after the updates of the state, and the updates that leave every other district's
view alone. -/

namespace Sys2Proof.Machine

variable {s t u : State} {d e : DistrictId}

/-! ### Views after the updates of one record -/

theorem isolationSet_congr (joints : ∀ j, (t.jcfg j).enabled = (s.jcfg j).enabled ∧ (t.jcfg j).cover = (s.jcfg j).cover ∧
    (t.joint j).st = (s.joint j).st) (holders : (t.district d).holders = (s.district d).holders) :
    isolationSet t d = isolationSet s d := by
  have same (j : JointId) : jointIsolates t j d = jointIsolates s j d := by
    obtain ⟨enabled, cover, st⟩ := joints j
    rw [jointIsolates, jointIsolates, enabled, cover, st]
  simp only [isolationSet, jointPart, same, holders]

theorem isolationSet_setDistrict {r : District} (holders : r.holders = (s.district e).holders) :
    isolationSet (s.setDistrict e r) d = isolationSet s d := by
  refine isolationSet_congr (fun _ => ⟨rfl, rfl, rfl⟩) ?_
  rw [State.setDistrict_district]
  split
  · next own => rw [holders, own]
  · rfl

theorem isolationSet_setJoint {j : JointId} {x : Joint} (st : x.st = (s.joint j).st) :
    isolationSet (s.setJoint j x) d = isolationSet s d := by
  refine isolationSet_congr (fun i => ⟨rfl, rfl, ?_⟩) rfl
  rw [State.setJoint_joint]
  split
  · next own => rw [st, own]
  · rfl

theorem view_setDistrict {r : District} (holders : r.holders = (s.district d).holders) :
    view (s.setDistrict d r) d = { view s d with record := r } := by
  rw [view, isolationSet_setDistrict holders]
  simp [view]

theorem view_setMonitor (s : State) (d : DistrictId) (m : Monitor) :
    view (s.setMonitor d m) d = { view s d with monitor := m } := by
  simp only [view, State.setMonitor_monitor_self]
  rfl

theorem view_setTimer (s : State) (d : DistrictId) (x : Timer) :
    view (s.setTimer d x) d = { view s d with timer := x } := by
  simp only [view, State.setTimer_timer_self]
  rfl

theorem view_setDcfg (s : State) (d : DistrictId) (k : DistrictConfig) :
    view (s.setDcfg d k) d = { view s d with cfg := k } := by
  simp only [view, State.setDcfg_dcfg_self]
  rfl

theorem view_setQueue (s : State) (d : DistrictId) (f : FeedId) (q : List Entry) : view (s.setQueue f q) d =
    { view s d with entries := fun g => if g = f then kindsOf d q else (view s d).entries g } := by
  have read (g : FeedId) : kindsOf d ((s.setQueue f q).queue g) = if g = f then kindsOf d q else kindsOf d (s.queue g) := by
    rw [State.setQueue_queue]
    by_cases own : f = g
    · simp [own]
    · simp [own, Ne.symm own]
  simp only [view, read]
  rfl

theorem view_setChannel (s : State) (d : DistrictId) (c : ChannelId) (x : Option Probe) : view (s.setChannel c x) d =
    { view s d with probes := fun b => if b = c then ownProbe d x else (view s d).probes b } := by
  have read (b : ChannelId) : ownProbe d ((s.setChannel c x).channel b) =
      if b = c then ownProbe d x else ownProbe d (s.channel b) := by
    rw [State.setChannel_channel]
    by_cases own : c = b
    · simp [own]
    · simp [own, Ne.symm own]
  simp only [view, read]
  rfl

theorem view_markDistrict (ks : List Mark) (e : DistrictId) (s : State) (d : DistrictId) :
    view (markDistrict ks e s) d = view s d := by
  obtain ⟨slots, marked⟩ := markDistrict_same ks e s
  rw [marked]
  rfl

theorem view_markFeed (f : FeedId) (s : State) (d : DistrictId) : view (markFeed f s) d = view s d := by
  obtain ⟨slots, marked⟩ := markFeed_same f s
  rw [marked]
  rfl

theorem ownProbe_none (d : DistrictId) : ownProbe d none = none := rfl

theorem ownProbe_self (p : Probe) : ownProbe p.district (some p) = some p := by simp [ownProbe]

theorem ownProbe_other {p : Probe} (h : p.district ≠ d) : ownProbe d (some p) = none := by simp [ownProbe, h]

theorem kindsOf_perm {q r : List Entry} (h : q.Perm r) : kindsOf d q = kindsOf d r :=
  Multiset.coe_eq_coe.mpr ((h.filter _).map _)

theorem kindsOf_cons (x : Entry) (q : List Entry) : kindsOf d (x :: q) =
    if x.district = d then x.kind ::ₘ kindsOf d q else kindsOf d q := by
  by_cases own : x.district = d <;> simp [kindsOf, own]

theorem kindsOf_withoutEntry_self (d : DistrictId) (q : List Entry) : kindsOf d (withoutEntry q d) = 0 := by
  simp [kindsOf, withoutEntry, List.filter_filter]

theorem kindsOf_withoutEntry_other (q : List Entry) (h : e ≠ d) : kindsOf d (withoutEntry q e) = kindsOf d q := by
  have kept (x : Entry) : (decide (x.district = d) && (x.district != e)) = decide (x.district = d) := by
    by_cases own : x.district = d
    · simp [own, Ne.symm h]
    · simp [own]
  rw [kindsOf, kindsOf, withoutEntry, List.filter_filter]
  simp only [kept]

/-- The queue with a new entry holds the entry and what it held (R98). -/
theorem placed_perm (q : List Entry) (x : Entry) : (placed q x).Perm (x :: q) := by
  have later (y : Entry) : decide (x.priority < y.priority) = !decide (y.priority ≤ x.priority) := by
    rw [← decide_not, decide_eq_decide, not_le]
  simp only [placed, later]
  exact List.perm_middle.trans ((List.filter_append_perm _ q).cons x)

theorem kindsOf_queueWith (s : State) (k : EntryKind) : kindsOf d (queueWith s d k) = {k} := by
  have removed : kindsOf d ((s.queue (s.dcfg d).feed).filter (fun e => e.district != d)) = 0 :=
    kindsOf_withoutEntry_self d _
  rw [queueWith, kindsOf_perm (placed_perm _ _), kindsOf_cons, if_pos rfl, removed]
  rfl

theorem kindsOf_queueWith_other (s : State) (k : EntryKind) (h : e ≠ d) :
    kindsOf d (queueWith s e k) = kindsOf d (s.queue (s.dcfg e).feed) := by
  rw [queueWith, kindsOf_perm (placed_perm _ _), kindsOf_cons, if_neg h]
  exact kindsOf_withoutEntry_other _ h

/-! ### Updates that leave every other district alone -/

/-- State `t` differs from state `s` in district `d`'s view alone. -/
def Only (d : DistrictId) (s t : State) : Prop := ∀ e, e ≠ d → view t e = view s e

theorem Only.refl (d : DistrictId) (s : State) : Only d s s := fun _ _ => rfl

theorem Only.trans (h : Only d s t) (h' : Only d t u) : Only d s u := fun e other => (h' e other).trans (h e other)

theorem Only.of_view (h : ∀ e, view t e = view s e) : Only d s t := fun e _ => h e

theorem Only.setDistrict (s : State) {r : District} (holders : r.holders = (s.district d).holders) :
    Only d s (s.setDistrict d r) := by
  intro e other
  rw [view, isolationSet_setDistrict holders, State.setDistrict_district, if_neg (Ne.symm other)]
  rfl

theorem Only.setMonitor (s : State) (m : Monitor) : Only d s (s.setMonitor d m) := by
  intro e other
  rw [view, State.setMonitor_monitor, if_neg (Ne.symm other)]
  rfl

theorem Only.setTimer (s : State) (x : Timer) : Only d s (s.setTimer d x) := by
  intro e other
  rw [view, State.setTimer_timer, if_neg (Ne.symm other)]
  rfl

theorem Only.setDcfg (s : State) (k : DistrictConfig) : Only d s (s.setDcfg d k) := by
  intro e other
  rw [view, State.setDcfg_dcfg, if_neg (Ne.symm other)]
  rfl

/-- A queue whose entries of other districts stand. -/
theorem Only.setQueue (s : State) {f : FeedId} {q : List Entry} (h : ∀ e, e ≠ d → kindsOf e q = kindsOf e (s.queue f)) :
    Only d s (s.setQueue f q) := by
  intro e other
  have same (g : FeedId) : (if g = f then kindsOf e q else (view s e).entries g) = (view s e).entries g := by
    split
    · next own =>
      rw [own, h e other]
      rfl
    · rfl
  simp only [view_setQueue, same]

/-- A channel that held no probe of another district and holds none. -/
theorem Only.setChannel (s : State) {c : ChannelId} {x : Option Probe} (before : ∀ p, s.channel c = some p → p.district = d)
    (after : ∀ p, x = some p → p.district = d) : Only d s (s.setChannel c x) := by
  intro e other
  have none_of {y : Option Probe} (h : ∀ p, y = some p → p.district = d) : ownProbe e y = none := by
    cases y with
    | none => rfl
    | some p => exact ownProbe_other fun own => other (own.symm.trans (h p rfl))
  have same (b : ChannelId) : (if b = c then ownProbe e x else (view s e).probes b) = (view s e).probes b := by
    split
    · next own =>
      rw [own, none_of after]
      exact (none_of before).symm
    · rfl
  simp only [view_setChannel, same]

theorem Only.mark (h : Only d s t) (ks : List Mark) (e : DistrictId) : Only d s (markDistrict ks e t) :=
  h.trans (.of_view (view_markDistrict ks e t))

theorem Only.enqueue (s : State) (k : EntryKind) : Only d s (s.setQueue (s.dcfg d).feed (queueWith s d k)) :=
  .setQueue s fun _ other => kindsOf_queueWith_other s k (Ne.symm other)

theorem Only.removeEntry (s : State) : Only d s (removeEntry d s) :=
  .setQueue s fun _ other => kindsOf_withoutEntry_other _ (Ne.symm other)

theorem Only.setSt (s : State) (x : DistrictState) : Only d s (Machine.setSt d x s) := .setDistrict s rfl

theorem Only.modDistrict (s : State) {g : District → District} (holders : ∀ r, (g r).holders = r.holders) :
    Only d s (s.modDistrict d g) := .setDistrict s (holders _)

theorem Only.writeFail (s : State) (cause : FailCause) : Only d s (Machine.writeFail d cause s) := .setDistrict s rfl

theorem Only.setFailures (s : State) (n : Nat) : Only d s (Machine.setFailures d n s) := .setDistrict s rfl

theorem Only.raiseFailures (s : State) : Only d s (Machine.raiseFailures d s) := .setDistrict s rfl

theorem Only.loadTimer (s : State) (p : Purpose) (n : Nat) : Only d s (Machine.loadTimer d p n s) := .setTimer s _

theorem Only.becomeQueued (s : State) : Only d s (Machine.becomeQueued d s) := (Only.setSt s .queued).trans (.enqueue _ _)

theorem Only.becomeAwaitingGrant (s : State) : Only d s (Machine.becomeAwaitingGrant d s) :=
  (Only.setSt s .awaitingGrant).trans (.setTimer _ _)

theorem Only.clearTimer (s : State) : Only d s (Machine.clearTimer d s) := .setTimer s _

theorem Only.enterLocked (s : State) (cause : LockCause) : Only d s (Machine.enterLocked d cause s) := by
  rw [enterLocked_state]
  exact (Only.setDistrict s (by rfl)).trans (.setTimer _ _)

theorem Only.setLook (s : State) (x : LookStatus) : Only d s (Machine.setLook d x s) := by
  unfold Machine.setLook
  split
  · exact .setSt s _
  · exact .refl d s

theorem Only.abandonWindow (s : State) : Only d s (Machine.abandonWindow d s) := by
  rw [abandonWindow_eq]
  exact (Only.setMonitor s _).trans (.setDistrict _ rfl)

theorem Only.endProbation (s : State) : Only d s (Machine.endProbation d s) := by
  unfold Machine.endProbation
  split
  · exact (Only.setDistrict s (by rfl)).trans (.clearTimer _)
  · exact .refl d s

theorem view_stopWaiting (f : FeedId) (c : ChannelId) (s : State) (d : DistrictId) :
    view (stopWaiting f c s) d = view s d := rfl

theorem Only.endProbe {c : ChannelId} {p : Probe} (own : s.channel c = some p) (district : p.district = d) :
    Only d s (Machine.endProbe c s) := by
  subst district
  rw [endProbe_eq s own]
  refine (Only.abandonWindow s).trans (Only.trans (.of_view (view_stopWaiting p.feed c _)) (.setChannel _ (fun q hq => ?_)
    nofun))
  have same : (stopWaiting p.feed c (Machine.abandonWindow p.district s)).channel c = some p := by
    simp [stopWaiting, State.modEpisode, abandonWindow_eq, own]
  cases same.symm.trans hq
  rfl

theorem channelOf_occupied {c : ChannelId} (h : channelOf s d = some c) :
    ∃ p, s.channel c = some p ∧ p.district = d := by
  have holds := List.find?_some h
  cases own : s.channel c with
  | none => simp [own] at holds
  | some p => exact ⟨p, rfl, by simpa [own] using holds⟩

theorem Only.dropLook (s : State) : Only d s (Machine.dropLook d s) := by
  unfold Machine.dropLook
  split
  · exact (Only.removeEntry s).trans (.setSt _ _)
  · split
    · next c held =>
      obtain ⟨p, own, district⟩ := channelOf_occupied held
      exact (Only.endProbe own district).trans (.setSt _ _)
    · exact .setSt s _
  · exact .refl d s

end Sys2Proof.Machine
end

section
/-! The operations of one district, the ends of its probe above all, as chains of small changes of its view
(R39 to R44, R107, R120 to R128). -/

namespace Sys2Proof.Machine

variable {s t u : State} {d : DistrictId} {v w : View}

/-- An operation of district `d`: a chain of small changes of its view, and no other district's view changes. -/
structure Acts (d : DistrictId) (s t : State) : Prop where
  own : VSteps (view s d) (view t d)
  only : Only d s t

theorem Acts.refl (d : DistrictId) (s : State) : Acts d s s := ⟨.refl, .refl d s⟩

theorem Acts.trans (h : Acts d s t) (h' : Acts d t u) : Acts d s u := ⟨h.own.trans h'.own, h.only.trans h'.only⟩

theorem Acts.mark (h : Acts d s t) (ks : List Mark) (e : DistrictId) : Acts d s (markDistrict ks e t) :=
  ⟨by rw [view_markDistrict]; exact h.own, h.only.mark ks e⟩

theorem Acts.every (h : Acts d s t) (e : DistrictId) : VSteps (view s e) (view t e) := by
  by_cases own : e = d
  · rw [own]
    exact h.own
  · rw [h.only e own]

/-! ### One update -/

theorem Acts.monitor (s : State) (m : Monitor) (window : m.window.isSome → (s.monitor d).window.isSome)
    (integrator : (s.monitor d).integrator ≤ 65535 → m.integrator ≤ 65535)
    (history : (∀ k : Fin 8, (s.monitor d).history[k] ≤ 1000) → ∀ k : Fin 8, m.history[k] ≤ 1000) :
    Acts d s (s.setMonitor d m) :=
  ⟨by rw [view_setMonitor]; exact .single (.monitor _ m window integrator history), .setMonitor s m⟩

theorem Acts.record (s : State) (r : District)
    (same : r = { s.district d with lastTrip := r.lastTrip, lastFail := r.lastFail, trips := r.trips, swaps := r.swaps })
    (trips : (s.district d).trips ≤ 65535 → r.trips ≤ 65535) (swaps : (s.district d).swaps ≤ 255 → r.swaps ≤ 255) :
    Acts d s (s.setDistrict d r) := by
  have holders : r.holders = (s.district d).holders := by rw [same]
  refine ⟨?_, .setDistrict s holders⟩
  rw [view_setDistrict holders]
  refine .single (.record _ r ?_ ?_ ?_ ?_ trips swaps) <;> rw [same] <;> rfl

theorem Acts.clearIntegrator (s : State) : Acts d s (Machine.clearIntegrator d s) :=
  .monitor s _ id (fun _ => Nat.zero_le _) id

theorem Acts.restorePolarity (s : State) : Acts d s (Machine.restorePolarity d s) := by
  unfold Machine.restorePolarity
  split
  · next w window =>
    refine ⟨?_, (Only.setMonitor s _).trans (.setDistrict _ rfl)⟩
    rw [State.modDistrict, view_setDistrict (by rfl), State.modMonitor, view_setMonitor]
    have present : (view s d).monitor.window.isSome := by
      change (s.monitor d).window.isSome
      rw [window]
      rfl
    exact .tail (.single (.polarity _ w.before (.inl present))) (.monitor _ _ nofun id id)
  · exact .refl d s

theorem Acts.abandonWindow (s : State) : Acts d s (Machine.abandonWindow d s) :=
  (Acts.restorePolarity s).trans (.clearIntegrator _)

/-! ### Operations as their own district's view shows them -/

/-- The district takes state `x`. -/
def View.inState (v : View) (x : DistrictState) : View := { v with record := { v.record with st := x } }

/-- The district has F at `n`. -/
def View.withFailures (v : View) (n : Nat) : View := { v with record := { v.record with failures := n } }

/-- The timer of a district that enters LOCKED (R88). -/
def View.lockedTimer (v : View) : Timer :=
  if v.cfg.patrol = true ∧ v.isolated = false ∧ v.mode = .run then loaded .patrol v.globals.patrol else Timer.empty

/-- The district is QUEUED with its one entry (R97). -/
def View.becomeQueued (v : View) : View :=
  { v with
    record := { v.record with st := .queued }
    entries := fun f => if f = v.cfg.feed then {.full} else v.entries f }

/-- The district is AWAITING_GRANT with a full grant window (R84). -/
def View.becomeAwaitingGrant (v : View) : View :=
  { v with record := { v.record with st := .awaitingGrant }, timer := loaded .grant v.globals.grantWindow }

theorem view_modDistrict (s : State) (d : DistrictId) {g : District → District} (holders : ∀ r, (g r).holders = r.holders) :
    view (s.modDistrict d g) d = { view s d with record := g (view s d).record } :=
  view_setDistrict (holders _)

theorem view_setSt (s : State) (d : DistrictId) (x : DistrictState) : view (setSt d x s) d = (view s d).inState x :=
  view_setDistrict rfl

theorem view_setFailures (s : State) (d : DistrictId) (n : Nat) :
    view (setFailures d n s) d = (view s d).withFailures n := view_setDistrict rfl

theorem view_raiseFailures (s : State) (d : DistrictId) : view (raiseFailures d s) d =
    (view s d).withFailures (min (view s d).cfg.lockoutLimit ((view s d).record.failures + 1)) := view_setDistrict rfl

theorem view_writeFail (s : State) (d : DistrictId) (cause : FailCause) : view (writeFail d cause s) d =
    { view s d with record := { (view s d).record with lastFail := some cause } } := view_setDistrict rfl

theorem view_clearTimer (s : State) (d : DistrictId) :
    view (clearTimer d s) d = { view s d with timer := Timer.empty } := view_setTimer s d _

theorem view_loadTimer (s : State) (d : DistrictId) (p : Purpose) (n : Nat) :
    view (loadTimer d p n s) d = { view s d with timer := loaded p n } := by
  rw [loadTimer_eq, view_setTimer]

theorem view_setLook (s : State) (d : DistrictId) (x : LookStatus) :
    view (setLook d x s) d = (view s d).inState (withLook x (view s d).record.st) := by
  unfold setLook
  have st : (view s d).record.st = (s.district d).st := rfl
  rw [st]
  split
  · next h => rw [h, view_setSt]; rfl
  · next h =>
    have same : withLook x (s.district d).st = (s.district d).st := by
      unfold withLook
      split
      · next h' => exact absurd h' (h _ _)
      · rfl
    rw [same]
    rfl

theorem view_enterLocked (s : State) (d : DistrictId) (cause : LockCause) : view (enterLocked d cause s) d =
    { (view s d).inState (.locked cause .noLook) with timer := (view s d).lockedTimer } := by
  rw [enterLocked_state, view_setTimer, view_setDistrict (by rfl)]
  rfl

theorem view_endProbation (s : State) (d : DistrictId) : view (endProbation d s) d =
    if (view s d).record.probation then
      { view s d with record := { (view s d).record with probation := false }, timer := Timer.empty }
    else view s d := by
  unfold endProbation
  have probation : (view s d).record.probation = (s.district d).probation := rfl
  rw [probation]
  split
  · rw [view_clearTimer, view_modDistrict _ _ (by intro r; rfl)]
  · rfl

theorem view_becomeQueued (s : State) (d : DistrictId) : view (becomeQueued d s) d = (view s d).becomeQueued := by
  rw [becomeQueued_eq, view_setQueue, view_setDistrict (by rfl), kindsOf_queueWith]
  rfl

theorem view_becomeAwaitingGrant (s : State) (d : DistrictId) :
    view (becomeAwaitingGrant d s) d = (view s d).becomeAwaitingGrant := by
  rw [becomeAwaitingGrant_eq, view_setTimer, view_setDistrict (by rfl)]
  rfl

/-! ### The end of a probe (R107) -/

/-- The probes of a district that holds none but the one in channel `c`, once that channel is free. -/
def View.freed (v : View) (c : ChannelId) : ChannelId → Option Probe := fun b => if b = c then none else v.probes b

theorem View.Agrees.freed (h : v.Agrees) {c : ChannelId} {p : Probe} (own : v.probes c = some p) (b : ChannelId) :
    v.freed c b = none := by
  unfold View.freed
  split
  · rfl
  · next other =>
    cases held : v.probes b with
    | none => rfl
    | some q => exact absurd (h.channel b c q p held own) other

theorem abandonWindow_window (s : State) (d : DistrictId) : ((abandonWindow d s).monitor d).window = none := by
  simp [abandonWindow_eq]

theorem abandonWindow_channel (s : State) (d : DistrictId) (c : ChannelId) :
    (abandonWindow d s).channel c = s.channel c := by simp [abandonWindow_eq]

section
variable {c : ChannelId} {p : Probe} (own : s.channel c = some p)
include own

theorem view_endProbe : view (endProbe c s) p.district = { view (abandonWindow p.district s) p.district with
    probes := (view (abandonWindow p.district s) p.district).freed c } := by
  rw [endProbe_eq s own, view_setChannel, view_stopWaiting]
  rfl

theorem abandoned_probe : (view (abandonWindow p.district s) p.district).probes c = some p :=
  view_probes_eq_some.mpr ⟨by rw [abandonWindow_channel, own], rfl⟩

/-- A FULL probe's end leaves its district, once its state is overwritten, as one small change (R107). -/
theorem endProbe_full (full : p.kind = .look → lookStage p = false) : VSteps (view s p.district)
    ((view (endProbe c s) p.district).inState (.cooling .merging)) := by
  have probe := abandoned_probe own
  rw [view_endProbe own]
  refine (Acts.abandonWindow s).own.tail (.probeEnds _ _ (fun agrees => ?_) (fun _ => abandonWindow_window s _)
    fun agrees => agrees.freed probe)
  obtain ⟨-, kind, stands⟩ := agrees.context c p probe
  cases k : p.kind with
  | full => exact probeKindOf_eq_full.mp (k ▸ kind)
  | look => exact absurd ((full k).symm.trans (stands k)) Bool.false_ne_true

theorem endProbe_look (look : probeKindOf (s.district p.district).st = some p.kind → p.kind = .look) : VSteps (view s p.district)
    ((view (endProbe c s) p.district).inState (withLook .noLook (view (endProbe c s) p.district).record.st)) := by
  have probe := abandoned_probe own
  rw [view_endProbe own]
  refine (Acts.abandonWindow s).own.tail (.lookEnds _ _ (fun agrees => ?_) (fun _ => abandonWindow_window s _)
    fun agrees => agrees.freed probe)
  have st : (view (abandonWindow p.district s) p.district).record.st = (s.district p.district).st := by
    simp [view, abandonWindow_eq]
  have kind := (agrees.context c p probe).2.1
  exact probeKindOf_eq_look.mp (look (st ▸ kind) ▸ kind)

theorem endProbe_pass (n : Nat) (below : (view (endProbe c s) p.district).InRange →
      n < (view (endProbe c s) p.district).cfg.lockoutLimit) :
    VSteps (view s p.district) { view (endProbe c s) p.district with
      record := { (view (endProbe c s) p.district).record with st := .cooling .merging, failures := n },
      timer := Timer.empty } := by
  have probe := abandoned_probe own
  have ends := view_endProbe own
  rw [ends] at below ⊢
  refine (Acts.abandonWindow s).own.tail (.lookPasses _ _ n (fun agrees => ?_) (fun _ => abandonWindow_window s _)
    (fun agrees => agrees.freed probe) fun range => below ⟨range.cfg, range.globals⟩)
  have kind := (agrees.context c p probe).2.1
  cases k : p.kind with
  | full => exact .inl (probeKindOf_eq_full.mp (k ▸ kind))
  | look => exact .inr (probeKindOf_eq_look.mp (k ▸ kind))
end

/-! ### Entries to a state (R82, R84, R97, R123) -/

theorem VSteps.lockedTimer (h : VSteps v w) (locked : isLocked w.record.st = true) :
    VSteps v { w with timer := w.lockedTimer } := by
  unfold View.lockedTimer
  split
  · next runs =>
    obtain ⟨patrol, free, run⟩ := runs
    exact h.tail (.timerLoaded w .patrol _ (.inl ⟨locked, patrol, free, run⟩) fun range => range.globals.patrol.2)
  · exact h.tail (.timerCleared w)

/-- From the place where a district has no entry it becomes QUEUED (R97). -/
theorem VSteps.queued (h : VSteps v w) (merging : w.record.st = .cooling .merging) : VSteps v w.becomeQueued := by
  refine h.tail (.enqueued w _ merging fun agrees f => ?_)
  rw [agrees.no_entries (by rw [merging]; rfl)]

theorem VSteps.awaiting (h : VSteps v w) (merging : w.record.st = .cooling .merging) :
    VSteps v w.becomeAwaitingGrant :=
  .tail (h.tail (.follows w .awaitingGrant merging rfl))
    (.timerLoaded _ .grant _ rfl fun range => range.globals.grantWindow.2)

/-- A lockout begins, F having risen to the limit at most (R4, R42, R123). -/
theorem VSteps.lockedOut (h : VSteps v w) (merging : w.record.st = .cooling .merging) (cause : LockCause) {n : Nat}
    (limit : n ≤ w.cfg.lockoutLimit) :
    VSteps v { w with
      record := { w.record with st := .locked cause .noLook, failures := n }, timer := w.lockedTimer } := by
  have locked := h.tail (.follows w (.locked cause .noLook) merging rfl)
  exact VSteps.lockedTimer (locked.tail (.failures _ n fun _ => .inr ⟨rfl, limit⟩)) rfl

end Sys2Proof.Machine
end

section
/-! Trips, failures, passes and lifetimes as chains of small changes of one district's view (R41 to R44, R120 to
R128, R136). -/

namespace Sys2Proof.Machine

variable {s t u : State} {d : DistrictId} {v w : View}

/-! ### What a probe's end leads to -/

/-- A fail cause is written (R6). -/
theorem VSteps.writesFail (h : VSteps v w) (cause : FailCause) :
    VSteps v { w with record := { w.record with lastFail := some cause } } :=
  h.tail (.record w _ rfl rfl rfl rfl id id)

section
variable {c : ChannelId} {p : Probe} (own : s.channel c = some p)
include own

/-- A failed FULL probe: with F risen, the district is locked out, or waits for a close, or counts (R122). -/
theorem failFull_acts (cause : FailCause) (full : p.kind = .full) : Acts p.district s (failFull c p.district cause s) := by
  have ended := endProbe_full own fun look => by rw [full] at look; cases look
  have only := Only.endProbe own rfl
  unfold failFull
  obtain ⟨t, ht⟩ : ∃ t, t = raiseFailures p.district (writeFail p.district cause (endProbe c s)) := ⟨_, rfl⟩
  obtain ⟨n, hn⟩ : ∃ n, n = min (view (endProbe c s) p.district).cfg.lockoutLimit
    ((view (endProbe c s) p.district).record.failures + 1) := ⟨_, rfl⟩
  have limit : n ≤ (view (endProbe c s) p.district).cfg.lockoutLimit := hn ▸ Nat.min_le_left _ _
  have shown : view t p.district = ({ view (endProbe c s) p.district with
      record := { (view (endProbe c s) p.district).record with lastFail := some cause } } : View).withFailures n := by
    rw [ht, view_raiseFailures, view_writeFail, hn]
  have told : VSteps (view s p.district) ({ view (endProbe c s) p.district with record :=
      { (view (endProbe c s) p.district).record with st := .cooling .merging, lastFail := some cause } } : View) :=
    ended.writesFail cause
  have onlyRaised : Only p.district s t := by
    rw [ht]
    exact only.trans ((Only.writeFail _ cause).trans (.raiseFailures _))
  rw [← ht]
  have lockout (why : LockCause) : Acts p.district s (enterLocked p.district why t) := by
    refine ⟨?_, onlyRaised.trans (.enterLocked t why)⟩
    rw [view_enterLocked, shown]
    exact told.lockedOut rfl why limit
  unfold failedState
  split
  · exact (lockout .limit).mark _ _
  · next below =>
    have below : n < (view (endProbe c s) p.district).cfg.lockoutLimit := by
      have shown : ¬ (view t p.district).cfg.lockoutLimit ≤ (view t p.district).record.failures := below
      rw [‹view t p.district = _›] at shown
      exact not_le.mp shown
    split
    · exact (lockout .manualPolicy).mark _ _
    · split
      · refine Acts.mark ⟨?_, onlyRaised.trans ((Only.setSt t _).trans (.clearTimer _))⟩ _ _
        rw [view_clearTimer, view_setSt, shown]
        exact .tail (told.tail (.failures _ n fun _ => .inl below)) (.timerCleared _)
      · refine Acts.mark ⟨?_, onlyRaised.trans ((Only.setSt t _).trans (.loadTimer _ _ _))⟩ _ _
        rw [view_loadTimer, view_setSt, shown]
        refine .tail (.tail (told.tail (.failures _ n fun _ => .inl below)) (.follows _ (.cooling .counting) rfl rfl))
          (.timerLoaded _ .cool _ rfl fun range => ?_)
        have same : t.cfg = (endProbe c s).cfg := by rw [ht]; rfl
        have ceiling := range.globals.ceiling.2
        unfold backoff
        rw [same]
        exact (Nat.min_le_left _ _).trans ceiling

theorem failLook_acts (cause : FailCause) (look : p.kind = .look) : Acts p.district s (failLook c p.district cause s) := by
  unfold failLook
  refine Acts.mark ⟨?_, (Only.endProbe own rfl).trans ((Only.writeFail _ cause).trans (.setLook _ _))⟩ _ _
  rw [view_setLook, view_writeFail]
  exact (endProbe_look own fun _ => look).writesFail _

theorem succeed_acts (confirm : p.stage.isConfirm = true) : Acts p.district s (succeed c p.district s) := by
  have ended := endProbe_full own fun _ => by
    cases stage : p.stage <;> simp_all [lookStage, Stage.isConfirm, Stage.isSense, Stage.isPrecharge]
  unfold succeed
  refine Acts.mark ⟨?_, (Only.endProbe own rfl).trans ((Only.modDistrict _ (by intro r; rfl)).trans (.loadTimer _ _ _))⟩ _ _
  rw [view_loadTimer, view_modDistrict _ _ (by intro r; rfl)]
  refine .tail (ended.tail (.recovers _ rfl)) (.timerLoaded _ .probation _ rfl fun range => ?_)
  have same : (endProbe c s).cfg = s.cfg := (endProbe_sameOuter s c).cfg
  rw [← same]
  exact range.globals.probation.2

theorem passLook_acts : Acts p.district s (passLook c p.district s) := by
  obtain ⟨t, ht⟩ : ∃ t, t = clearTimer p.district
    (setFailures p.district ((s.dcfg p.district).lockoutLimit - 1) (endProbe c s)) := ⟨_, rfl⟩
  have only : Only p.district s t := by
    rw [ht]
    exact (Only.endProbe own rfl).trans ((Only.setFailures _ _).trans (.clearTimer _))
  have passed := endProbe_pass own ((s.dcfg p.district).lockoutLimit - 1) fun range => by
    have same : (view (endProbe c s) p.district).cfg = s.dcfg p.district := (endProbe_sameOuter s c).dcfg p.district
    have positive := range.cfg.lockoutLimit.1
    rw [same] at positive ⊢
    omega
  have shown : view t p.district = { (view (endProbe c s) p.district).withFailures
      ((s.dcfg p.district).lockoutLimit - 1) with timer := Timer.empty } := by
    rw [ht, view_clearTimer, view_setFailures]
  unfold passLook
  dsimp only
  rw [← ht]
  split
  · refine Acts.mark ⟨?_, only.trans (.becomeQueued t)⟩ _ _
    rw [view_becomeQueued, shown]
    exact passed.queued rfl
  · refine Acts.mark ⟨?_, only.trans (.becomeAwaitingGrant t)⟩ _ _
    rw [view_becomeAwaitingGrant, shown]
    exact passed.awaiting rfl

theorem expireProbe_acts : Acts p.district s (expireProbe c p s) := by
  have only : Only p.district s (writeFail p.district .lifetime (endProbe c s)) :=
    (Only.endProbe own rfl).trans (.writeFail _ _)
  unfold expireProbe
  dsimp only
  split
  · next full =>
    refine Acts.mark ⟨?_, only.trans (.becomeQueued _)⟩ _ _
    have ended := endProbe_full own fun look => by rw [full] at look; cases look
    have queued := (ended.writesFail .lifetime).queued rfl
    rw [view_becomeQueued, view_writeFail]
    exact queued
  · next look =>
    refine Acts.mark ⟨?_, only.trans (.setLook _ _)⟩ _ _
    rw [view_setLook, view_writeFail]
    exact (endProbe_look own fun _ => look).writesFail _
end

theorem failProbe_acts {c : ChannelId} {p q : Probe} (cause : FailCause) (own : s.channel c = some q)
    (district : q.district = p.district) (kind : q.kind = p.kind) : Acts p.district s (failProbe c p cause s) := by
  unfold failProbe
  split
  · next full => exact district ▸ failFull_acts own cause (kind.trans full)
  · next look => exact district ▸ failLook_acts own cause (kind.trans look)

/-- A district joins an episode, marked (R54, R136): its view takes the state, and its timer stops. -/
theorem view_joinMerging (f : FeedId) (s : State) (d : DistrictId) : view (joinMerging f d s) d =
    { (view s d).inState (.cooling .merging) with timer := Timer.empty } := by
  rw [joinMerging, view_markDistrict, view_clearTimer]
  have joined : view ((setSt d (.cooling .merging) s).modEpisode f (fun e => e.addMember d)) d =
      view (setSt d (.cooling .merging) s) d := rfl
  rw [joined, view_setSt]

theorem Only.joinMerging (f : FeedId) (s : State) (d : DistrictId) : Only d s (Machine.joinMerging f d s) := by
  have joined : Only d s ((Machine.setSt d (.cooling .merging) s).modEpisode f (fun e => e.addMember d)) :=
    Only.trans (.setSt s _) (.of_view fun _ => rfl)
  exact (joined.trans (.clearTimer _)).mark _ _

theorem abandonProbe_acts (f : FeedId) {c : ChannelId} {p : Probe} (own : s.channel c = some p) :
    Acts p.district s (abandonProbe f c s) := by
  unfold abandonProbe
  rw [own]
  dsimp only
  split
  · next full =>
    refine ⟨?_, (Only.endProbe own rfl).trans (.joinMerging f _ _)⟩
    rw [view_joinMerging]
    exact (endProbe_full own fun look => by rw [full] at look; cases look).tail (.timerCleared _)
  · next look =>
    refine ⟨?_, (Only.endProbe own rfl).trans (.setLook _ _)⟩
    rw [view_setLook]
    exact endProbe_look own fun _ => look

end Sys2Proof.Machine
end

section
/-! Every other change of one district as a chain of small changes of its view (R35, R41, R54, R75, R79 to R89, R106,
R138, R169, R171). -/

namespace Sys2Proof.Machine

variable {s t u : State} {d : DistrictId} {v w : View}

/-! ### Trips and sheds of a LIVE district (R41, R54) -/

theorem view_clearIntegrator (s : State) (d : DistrictId) : view (clearIntegrator d s) d =
    { view s d with monitor := { (view s d).monitor with integrator := 0 } } := view_setMonitor s d _

theorem view_arrive (f : FeedId) (d : DistrictId) (s : State) (e : DistrictId) :
    view (arrive f d s) e = view s e := by
  unfold arrive
  split <;> rfl

/-- LIVE ends, where probation and its timer have ended if it was set (R5). -/
theorem VSteps.liveEnded (h : VSteps v w) (live : w.record.st = .live) (window : w.monitor.window = none)
    (probation : w.record.probation = false) : VSteps v (w.inState (.cooling .merging)) := by
  have ended := h.tail (.liveEnds w w.timer live window (.inr ⟨rfl, probation⟩))
  have same : ({ w with record := { w.record with st := .cooling .merging, probation := false } } : View) =
      w.inState (.cooling .merging) := by simp [View.inState, probation]
  rwa [← same]

/-- The new state at a trip report: a lockout, or a place in the episode (R41). -/
theorem trippedState_own
    (locked : ∀ cause, VSteps v { (view t d).inState (.locked cause .noLook) with timer := (view t d).lockedTimer })
    (merging : (view t d).record.failures < (view t d).cfg.lockoutLimit →
      VSteps v { (view t d).inState (.cooling .merging) with timer := Timer.empty }) :
    VSteps v (view (trippedState d t) d) := by
  unfold trippedState
  split
  · rw [view_markDistrict, view_enterLocked]
    exact locked .manualPolicy
  · split
    · rw [view_markDistrict, view_enterLocked]
      exact locked .limit
    · next below =>
      rw [view_markDistrict, view_clearTimer, view_setSt]
      exact merging (not_le.mp below)

theorem Only.trippedState (s : State) : Only d s (Machine.trippedState d s) := by
  unfold Machine.trippedState
  split
  · exact (Only.enterLocked s _).mark _ _
  · split
    · exact (Only.enterLocked s _).mark _ _
    · exact ((Only.setSt s _).trans (.clearTimer _)).mark _ _

/-- The trip is counted, with its cause (R6, R7). -/
def countTrip (d : DistrictId) (cause : TripCause) (s : State) : State :=
  s.modDistrict d (fun r => { r with trips := satSucc 65535 r.trips, lastTrip := some cause })

theorem tripReport_steps (d : DistrictId) (cause : TripCause) (s : State) : tripReport d cause s =
    let t := countTrip d cause s
    let t := if (t.district d).probation then endProbation d (raiseFailures d t) else t
    arrive (t.dcfg d).feed d (trippedState d (clearIntegrator d t)) := rfl

theorem countTrip_acts (s : State) (d : DistrictId) (cause : TripCause) : Acts d s (countTrip d cause s) :=
  .record s _ rfl (fun _ => Nat.min_le_left _ _) id

theorem tripReport_acts (cause : TripCause) (live : (s.district d).st = .live)
    (window : (s.monitor d).window = none) : Acts d s (tripReport d cause s) := by
  have counted := countTrip_acts s d cause
  obtain ⟨t, ht⟩ : ∃ t, t = countTrip d cause s := ⟨_, rfl⟩
  have liveStill : (view t d).record.st = .live := by
    rw [ht]
    simpa [countTrip, State.modDistrict, view] using live
  have windowStill : (view t d).monitor.window = none := by
    rw [ht]
    exact window
  have quiet (u : State) : Acts d u (clearIntegrator d u) := .clearIntegrator u
  rw [tripReport_steps]
  dsimp only
  rw [← ht] at counted ⊢
  split
  · next on =>
    have on : (view t d).record.probation = true := on
    obtain ⟨n, hn⟩ : ∃ n, n = min (view t d).cfg.lockoutLimit ((view t d).record.failures + 1) := ⟨_, rfl⟩
    have limit : n ≤ (view t d).cfg.lockoutLimit := hn ▸ Nat.min_le_left _ _
    have raised : view (clearIntegrator d (endProbation d (raiseFailures d t))) d = { view t d with
        record := { (view t d).record with failures := n, probation := false }, timer := Timer.empty,
        monitor := { (view t d).monitor with integrator := 0 } } := by
      have still : ((view t d).withFailures n).record.probation = true := on
      rw [view_clearIntegrator, view_endProbation, view_raiseFailures, ← hn, if_pos still]
      rfl
    have ended : VSteps (view s d) { (view t d) with
        record := { (view t d).record with st := .cooling .merging, probation := false }, timer := Timer.empty,
        monitor := { (view t d).monitor with integrator := 0 } } :=
      .tail (counted.own.tail (.monitor _ { (view t d).monitor with integrator := 0 } id (fun _ => Nat.zero_le _) id))
        (.liveEnds _ Timer.empty liveStill windowStill (.inl rfl))
    refine ⟨?_, ?_⟩
    · rw [view_arrive]
      refine trippedState_own (fun why => ?_) fun below => ?_
      · rw [raised]
        exact ended.lockedOut rfl why limit
      · rw [raised] at below ⊢
        exact ended.tail (.failures _ n fun _ => .inl below)
    · exact (((counted.only.trans (.raiseFailures t)).trans (.endProbation _)).trans (quiet _).only).trans
        ((Only.trippedState _).trans (.of_view (view_arrive _ _ _)))
  · next off =>
    have off : (view t d).record.probation = false := Bool.eq_false_iff.mpr off
    have ended : VSteps (view s d) ((view (clearIntegrator d t) d).inState (.cooling .merging)) := by
      refine (counted.trans (quiet t)).own.liveEnded ?_ ?_ ?_ <;> rw [view_clearIntegrator] <;> assumption
    refine ⟨?_, (counted.only.trans (quiet t).only).trans ((Only.trippedState _).trans (.of_view (view_arrive _ _ _)))⟩
    rw [view_arrive]
    refine trippedState_own (fun why => ?_) fun _ => ended.tail (.timerCleared _)
    exact VSteps.lockedTimer (ended.tail (.follows _ (.locked why .noLook) rfl rfl)) rfl

theorem shedDistrict_acts (f : FeedId) (s : State) (d : DistrictId) : Acts d s (shedDistrict f d s) := by
  unfold shedDistrict
  split
  · next shed =>
    have live : (view (abandonWindow d s) d).record.st = .live := by
      simp only [Bool.and_eq_true, beq_iff_eq] at shed
      simp [view, abandonWindow_eq, shed.2]
    refine ⟨?_, (Only.abandonWindow s).trans ((Only.endProbation _).trans (.joinMerging f _ _))⟩
    have abandoned := (Acts.abandonWindow (d := d) s).own
    have window := abandonWindow_window s d
    rw [view_joinMerging, view_endProbation]
    split
    · exact abandoned.tail (.liveEnds _ Timer.empty live window (.inl rfl))
    · next off => exact (abandoned.liveEnded live window (Bool.eq_false_iff.mpr off)).tail (.timerCleared _)
  · exact .refl d s

theorem shedProbe_every (f : FeedId) (c : ChannelId) (s : State) (d : DistrictId) :
    VSteps (view s d) (view (shedProbe f c s) d) := by
  unfold shedProbe
  split
  · next p own =>
    split
    · exact (abandonProbe_acts f own).every d
    · exact .refl
  · exact .refl

theorem shedFeed_every (f : FeedId) (s : State) (d : DistrictId) : VSteps (view s d) (view (shedFeed f s) d) := by
  have shown (t : State) : view (markFeed f ((dropEmptyEpisode f t).modFeed f (fun x => { x with phase := .shed }))) d =
      view t d := by
    rw [view_markFeed]
    change view (dropEmptyEpisode f t) d = view t d
    unfold dropEmptyEpisode
    split
    · split <;> rfl
    · rfl
  rw [shedFeed, shown]
  exact forChannels_keeps (P := fun u => VSteps (view s d) (view u d))
    (fun c u hu => hu.trans (shedProbe_every f c u d))
    (forDistricts_keeps (P := fun u => VSteps (view s d) (view u d))
      (fun e u hu => hu.trans ((shedDistrict_acts f u e).every d)) .refl)

/-! ### Swaps (R35) -/

theorem startSwap_acts {x : WindowSetting} (may : swapSetting s d = some x) : Acts d s (startSwap d x s) := by
  unfold swapSetting at may
  split at may
  · next conditions =>
    simp only [Bool.and_eq_true] at conditions
    have maySwap : (view s d).MaySwap := by
      split at may
      · next live =>
        have live : (s.district d).st = .live := by simpa using live
        exact .inl live
      · split at may
        · next p probe =>
          split at may
          · next runs =>
            simp only [Bool.and_eq_true, beq_iff_eq] at runs
            obtain ⟨c, held, own⟩ := Option.bind_eq_some_iff.mp probe
            exact .inr ⟨c, p, view_probes_eq_some.mpr ⟨own, channelOf_some s held own⟩, runs.1.1, runs.1.2⟩
          · cases may
        · cases may
    refine ⟨?_, (Only.setMonitor s _).trans (.modDistrict _ (by intro r; rfl))⟩
    rw [startSwap, view_modDistrict _ _ (by intro r; rfl), State.modMonitor, view_setMonitor]
    exact .single (.swap _ _ _ conditions.1 maySwap (fun _ => Nat.zero_le _) rfl)
  · cases may

/-! ### Counts and timers (R75, R79 to R89) -/

theorem handCount_acts (s : State) (d : DistrictId) {n : Nat} (range : s.cfg.globals.InRange → n ≤ 65535) :
    Acts d s (handCount d n s) := by
  unfold handCount
  split
  · next merging =>
    refine ⟨?_, (Only.setSt s _).trans (.loadTimer _ _ _)⟩
    rw [view_loadTimer, view_setSt]
    exact .tail (.single (.follows _ (.cooling .counting) merging rfl))
      (.timerLoaded _ .cool n rfl fun r => range r.globals)
  · next pending =>
    refine ⟨?_, (Only.setSt s _).trans (.setTimer _ _)⟩
    rw [retainCount_eq, view_setTimer, view_setSt]
    exact .single (.countRetained _ n pending fun r => range r.globals)
  · exact .refl d s

theorem retried_acts (st : (s.district d).st = .cooling .counting ∨ (s.district d).st = .awaitingGrant) :
    Acts d s (becomeQueued d (clearTimer d s)) := by
  refine ⟨?_, (Only.clearTimer s).trans (.becomeQueued _)⟩
  rw [view_becomeQueued, view_clearTimer]
  have ended : VSteps (view s d) _ := .single (.waitEnds _ st)
  have queued := ended.queued rfl
  exact queued

theorem awaits_acts (st : (s.district d).st = .cooling .counting) :
    Acts d s (becomeAwaitingGrant d (clearTimer d s)) := by
  refine ⟨?_, (Only.clearTimer s).trans (.becomeAwaitingGrant _)⟩
  rw [view_becomeAwaitingGrant, view_clearTimer]
  have ended : VSteps (view s d) _ := .single (.waitEnds _ (.inl st))
  have waiting := ended.awaiting rfl
  exact waiting

theorem lapsed_acts (st : (s.district d).st = .awaitingGrant) :
    Acts d s (enterLocked d .grantLapsed (clearTimer d s)) := by
  refine ⟨?_, (Only.clearTimer s).trans (.enterLocked _ _)⟩
  rw [view_enterLocked, view_clearTimer]
  have ended : VSteps (view s d) _ := .single (.waitEnds _ (.inr st))
  have locked := VSteps.lockedTimer (ended.tail (.follows _ (.locked .grantLapsed .noLook) rfl rfl)) rfl
  exact locked

theorem served_acts (s : State) (d : DistrictId) :
    Acts d s (clearTimer d (s.modDistrict d (fun r => { r with failures := 0, probation := false }))) := by
  refine ⟨?_, (Only.modDistrict s (by intro r; rfl)).trans (.clearTimer _)⟩
  rw [view_clearTimer, view_modDistrict _ _ (by intro r; rfl)]
  exact .tail (.single (.probationEnds _)) (.failures _ 0 fun range => .inl range.cfg.lockoutLimit.1)

theorem loadPatrol_acts (may : (view s d).MayLoad .patrol) : Acts d s (loadPatrol d s) := by
  refine ⟨?_, .loadTimer s _ _⟩
  rw [loadPatrol, view_loadTimer]
  exact .single (.timerLoaded _ .patrol _ may fun range => range.globals.patrol.2)

theorem patrols_acts (due : patrolDue s d = true) : Acts d s (loadPatrol d s) := by
  simp only [patrolDue, timerDue, Bool.and_eq_true, beq_iff_eq] at due
  exact loadPatrol_acts (.inr ⟨due.2.1.1, due.2.1.2⟩)

theorem lookQueued_acts {cause : LockCause} (st : (s.district d).st = .locked cause .noLook)
    (free : isolationSet s d = false) (timer : (s.timer d).purpose ≠ none) :
    Acts d s (placeEntry d .look (setSt d (.locked cause .queued) s)) := by
  refine ⟨?_, (Only.setSt s _).trans (.enqueue _ _)⟩
  rw [placeEntry_eq, view_setQueue, kindsOf_queueWith, view_setSt]
  refine .single (.lookPlaced _ cause _ st free timer fun agrees f => ?_)
  have empty : (view s d).entries f = 0 := agrees.no_entries (by change entryOf (s.district d).st = none; rw [st]; rfl) f
  change (if f = (s.dcfg d).feed then {.look} else (view s d).entries f) = _
  rw [empty]
  rfl

/-! ### Grants and probes that move on (R106, R114) -/

theorem view_grantedState (k : EntryKind) (s : State) (d : DistrictId) :
    view (grantedState k d s) d = (view s d).inState (grantedSt k (view s d).record.st) := by
  cases k with
  | full => exact view_setSt s d _
  | look => exact view_setLook s d _

theorem Only.grantedState (k : EntryKind) (s : State) : Only d s (Machine.grantedState k d s) := by
  cases k with
  | full => exact .setSt s _
  | look => exact .setLook s _

theorem granted_acts {f : FeedId} {c : ChannelId} {e : Entry} {rest : List Entry} (free : s.channel c = none)
    (head : s.queue f = e :: rest) : Acts e.district s (grantChannel s f c e rest) := by
  obtain ⟨p, hp⟩ : ∃ p, p = startProbe s f e (effectiveWeight s f e) := ⟨_, rfl⟩
  have starts : p.district = e.district ∧ p.kind = e.kind ∧ p.feed = f ∧ p.stage = .sense ∧ p.pause = none := by
    rw [hp]
    exact ⟨rfl, rfl, rfl, rfl, rfl⟩
  obtain ⟨district, kind, feed, stage, runs⟩ := starts
  have onlyQueue : Only e.district s (s.setQueue f rest) := .setQueue s fun k other => by
    rw [head, kindsOf_cons, if_neg (Ne.symm other)]
  have onlyChannel : Only e.district (s.setQueue f rest) ((s.setQueue f rest).setChannel c (some p)) :=
    .setChannel _ (fun q hq => by rw [State.setQueue_channel, free] at hq; cases hq)
      (fun q hq => by cases hq; exact district)
  rw [grantChannel, ← hp]
  refine ⟨?_, (onlyQueue.trans onlyChannel).trans (Only.trans (.of_view fun _ => rfl) (.grantedState e.kind _))⟩
  have shown : view (((s.setQueue f rest).setChannel c (some p)).setLastGranted f) e.district =
      { view s e.district with
        entries := fun g => if g = f then kindsOf e.district rest else (view s e.district).entries g
        probes := fun b => if b = c then some p else (view s e.district).probes b } := by
    change view ((s.setQueue f rest).setChannel c (some p)) e.district = _
    rw [view_setChannel, view_setQueue, ← district, ownProbe_self]
  rw [view_grantedState, shown, ← kind]
  refine .single (.granted _ f c p _ ?_ feed stage runs)
  change kindsOf e.district (s.queue f) = _
  rw [head, kindsOf_cons, if_pos rfl, kind]

theorem onward_every {c : ChannelId} {g : Probe → Probe} (moves : ∀ p, s.channel c = some p → p.Onward (g p) ∧
    (p.confirms → (g p).confirms ∨ (s.monitor p.district).window = none)) (d : DistrictId) :
    VSteps (view s d) (view (s.modChannel c g) d) := by
  cases own : s.channel c with
  | none =>
    rw [State.modChannel, own, Option.map_none, ← own, State.setChannel_own]
  | some p =>
    obtain ⟨onward, window⟩ := moves p own
    rw [State.modChannel, own, Option.map_some]
    refine Acts.every (d := p.district) ⟨?_, .setChannel s (fun q hq => by cases own.symm.trans hq; rfl)
      (fun q hq => by cases hq; exact onward.district)⟩ d
    rw [view_setChannel, ← onward.district, ownProbe_self, onward.district]
    exact .single (.probe _ c p (g p) (view_probes_eq_some.mpr ⟨own, rfl⟩) onward window)

/-! ### Looks that are dropped, and the clearing of a lockout (R18, R169) -/

theorem view_removeEntry (s : State) (d : DistrictId) : view (removeEntry d s) d =
    { view s d with entries := fun f => if f = (s.dcfg d).feed then 0 else (view s d).entries f } := by
  rw [removeEntry, view_setQueue, kindsOf_withoutEntry_self]

/-- Once its entry is removed, a district has none. -/
theorem View.Agrees.removed (h : v.Agrees) (f : FeedId) : (if f = v.cfg.feed then 0 else v.entries f) = 0 := by
  split
  · rfl
  · next other => rw [h.entries, if_neg other]

/-- The channel that the district holds. -/
def View.channel (v : View) : Option ChannelId := allChannels.find? (fun c => (v.probes c).isSome)

theorem view_channel (s : State) (d : DistrictId) : channelOf s d = (view s d).channel := by
  unfold channelOf View.channel
  congr 1
  funext c
  change _ = (ownProbe d (s.channel c)).isSome
  cases own : s.channel c with
  | none => rfl
  | some p => by_cases same : p.district = d <;> simp [ownProbe, same]

/-- The polarity once a swap window is given up (R37). -/
def View.polarityBefore (v : View) : Polarity :=
  match v.monitor.window with
  | some w => w.before
  | none => v.record.polarity

/-- The view once a swap window is abandoned (R39). -/
def View.abandoned (v : View) : View :=
  { v with
    monitor := { v.monitor with window := none, integrator := 0 }
    record := { v.record with polarity := v.polarityBefore } }

theorem view_abandonWindow (s : State) (d : DistrictId) : view (abandonWindow d s) d = (view s d).abandoned := by
  rw [abandonWindow_eq, view_setDistrict (by rfl), view_setMonitor]
  rfl

theorem VSteps.abandoned (h : VSteps v w) : VSteps v w.abandoned := by
  have restored : VSteps v { w with record := { w.record with polarity := w.polarityBefore } } := by
    unfold View.polarityBefore
    split
    · next x window => exact h.tail (.polarity w x.before (.inl (by rw [window]; rfl)))
    · exact h
  exact restored.tail (.monitor _ _ nofun (fun _ => Nat.zero_le _) id)

/-- The view once the probe of the district has ended, if it has one (R107). -/
def View.probeEnded (v : View) : View :=
  match v.channel with
  | some c => { v.abandoned with probes := v.freed c }
  | none => v

/-- The district's probe ends, if it has one (R107). -/
def endOwnProbe (d : DistrictId) (s : State) : State :=
  match channelOf s d with
  | some c => endProbe c s
  | none => s

theorem view_endOwnProbe (s : State) (d : DistrictId) : view (endOwnProbe d s) d = (view s d).probeEnded := by
  unfold View.probeEnded endOwnProbe
  rw [← view_channel]
  cases held : channelOf s d with
  | none => rfl
  | some c =>
    obtain ⟨p, own, rfl⟩ := channelOf_occupied held
    dsimp only
    rw [view_endProbe own, view_abandonWindow]
    rfl

theorem Only.endOwnProbe (s : State) : Only d s (Machine.endOwnProbe d s) := by
  unfold Machine.endOwnProbe
  split
  · next c held =>
    obtain ⟨p, own, district⟩ := channelOf_occupied held
    exact .endProbe own district
  · exact .refl d s

theorem View.channel_holds (v : View) {c : ChannelId} (held : v.channel = some c) : ∃ p, v.probes c = some p :=
  Option.isSome_iff_exists.mp (List.find?_some (p := fun c => (v.probes c).isSome) held)

theorem View.Agrees.holds (h : v.Agrees) {k : EntryKind} (kind : probeKindOf v.record.st = some k) :
    v.channel ≠ none := fun free => by
  obtain ⟨c, p, held⟩ := h.probing k kind
  have none_held := List.find?_eq_none.mp free c (mem_allChannels c)
  simp [held] at none_held

/-- The end of a district's probe, once the state is overwritten, is one small change after its swap window has been
given up. Where the district has no probe, agreement is broken already. -/
theorem VSteps.probeEnded (h : VSteps v w) (st : w.record.st = .probing) :
    VSteps v (w.probeEnded.inState (.cooling .merging)) := by
  unfold View.probeEnded
  split
  · next c held =>
    obtain ⟨p, own⟩ := w.channel_holds held
    exact h.abandoned.tail (.probeEnds _ _ (fun _ => st) (fun _ => rfl) fun agrees => agrees.freed own)
  · next free =>
    have broken (agrees : w.Agrees) : False := agrees.holds (k := .full) (by rw [st]; rfl) free
    exact h.tail (.probeEnds w w.probes (fun _ => st) (fun agrees => (broken agrees).elim)
      fun agrees => (broken agrees).elim)

theorem VSteps.lookEnded (h : VSteps v w) {cause : LockCause} (st : w.record.st = .locked cause .inFlight) :
    VSteps v (w.probeEnded.inState (.locked cause .noLook)) := by
  have next : withLook .noLook w.record.st = .locked cause .noLook := by rw [st]; rfl
  unfold View.probeEnded
  rw [← next]
  split
  · next c held =>
    obtain ⟨p, own⟩ := w.channel_holds held
    exact h.abandoned.tail (.lookEnds _ _ (fun _ => ⟨cause, st⟩) (fun _ => rfl) fun agrees => agrees.freed own)
  · next free =>
    have broken (agrees : w.Agrees) : False := agrees.holds (k := .look) (by rw [st]; rfl) free
    exact h.tail (.lookEnds w w.probes (fun _ => ⟨cause, st⟩) (fun agrees => (broken agrees).elim)
      fun agrees => (broken agrees).elim)

/-- The view once its look is withdrawn or abandoned (R18). -/
def View.lookDropped (v : View) : View :=
  match v.record.st with
  | .locked cause .queued =>
    { v.inState (.locked cause .noLook) with entries := fun f => if f = v.cfg.feed then 0 else v.entries f }
  | .locked cause .inFlight => v.probeEnded.inState (.locked cause .noLook)
  | _ => v

theorem view_dropLook (s : State) (d : DistrictId) : view (dropLook d s) d = (view s d).lookDropped := by
  have same : (view s d).record.st = (s.district d).st := rfl
  unfold dropLook View.lookDropped
  rcases st : (s.district d).st with _ | _ | _ | _ | _ | _ | _ | ⟨cause, _ | _ | _⟩ <;> rw [same, st]
  case locked.queued =>
    dsimp only
    rw [view_setSt, view_removeEntry]
    rfl
  case locked.inFlight =>
    have ended : view (setSt d (.locked cause .noLook) (endOwnProbe d s)) d = _ := view_setSt _ _ _
    rw [view_endOwnProbe] at ended
    exact ended

theorem VSteps.lookDropped (h : VSteps v w) : VSteps v w.lookDropped := by
  unfold View.lookDropped
  split
  · next cause st => exact h.tail (.lookRemoved w cause _ st fun agrees => agrees.removed)
  · next cause st => exact h.lookEnded st
  · exact h

theorem View.lookDropped_locked (v : View) (locked : isLocked v.record.st = true) :
    ∃ cause, v.lookDropped.record.st = .locked cause .noLook := by
  obtain ⟨cause, look, st⟩ := isLocked_iff.mp locked
  unfold View.lookDropped
  cases look with
  | noLook => exact ⟨cause, by rw [st]; exact st⟩
  | queued => exact ⟨cause, by rw [st]; rfl⟩
  | inFlight => exact ⟨cause, by rw [st]; rfl⟩

/-- What a look's end leaves as it is. -/
theorem View.lookDropped_same (v : View) : v.lookDropped.isolated = v.isolated ∧ v.lookDropped.mode = v.mode ∧
    v.lookDropped.cfg = v.cfg ∧ v.lookDropped.timer = v.timer := by
  unfold View.lookDropped
  split
  · exact ⟨rfl, rfl, rfl, rfl⟩
  · unfold View.probeEnded
    split <;> exact ⟨rfl, rfl, rfl, rfl⟩
  · exact ⟨rfl, rfl, rfl, rfl⟩

end Sys2Proof.Machine
end

section
/-! The isolation overlay, the wake of an OFF district and the effects of a district write as chains of small changes of
its view (R14 to R20, R22 to R25, R169, R171). -/

namespace Sys2Proof.Machine

variable {s t u : State} {d : DistrictId} {v w : View}

/-! ### Onsets (R15 to R18, R141) -/

theorem View.probeEnded_with (v : View) (b : Bool) (x : Timer) :
    View.probeEnded { v with isolated := b, timer := x } = { v.probeEnded with isolated := b, timer := x } := by
  unfold View.probeEnded
  have same : View.channel { v with isolated := b, timer := x } = v.channel := rfl
  rw [same]
  cases v.channel <;> rfl

theorem View.lookDropped_with (v : View) (b : Bool) (x : Timer) :
    View.lookDropped { v with isolated := b, timer := x } = { v.lookDropped with isolated := b, timer := x } := by
  unfold View.lookDropped
  dsimp only
  split
  · rfl
  · rw [v.probeEnded_with]
    rfl
  · rfl

/-- The view once probation has ended, if it was set (R5). -/
def View.probationEnded (v : View) : View :=
  if v.record.probation then { v with record := { v.record with probation := false }, timer := Timer.empty } else v

/-- The view of a district that takes an onset (R15 to R18, R141). -/
def View.onset (v : View) : View :=
  match v.record.st with
  | .live => v.abandoned.probationEnded.inState (.isolated .queued)
  | .cooling .counting =>
    { v.inState (.isolated .coolRetained) with timer := { v.timer with running := false, boundary := false } }
  | .cooling .merging => v.inState (.isolated .coolPending)
  | .queued => { v.inState (.isolated .queued) with entries := fun f => if f = v.cfg.feed then 0 else v.entries f }
  | .awaitingGrant => { v.inState (.isolated .awaitingGrant) with timer := Timer.empty }
  | .probing => v.probeEnded.inState (.isolated .queued)
  | .locked _ _ => View.lookDropped { v with timer := Timer.empty }
  | .off => v
  | .isolated _ => v

theorem view_onset (s : State) (d : DistrictId) : view (onset d s) d = (view s d).onset := by
  have same : (view s d).record.st = (s.district d).st := rfl
  unfold onset View.onset
  rw [same]
  rcases (s.district d).st with _ | _ | ⟨_ | _⟩ | _ | _ | _ | _ | ⟨cause, look⟩ <;> dsimp only
  case live => rw [view_setSt, view_endProbation, view_abandonWindow]; rfl
  case cooling.merging => rw [view_setSt]
  case cooling.counting => rw [view_setSt, retainTimer, view_setTimer]; rfl
  case queued => rw [view_setSt, view_removeEntry]; rfl
  case awaitingGrant => rw [view_setSt, view_clearTimer]; rfl
  case probing =>
    have ended : view (setSt d (.isolated .queued) (endOwnProbe d s)) d = _ := view_setSt _ _ _
    rw [view_endOwnProbe] at ended
    exact ended
  case locked => rw [view_dropLook, view_clearTimer]

theorem VSteps.onset (h : VSteps v w) : VSteps v (View.onset { w with isolated := true }) := by
  unfold View.onset
  dsimp only
  split
  · next st =>
    cases probation : w.record.probation with
    | true =>
      have ended := h.abandoned.tail (.liveEnds _ Timer.empty st rfl (.inl rfl))
      have isolated := ended.tail (.onset _ .queued rfl)
      simpa [View.abandoned, View.probationEnded, View.polarityBefore, View.inState, probation] using isolated
    | false =>
      have isolated := (h.abandoned.liveEnded st rfl probation).tail (.onset _ .queued rfl)
      simpa [View.abandoned, View.probationEnded, View.polarityBefore, View.inState, probation] using isolated
  · next st => exact h.tail (.onsetCounting w st)
  · next st => exact h.tail (.onset w .coolPending st)
  · next st => exact .tail (h.tail (.dequeued w _ st fun agrees => agrees.removed)) (.onset _ .queued rfl)
  · next st => exact .tail (h.tail (.waitEnds w (.inr st))) (.onset _ .awaitingGrant rfl)
  · next st =>
    have same : View.probeEnded { w with isolated := true } = { w.probeEnded with isolated := true } := by
      rw [w.probeEnded_with true w.timer]
      unfold View.probeEnded
      split <;> rfl
    rw [same]
    exact (h.probeEnded st).tail (.onset _ .queued rfl)
  · next cause look st =>
    obtain ⟨why, dropped⟩ := w.lookDropped_locked (isLocked_iff.mpr ⟨cause, look, st⟩)
    rw [w.lookDropped_with]
    exact h.lookDropped.tail (.onsetLocked _ why dropped)
  · next st => exact h.tail (.onsetOff w (.inl st))
  · next r st => exact h.tail (.onsetOff w (.inr ⟨r, st⟩))

/-! ### Releases (R20) -/

/-- The view of a district that is released (R20). -/
def View.released (v : View) : View :=
  match v.record.st with
  | .isolated .coolRetained => { v.inState (.cooling .counting) with timer := loaded .cool v.timer.count }
  | .isolated .coolPending => v.inState (.cooling .merging)
  | .isolated .queued => v.becomeQueued
  | .isolated .awaitingGrant => v.becomeAwaitingGrant
  | .locked _ _ =>
    if v.cfg.patrol && v.mode == .run then { v with timer := loaded .patrol v.globals.patrol } else v
  | _ => v

theorem view_releaseDistrict (s : State) (d : DistrictId) : view (releaseDistrict d s) d = (view s d).released := by
  have same : (view s d).record.st = (s.district d).st := rfl
  unfold releaseDistrict View.released
  rw [same]
  rcases (s.district d).st with _ | _ | _ | _ | _ | _ | ⟨_ | _ | _ | _⟩ | ⟨cause, look⟩ <;> dsimp only
  case isolated.coolRetained => rw [runOnTimer, view_loadTimer, view_setSt]; rfl
  case isolated.coolPending => rw [view_setSt]
  case isolated.queued => rw [view_becomeQueued]
  case isolated.awaitingGrant => rw [view_becomeAwaitingGrant]
  case locked =>
    change view (if (s.dcfg d).patrol && s.mode == .run then loadPatrol d s else s) d =
      if (s.dcfg d).patrol && s.mode == .run then _ else _
    split
    · rw [loadPatrol, view_loadTimer]; rfl
    · rfl

theorem VSteps.released (h : VSteps v w) : VSteps v (View.released { w with isolated := false }) := by
  unfold View.released
  dsimp only
  split
  · next st => exact h.tail (.resumes w st)
  · next st => exact h.tail (.released w .coolPending st nofun)
  · next st =>
    have queued := VSteps.queued (h.tail (.released w .queued st nofun)) rfl
    exact queued
  · next st =>
    have waiting := VSteps.awaiting (h.tail (.released w .awaitingGrant st nofun)) rfl
    exact waiting
  · next cause look st =>
    have free := h.tail (.freed w fun r held => by rw [st] at held; cases held)
    split
    · next runs =>
      simp only [Bool.and_eq_true, beq_iff_eq] at runs
      exact free.tail (.timerLoaded _ .patrol _ (.inl ⟨isLocked_iff.mpr ⟨cause, look, st⟩, runs.1, rfl, runs.2⟩)
        fun range => range.globals.patrol.2)
    · exact free
  · next coolRetained coolPending queued awaiting _ =>
    refine h.tail (.freed w fun r held => ?_)
    cases r with
    | coolRetained => exact coolRetained held
    | coolPending => exact coolPending held
    | queued => exact queued held
    | awaitingGrant => exact awaiting held

/-! ### A change of isolation sets (R14, R153) -/

theorem Only.onset (s : State) : Only d s (Machine.onset d s) := by
  unfold Machine.onset
  split
  · exact ((Only.abandonWindow s).trans (.endProbation _)).trans (.setSt _ _)
  · exact (Only.setTimer s _).trans (.setSt _ _)
  · exact .setSt s _
  · exact (Only.removeEntry s).trans (.setSt _ _)
  · exact (Only.clearTimer s).trans (.setSt _ _)
  · exact (Only.endOwnProbe s).trans (.setSt _ _)
  · exact (Only.clearTimer s).trans (.dropLook _)
  · exact .refl d s
  · exact .refl d s

theorem Only.releaseDistrict (s : State) : Only d s (Machine.releaseDistrict d s) := by
  unfold Machine.releaseDistrict
  split
  · exact (Only.setSt s _).trans (.loadTimer _ _ _)
  · exact .setSt s _
  · exact .becomeQueued s
  · exact .becomeAwaitingGrant s
  · split
    · exact .loadTimer s _ _
    · exact .refl d s
  · exact .refl d s

theorem Only.takeIsolation (before after : State) (s : State) :
    Only d s (Machine.takeIsolation before after d s) := by
  unfold Machine.takeIsolation
  split
  · refine Only.mark ?_ _ _
    split
    · exact .onset s
    · exact .releaseDistrict s
    · exact .refl d s
  · exact .refl d s

/-- How a district's own view takes a change of its isolation set (R14). -/
def View.takes (v : View) (before after : Bool) : View :=
  match before, after with
  | false, true => v.onset
  | true, false => v.released
  | _, _ => v

theorem View.takes_same (v : View) (b : Bool) : v.takes b b = v := by cases b <;> rfl

theorem isolationSet_of_not_differs (same : isolationDiffers t u d = false) : isolationSet t d = isolationSet u d := by
  simp only [isolationDiffers, Bool.or_eq_false_iff, bne_eq_false_iff_eq] at same
  rw [isolationSet, isolationSet, same.1, same.2]

theorem view_takeIsolation (before after : State) (s : State) (d : DistrictId) : view (takeIsolation before after d s) d =
    (view s d).takes (isolationSet before d) (isolationSet after d) := by
  unfold takeIsolation
  cases differs : isolationDiffers before after d with
  | false =>
    rw [isolationSet_of_not_differs differs]
    cases isolationSet after d <;> rfl
  | true =>
    rw [if_pos rfl, view_markDistrict]
    cases isolationSet before d <;> cases isolationSet after d
    · rfl
    · exact view_onset s d
    · exact view_releaseDistrict s d
    · rfl

theorem view_isolationChange (t u : State) (d : DistrictId) : view (isolationChange t u) d =
    (view u d).takes (isolationSet t d) (isolationSet u d) :=
  forDistricts_read (d := d) (read := fun x => view x d) (g := takeIsolation t u) (I := fun _ => True)
    (φ := fun v => v.takes (isolationSet t d) (isolationSet u d)) (fun _ _ _ => trivial)
    (fun x _ => view_takeIsolation t u x d) (fun _ other x _ => Only.takeIsolation t u x d (Ne.symm other)) trivial

theorem Overlay.view_eq (h : Overlay t u) (d : DistrictId) : view u d = { view t d with
    record := { (view t d).record with holders := (u.district d).holders }, isolated := isolationSet u d } := by
  have monitor : u.monitor d = t.monitor d := by rw [h.same]; rfl
  have timer : u.timer d = t.timer d := by rw [h.same]; rfl
  have cfg : u.dcfg d = t.dcfg d := by rw [h.same]; rfl
  have globals : u.cfg.globals = t.cfg.globals := by rw [h.same]
  have mode : u.mode = t.mode := by rw [h.same]
  have queue (f : FeedId) : u.queue f = t.queue f := by rw [h.same]; rfl
  have channel (c : ChannelId) : u.channel c = t.channel c := by rw [h.same]; rfl
  simp only [view, monitor, timer, cfg, globals, mode, queue, channel]
  exact congrArg (fun r => (⟨r, _, _, _, _, _, _, _, _⟩ : View)) (h.holders d)

theorem isolationChange_every (h : Overlay t u) (d : DistrictId) : VSteps (view t d) (view (isolationChange t u) d) := by
  have holders : VSteps (view t d)
      { view t d with record := { (view t d).record with holders := (u.district d).holders } } :=
    .single (.record _ _ rfl rfl rfl rfl id id)
  have own : (view t d).isolated = isolationSet t d := rfl
  rw [view_isolationChange, h.view_eq]
  cases before : isolationSet t d <;> cases after : isolationSet u d <;> rw [before] at own
  · rw [View.takes_same, ← own]
    exact holders
  · exact holders.onset
  · exact holders.released
  · rw [View.takes_same, ← own]
    exact holders

/-! ### OFF districts that take part in recovery, and those that return to OFF (R24, R169, R171) -/

/-- An OFF district takes part in recovery: ISOLATED if its set is not empty, else QUEUED (R24, R169, R171). -/
def View.woken (v : View) : View := if v.isolated then v.inState (.isolated .queued) else v.becomeQueued

/-- An OFF district takes part in recovery, as an operation (R24, R169, R171). -/
def wake (d : DistrictId) (s : State) : State :=
  if isolationSet s d then setSt d (.isolated .queued) s else becomeQueued d s

theorem view_wake (s : State) (d : DistrictId) : view (wake d s) d = (view s d).woken := by
  unfold wake View.woken
  change _ = if isolationSet s d then _ else _
  split
  · exact view_setSt s d _
  · exact view_becomeQueued s d

theorem Only.wake (s : State) : Only d s (Machine.wake d s) := by
  unfold Machine.wake
  split
  · exact .setSt s _
  · exact .becomeQueued s

theorem VSteps.woken (h : VSteps v (w.inState .off)) (run : w.mode = .run) : VSteps v w.woken := by
  unfold View.woken
  split
  · next held => exact h.tail (.wakesIsolated _ rfl run held)
  · next free =>
    have queued := VSteps.queued (h.tail (.wakes _ rfl run (Bool.eq_false_iff.mpr free))) rfl
    exact queued

/-- The view of a district whose lockout or isolation has ended, before its new state (R24, R169). -/
def View.rested (v : View) : View := { v.lookDropped.withFailures 0 with timer := Timer.empty }

/-- A lockout or an isolation ends, with its look, its F and its timer, as an operation (R24, R169). -/
def rest (d : DistrictId) (s : State) : State := setFailures d 0 (clearTimer d (dropLook d s))

theorem view_rest (s : State) (d : DistrictId) : view (rest d s) d = (view s d).rested := by
  rw [rest, view_setFailures, view_clearTimer, view_dropLook]
  rfl

theorem Only.rest (s : State) : Only d s (Machine.rest d s) :=
  ((Only.dropLook s).trans (.clearTimer _)).trans (.setFailures _ _)

theorem VSteps.rested (h : VSteps v w) (st : (∃ r, w.record.st = .isolated r) ∨ isLocked w.record.st = true) :
    VSteps v (w.rested.inState .off) := by
  refine h.lookDropped.tail (.rests _ ?_)
  rcases st with ⟨r, st⟩ | locked
  · exact .inl ⟨r, by rw [View.lookDropped, st]; exact st⟩
  · exact .inr (w.lookDropped_locked locked)

theorem cleared_acts (locked : isLocked (s.district d).st = true) :
    Acts d s (clearedState d (setFailures d 0 (clearTimer d (dropLook d s)))) := by
  have rested : VSteps (view s d) ((view (rest d s) d).inState .off) := by
    rw [view_rest]
    exact VSteps.rested .refl (.inr locked)
  have only : Only d s (rest d s) := .rest s
  change Acts d s (clearedState d (rest d s))
  unfold clearedState
  split
  · next run =>
    refine ⟨?_, only.trans (.wake _)⟩
    have woken := rested.woken (beq_iff_eq.mp run)
    rwa [← view_wake] at woken
  · exact ⟨by rw [view_setSt]; exact rested, only.trans (.setSt _ _)⟩

theorem enterDistrict_acts (run : s.mode = .run) : Acts d s (enterDistrict d s) := by
  unfold enterDistrict
  split
  · next cause look st =>
    split
    · next runs =>
      simp only [Bool.and_eq_true, Bool.not_eq_true'] at runs
      exact loadPatrol_acts (.inl ⟨isLocked_iff.mpr ⟨cause, look, st⟩, runs.1, runs.2, run⟩)
    · exact ⟨by rw [view_clearTimer]; exact .single (.timerCleared _), .clearTimer s⟩
  · next off =>
    split
    · exact .refl d s
    · refine ⟨?_, .wake s⟩
      have standing : (view s d).inState .off = view s d := by
        rw [View.inState, ← (show (view s d).record.st = .off from off)]
      have woken : VSteps (view s d) (view s d).woken := VSteps.woken (by rw [standing]) run
      rwa [← view_wake] at woken
  · exact .refl d s

theorem leaveRun_every (s : State) (d : DistrictId) : VSteps (view s d) (view (leaveRun s) d) := by
  have holders : ((leaveRun s).district d).holders = (s.district d).holders := by
    rw [leaveRun_eq]
    simp only [State.district, Fin.getElem_fin, Vector.getElem_ofFn]
    unfold District.leaveRun
    split <;> rfl
  have left : view (leaveRun s) d = { view s d with
      mode := .standby, record := (view s d).record.leaveRun, monitor := (view s d).monitor.leaveRun,
      timer := Timer.empty, entries := fun _ => 0, probes := fun _ => none } := by
    have joints (j : JointId) : (leaveRun s).jcfg j = s.jcfg j ∧ (leaveRun s).joint j = s.joint j := by
      rw [leaveRun_eq]
      exact ⟨rfl, rfl⟩
    have isolated : isolationSet (leaveRun s) d = isolationSet s d :=
      isolationSet_congr (fun j => by rw [(joints j).1, (joints j).2]; exact ⟨rfl, rfl, rfl⟩) holders
    rw [view, isolated, leaveRun_eq]
    simp only [State.district, State.monitor, State.timer, State.queue, State.channel, Fin.getElem_fin,
      Vector.getElem_ofFn, Vector.getElem_replicate]
    rfl
  rw [left]
  exact .single (.left _)

end Sys2Proof.Machine
end

section
/-! A district write as a chain of small changes of its view (R21 to R25), and every small change of the part as a chain
of small changes of each district's view. -/

namespace Sys2Proof.Machine

variable {s t u : State} {d : DistrictId} {v w : View}

/-! ### The effects of a district write (R23 to R25) -/

/-- The effect of a policy write as the district's own view shows it (R24). -/
def View.policyEffect (v : View) : View :=
  if v.cfg.policy == .dark then
    match v.record.st with
    | .isolated _ => v.rested.inState .off
    | .locked _ _ => v.rested.inState .off
    | _ => v
  else
    match v.record.st with
    | .off => if v.mode == .run then v.woken else v
    | .isolated .awaitingGrant => if v.cfg.policy == .auto then v.inState (.isolated .queued) else v
    | _ => v

theorem view_policyEffect (s : State) (d : DistrictId) : view (policyEffect d s) d = (view s d).policyEffect := by
  have st : (view s d).record.st = (s.district d).st := rfl
  have cfg : (view s d).cfg = s.dcfg d := rfl
  have mode : (view s d).mode = s.mode := rfl
  have darkened : view (darken d s) d = (view s d).rested.inState .off := by
    rw [← view_rest]
    exact view_setSt (rest d s) d _
  unfold policyEffect View.policyEffect
  rw [st, cfg, mode]
  split
  · rcases (s.district d).st with _ | _ | _ | _ | _ | _ | r | ⟨cause, look⟩
    case isolated => exact darkened
    case locked => exact darkened
    all_goals rfl
  · rcases (s.district d).st with _ | _ | _ | _ | _ | _ | ⟨_ | _ | _ | _⟩ | ⟨cause, look⟩ <;> dsimp only
    case off =>
      split
      · exact view_wake s d
      · rfl
    case isolated.awaitingGrant =>
      split
      · exact view_setSt s d _
      · rfl

theorem Only.policyEffect (s : State) : Only d s (Machine.policyEffect d s) := by
  have darkened : Only d s (darken d s) := (Only.rest s).trans (.setSt _ _)
  unfold Machine.policyEffect
  split
  · split
    · exact darkened
    · exact darkened
    · exact .refl d s
  · split
    · split
      · exact .wake s
      · exact .refl d s
    · split
      · exact .setSt s _
      · exact .refl d s
    · exact .refl d s

theorem VSteps.policyEffect (h : VSteps v w) : VSteps v w.policyEffect := by
  unfold View.policyEffect
  split
  · split
    · next r st => exact h.rested (.inl ⟨r, st⟩)
    · next cause look st => exact h.rested (.inr (isLocked_iff.mpr ⟨cause, look, st⟩))
    · exact h
  · split
    · next off =>
      split
      · next run =>
        have standing : w.inState .off = w := by rw [View.inState, ← off]
        exact VSteps.woken (by rwa [standing]) (beq_iff_eq.mp run)
      · exact h
    · next st =>
      split
      · exact h.tail (.returnsTo w .awaitingGrant .queued st nofun)
      · exact h
    · exact h

/-- The effect of a write of patrol as the district's own view shows it (R25). -/
def View.patrolEffect (v : View) : View :=
  match v.record.st with
  | .locked _ _ =>
    if v.cfg.patrol then
      if (v.cfg.patrol && !v.isolated && v.mode == .run) &&
          !(v.timer.purpose == some .patrol && v.timer.running) then
        { v with timer := loaded .patrol v.globals.patrol }
      else v
    else { v with timer := Timer.empty }
  | _ => v

theorem view_patrolEffect (s : State) (d : DistrictId) : view (patrolEffect d s) d = (view s d).patrolEffect := by
  have st : (view s d).record.st = (s.district d).st := rfl
  have cfg : (view s d).cfg = s.dcfg d := rfl
  have runs : ((view s d).cfg.patrol && !(view s d).isolated && (view s d).mode == .run) = patrolRuns s d := rfl
  have timer : (view s d).timer = s.timer d := rfl
  unfold patrolEffect View.patrolEffect
  rw [runs, st, cfg, timer]
  rcases (s.district d).st with _ | _ | _ | _ | _ | _ | r | ⟨cause, look⟩ <;> dsimp only
  case locked =>
    split
    · split
      · rw [loadPatrol, view_loadTimer]
        rfl
      · rfl
    · exact view_clearTimer s d

theorem Only.patrolEffect (s : State) : Only d s (Machine.patrolEffect d s) := by
  unfold Machine.patrolEffect
  split
  · split
    · split
      · exact .loadTimer s _ _
      · exact .refl d s
    · exact .clearTimer s
  · exact .refl d s

theorem VSteps.patrolEffect (h : VSteps v w) : VSteps v w.patrolEffect := by
  unfold View.patrolEffect
  split
  · next cause look st =>
    split
    · split
      · next loads =>
        simp only [Bool.and_eq_true, Bool.not_eq_true', beq_iff_eq] at loads
        obtain ⟨⟨⟨patrol, free⟩, run⟩, -⟩ := loads
        exact h.tail (.timerLoaded w .patrol _ (.inl ⟨isLocked_iff.mpr ⟨cause, look, st⟩, patrol, free, run⟩)
          fun range => range.globals.patrol.2)
      · exact h
    · exact h.tail (.timerCleared w)
  · exact h

/-- The effects of policy and patrol, each if named. -/
def View.effects (es : List FieldEntry) (v : View) : View :=
  let v := if names es 2 then v.policyEffect else v
  if names es 4 then v.patrolEffect else v

theorem VSteps.effects (h : VSteps v w) (es : List FieldEntry) : VSteps v (w.effects es) := by
  have policy : VSteps v (if names es 2 then w.policyEffect else w) := by
    split
    · exact h.policyEffect
    · exact h
  unfold View.effects
  dsimp only
  split
  · exact policy.patrolEffect
  · exact policy

/-- Where a write takes patrol from a LOCKED district, its timer stops whatever else the write does (R25). -/
theorem View.effects_stopped {es : List FieldEntry} (patrol : names es 4 = true) (off : v.cfg.patrol = false)
    (locked : isLocked v.record.st = true) : v.effects es = View.effects es { v with timer := Timer.empty } := by
  obtain ⟨cause, look, st⟩ := isLocked_iff.mp locked
  have stopped : v.patrolEffect = View.patrolEffect { v with timer := Timer.empty } := by
    simp [View.patrolEffect, st, off]
  have rested : View.rested { v with timer := Timer.empty } = v.rested := by
    have dropped := v.lookDropped_with v.isolated Timer.empty
    rw [View.rested]
    rw [show ({ v with timer := Timer.empty } : View) = { v with isolated := v.isolated, timer := Timer.empty } from rfl,
      dropped, ← v.lookDropped_same.1]
    rfl
  simp only [View.effects, patrol, if_true]
  split
  · by_cases dark : v.cfg.policy = .dark
    · simp [View.policyEffect, dark, st, rested]
    · simpa [View.policyEffect, dark, st] using stopped
  · exact stopped

/-! ### A district write (R21 to R25) -/

/-- F once a lockout limit has been written (R23). -/
def View.limited (v : View) (es : List FieldEntry) (limit : Nat) : Nat :=
  if names es 17 then
    if isLocked v.record.st then min v.record.failures limit else min v.record.failures (limit - 1)
  else v.record.failures

/-- The polarity once reversing has been written (R25). -/
def View.repolarised (v : View) (es : List FieldEntry) (reversing : Bool) : Polarity :=
  if names es 3 && !reversing then .normal else v.record.polarity

/-- The view with a configuration stored and the effects on F and polarity taken (R22, R23, R25). -/
def View.configured (v : View) (es : List FieldEntry) (k : DistrictConfig) : View :=
  { v with
    cfg := k
    record := { v.record with failures := v.limited es k.lockoutLimit, polarity := v.repolarised es k.reversing } }

theorem view_limitEffect (s : State) (d : DistrictId) : view (limitEffect d s) d = (view s d).withFailures
    (if isLocked (view s d).record.st then min (view s d).record.failures (view s d).cfg.lockoutLimit
      else min (view s d).record.failures ((view s d).cfg.lockoutLimit - 1)) := by
  have st : (view s d).record.st = (s.district d).st := rfl
  unfold limitEffect
  rw [st]
  rcases (s.district d).st with _ | _ | _ | _ | _ | _ | _ | ⟨cause, look⟩ <;> exact view_setFailures s d _

theorem view_reversingEffect (s : State) (d : DistrictId) : view (reversingEffect d s) d =
    { view s d with record := { (view s d).record with
      polarity := if (view s d).cfg.reversing then (view s d).record.polarity else .normal } } := by
  have reversing : (view s d).cfg.reversing = (s.dcfg d).reversing := rfl
  unfold reversingEffect
  rw [reversing]
  split
  · rfl
  · exact view_modDistrict s d (by intro r; rfl)

theorem view_whenNamed (es : List FieldEntry) (id : Nat) (f : State → State) (s : State) (d : DistrictId) :
    view (whenNamed es id f s) d = if names es id then view (f s) d else view s d := by
  unfold whenNamed
  split <;> rfl

theorem view_writeDistrict (s : State) (d : DistrictId) (es : List FieldEntry) (k : DistrictConfig) :
    view (writeDistrict d es k s) d = ((view s d).configured es k).effects es := by
  have stored : view (whenNamed es 3 (reversingEffect d) (whenNamed es 17 (limitEffect d) (s.setDcfg d k))) d =
      (view s d).configured es k := by
    rw [view_whenNamed, view_reversingEffect, view_whenNamed, view_limitEffect, view_setDcfg]
    unfold View.configured View.limited View.repolarised
    cases names es 3 <;> cases names es 17 <;> cases reversing : k.reversing <;>
      simp [View.withFailures, reversing]
  unfold writeDistrict View.effects
  dsimp only
  rw [view_markDistrict, view_whenNamed, view_patrolEffect, view_whenNamed, view_policyEffect, stored]

theorem Only.writeDistrict (s : State) (es : List FieldEntry) (k : DistrictConfig) :
    Only d s (Machine.writeDistrict d es k s) := by
  have named {x y : State} {f : State → State} (id : Nat) (h : Only d x y) (effect : Only d y (f y)) :
      Only d x (whenNamed es id f y) := by
    unfold whenNamed
    split
    · exact h.trans effect
    · exact h
  have limit (x : State) : Only d x (limitEffect d x) := by
    unfold limitEffect
    split <;> exact .setFailures x _
  have reversing (x : State) : Only d x (reversingEffect d x) := by
    unfold reversingEffect
    split
    · exact .refl d x
    · exact .modDistrict x (by intro r; rfl)
  exact (named 4 (named 2 (named 3 (named 17 (.setDcfg s k) (limit _)) (reversing _)) (.policyEffect _))
    (.patrolEffect _)).mark _ _

theorem atRest_iff {x : DistrictState} : atRest x = true ↔ x = .off ∨ ∃ cause, x = .locked cause .noLook := by
  rcases x with _ | _ | _ | _ | _ | _ | _ | ⟨_, _ | _ | _⟩ <;> simp [atRest]

theorem standsStill_iff : standsStill s d = true ↔ (view s d).Still := by
  have st : (view s d).record.st = (s.district d).st := rfl
  have mode : (view s d).mode = s.mode := rfl
  unfold standsStill View.Still
  rw [st, mode]
  rcases (s.district d).st with _ | _ | _ | _ | _ | _ | _ | ⟨cause, look⟩ <;> simp [isLocked]

/-- A write that names a restricted field is let through only to a district that stands still (R21). -/
theorem still_of_written {es : List FieldEntry} {id : Nat} (free : districtBusy s d es = false)
    (named : names es id = true) (restricted : anyStateField id = false) : (view s d).Still := by
  simp only [districtBusy, Bool.or_eq_false_iff, Bool.and_eq_false_iff] at free
  obtain ⟨⟨still, -⟩, -⟩ := free
  refine standsStill_iff.mp ?_
  rcases still with unrestricted | still
  · simp only [List.any_eq_false, Bool.not_eq_true', Bool.not_eq_false] at unrestricted
    obtain ⟨n, written⟩ := Option.isSome_iff_exists.mp named
    obtain ⟨before, after, split, -⟩ := List.lookup_eq_some_iff.mp written
    have any := unrestricted (id, n) (by simp [split])
    exact absurd (restricted.symm.trans any) Bool.false_ne_true
  · simpa using still

/-- A write of feed is let through only to a district with neither an entry nor a probe (R21). -/
theorem no_look_of_feed_written {es : List FieldEntry} (free : districtBusy s d es = false) (named : names es 1 = true)
    (rests : (view s d).mode = .standby → atRest (view s d).record.st = true) :
    entryOf (view s d).record.st = none ∧ probeKindOf (view s d).record.st = none := by
  have still := still_of_written free named rfl
  simp only [districtBusy, named, Bool.true_and, Bool.or_eq_false_iff] at free
  obtain ⟨⟨-, ⟨-, queued⟩, inFlight⟩, -⟩ := free
  have quiet (st : ∀ x, (view s d).record.st = x → x = .off ∨ (∃ r, x = .isolated r) ∨ isLocked x = true) :
      entryOf (view s d).record.st = none ∧ probeKindOf (view s d).record.st = none := by
    have same : (view s d).record.st = (s.district d).st := rfl
    unfold lookQueued at queued
    unfold lookInFlight at inFlight
    rw [same] at st ⊢
    rcases st _ rfl with off | ⟨r, isolated⟩ | locked
    · rw [off]
      exact ⟨rfl, rfl⟩
    · rw [isolated]
      exact ⟨rfl, rfl⟩
    · obtain ⟨cause, look, st⟩ := isLocked_iff.mp locked
      rw [st] at queued inFlight ⊢
      cases look with
      | noLook => exact ⟨rfl, rfl⟩
      | queued => cases queued
      | inFlight => cases inFlight
  refine quiet fun x st => ?_
  subst st
  rcases still with standby | off | isolated | locked
  · rcases atRest_iff.mp (rests standby) with off | ⟨cause, locked⟩
    · exact .inl off
    · exact .inr (.inr (isLocked_iff.mpr ⟨cause, .noLook, locked⟩))
  · exact .inl off
  · exact .inr (.inl isolated)
  · exact .inr (.inr locked)

/-- What a write leaves of the fields that it does not name (R22). -/
theorem takeDistrict_unnamed {c k : DistrictConfig} {es : List FieldEntry} (taken : takeDistrict c es = some k) :
    (names es 1 = false → k.feed = c.feed) ∧ (names es 3 = false → k.reversing = c.reversing) ∧
      (names es 4 = false → k.patrol = c.patrol) ∧ (names es 17 = false → k.lockoutLimit = c.lockoutLimit) := by
  have code {α : Type} {id : Nat} {decode : Nat → Option α} {old x : α} (code : takeCode es id decode old = some x)
      (unnamed : names es id = false) : x = old := by
    have absent : written es id = none := by simpa [names] using unnamed
    rw [takeCode, absent] at code
    exact (Option.some.inj code).symm
  unfold takeDistrict at taken
  simp only [Option.bind_eq_bind, Option.bind_eq_some_iff, Option.some.injEq] at taken
  obtain ⟨feed, feedTaken, policy, -, reversing, reversingTaken, patrol, patrolTaken, hard, -, rfl⟩ := taken
  exact ⟨code feedTaken, code reversingTaken, code patrolTaken, take_unnamed⟩

/-- What a write may do to F (R4, R23). -/
theorem View.limited_ok (v : View) {es : List FieldEntry} {k : DistrictConfig}
    (unnamed : names es 17 = false → k.lockoutLimit = v.cfg.lockoutLimit) (range : v.cfg.InRange → k.InRange) :
    (k.lockoutLimit = v.cfg.lockoutLimit ∧ v.limited es k.lockoutLimit = v.record.failures) ∨ (v.cfg.InRange →
      v.limited es k.lockoutLimit < k.lockoutLimit ∨
        (isLocked v.record.st = true ∧ v.limited es k.lockoutLimit ≤ k.lockoutLimit)) := by
  unfold View.limited
  cases named : names es 17 with
  | false => exact .inl ⟨unnamed named, by simp⟩
  | true =>
    refine .inr fun inRange => ?_
    have positive := (range inRange).lockoutLimit.1
    cases locked : isLocked v.record.st with
    | true => exact .inr ⟨rfl, by simp⟩
    | false => exact .inl (by simp; omega)

theorem writeDistrict_acts {es : List FieldEntry} {k : DistrictConfig}
    (taken : takeDistrict (s.dcfg d) es = some k) (free : districtBusy s d es = false) :
    Acts d s (writeDistrict d es k s) := by
  obtain ⟨feed, reversing, patrol, limit⟩ := takeDistrict_unnamed taken
  have range : (view s d).cfg.InRange → k.InRange := takeDistrict_inRange taken
  have feedOk : k.feed = (view s d).cfg.feed ∨
      (((view s d).mode = .standby → atRest (view s d).record.st = true) →
        entryOf (view s d).record.st = none ∧ probeKindOf (view s d).record.st = none) := by
    cases named : names es 1 with
    | false => exact .inl (feed named)
    | true => exact .inr (no_look_of_feed_written free named)
  have repolarised : VSteps (view s d) { view s d with
      record := { (view s d).record with polarity := (view s d).repolarised es k.reversing } } := by
    unfold View.repolarised
    split
    · exact .single (.polarity _ .normal (.inr rfl))
    · exact .refl
  have reversingOk : k.reversing = (view s d).cfg.reversing ∨ k.reversing = true ∨
      ((view s d).repolarised es k.reversing = .normal ∧ (view s d).Still) := by
    cases named : names es 3 with
    | false => exact .inl (reversing named)
    | true =>
      cases on : k.reversing with
      | true => exact .inr (.inl rfl)
      | false => exact .inr (.inr ⟨by simp [View.repolarised, named], still_of_written free named rfl⟩)
  have configured {x : Timer} (chain : VSteps (view s d) { view s d with
        timer := x, record := { (view s d).record with polarity := (view s d).repolarised es k.reversing } })
      (patrolOk : k.patrol = (view s d).cfg.patrol ∨ k.patrol = true ∨ isLocked (view s d).record.st = false ∨
        x = Timer.empty) :
      VSteps (view s d) { (view s d).configured es k with timer := x } :=
    chain.tail (.configured _ k ((view s d).limited es k.lockoutLimit) range ((view s d).limited_ok limit range)
      (feedOk.imp_right fun quiet agrees => quiet fun standby => (agrees.standby standby).1) patrolOk reversingOk)
  refine ⟨?_, .writeDistrict s es k⟩
  rw [view_writeDistrict]
  by_cases stops : k.patrol = false ∧ names es 4 = true ∧ isLocked (view s d).record.st = true
  · obtain ⟨off, named, locked⟩ := stops
    rw [View.effects_stopped (v := (view s d).configured es k) named off locked]
    exact VSteps.effects (configured (repolarised.tail (.timerCleared _)) (.inr (.inr (.inr rfl)))) es
  · refine VSteps.effects (configured repolarised ?_) es
    cases named : names es 4 with
    | false => exact .inl (patrol named)
    | true =>
      cases on : k.patrol with
      | true => exact .inr (.inl rfl)
      | false => exact .inr (.inr (.inl (Bool.eq_false_iff.mpr fun locked => stops ⟨on, named, locked⟩)))

/-! ### Every small change of the part -/

theorem Change.every (change : Change t u) (d : DistrictId) : VSteps (view t d) (view u d) := by
  have shown (h : view u d = view t d) : VSteps (view t d) (view u d) := by rw [h]
  cases change with
  | sampled ds => exact .refl
  | advanced f => exact .refl
  | monitor e m window integrator history => exact (Acts.monitor t m window integrator history).every d
  | record e r kept trips swaps => exact (Acts.record t r kept trips swaps).every d
  | restored e => exact (Acts.restorePolarity t).every d
  | swapped e x may => exact (startSwap_acts may).every d
  | probationLoaded e on =>
    refine Acts.every (d := e) ⟨?_, .loadTimer t _ _⟩ d
    rw [view_loadTimer]
    exact .single (.timerLoaded _ .probation _ on fun range => range.globals.probation.2)
  | tripped e cause live window => exact (tripReport_acts cause live window).every d
  | probeFails c p q cause own district kind => exact (failProbe_acts cause own district kind).every d
  | succeeds c p own confirm => exact (succeed_acts own confirm).every d
  | looksPass c p own => exact (passLook_acts own).every d
  | expired c p own => exact (expireProbe_acts own).every d
  | abandoned f c waiting =>
    cases own : t.channel c with
    | none => exact shown (by rw [abandonProbe, own])
    | some p => exact (abandonProbe_acts f own).every d
  | onward c g moves => exact onward_every moves d
  | unwaits f c => exact .refl
  | stalls f => exact .refl
  | counted e n range => exact (handCount_acts t e range).every d
  | closed f x => exact .refl
  | slot n x => exact .refl
  | feed f x => exact .refl
  | joint j x st =>
    refine shown ?_
    rw [view, isolationSet_setJoint st]
    rfl
  | shed f => exact shedFeed_every f t d
  | retried e st => exact (retried_acts st).every d
  | awaits e st => exact (awaits_acts st).every d
  | lapsed e st => exact (lapsed_acts st).every d
  | served e => exact (served_acts t e).every d
  | patrols e due => exact (patrols_acts due).every d
  | lookQueued e cause st free timer => exact (lookQueued_acts st free timer).every d
  | ticked e =>
    refine Acts.every (d := e) ⟨?_, .setTimer t _⟩ d
    rw [view_setTimer]
    exact .single (.tick _)
  | clock prescaler quarter => exact .refl
  | granted f c e rest free head => exact (granted_acts free head).every d
  | isolation u overlay => exact isolationChange_every overlay d
  | cleared e locked => exact (cleared_acts locked).every d
  | configured e es k taken free => exact (writeDistrict_acts taken free).every d
  | feedConfigured f k => exact .refl
  | globals g range => exact .single (.globals _ g range)
  | entered standby => exact .single (.entered _ standby)
  | enters e run => exact (enterDistrict_acts run).every d
  | left => exact leaveRun_every t d
  | stored image lost writing => exact .refl
  | line l => exact .refl
  | pending q => exact .refl

theorem Changes.every (changes : Changes s t) (d : DistrictId) : VSteps (view s d) (view t d) := by
  induction changes with
  | refl => exact .refl
  | tail _ change ih => exact ih.trans (change.every d)

end Sys2Proof.Machine
end

section
/-! The laws of a part whose every district's view makes a chain of small changes (R4, R7, R11, R12, R26, R81), and
what the outputs of a sound part drive (R8, R12). -/

namespace Sys2Proof.Machine

variable {s t : State} {d : DistrictId}

/-! ### Chains of small changes keep the laws of every district -/

section
variable (changes : Changes s t)
include changes

theorem Changes.recoverySound (h : RecoverySound s) : RecoverySound t :=
  recoverySound_iff.mpr fun d => (changes.every d).agrees (recoverySound_iff.mp h d)

theorem Changes.isolationSound (sound : RecoverySound s) (h : IsolationSound s) : IsolationSound t :=
  isolationSound_iff.mpr fun d =>
    (changes.every d).isolationOk (recoverySound_iff.mp sound d) (isolationSound_iff.mp h d)

theorem Changes.failuresSound (range : ConfigInRange s) (sound : RecoverySound s) (h : FailuresSound s) :
    FailuresSound t :=
  failuresSound_iff.mpr fun d =>
    (changes.every d).failuresOk (recoverySound_iff.mp sound d) (.of_config range d) (failuresSound_iff.mp h d)

theorem Changes.polaritySound (sound : RecoverySound s) (h : PolaritySound s) : PolaritySound t :=
  polaritySound_iff.mpr fun d =>
    (changes.every d).polarityOk (recoverySound_iff.mp sound d) (polaritySound_iff.mp h d)

theorem Changes.timersSound (range : ConfigInRange s) (sound : RecoverySound s) (h : TimersSound s) : TimersSound t :=
  timersSound_iff.mpr fun d =>
    (changes.every d).timerOk (recoverySound_iff.mp sound d) (.of_config range d) (timersSound_iff.mp h d)

theorem Changes.countersInRange (h : CountersInRange s) : CountersInRange t := by
  obtain ⟨districts, check, frame, collisions⟩ := countersInRange_iff.mp h
  obtain ⟨check, frame, collisions⟩ := changes.line_inRange ⟨check, frame, collisions⟩
  exact countersInRange_iff.mpr ⟨fun d => (changes.every d).countersOk (districts d), check, frame, collisions⟩
end

/-! ### Outputs (R8, R12) -/

/-- In a sound part the probe in a channel is the probe of its district, whose state says so (R112). -/
theorem RecoverySound.probeOf (h : RecoverySound s) {c : ChannelId} {p : Probe} (own : s.channel c = some p) :
    probeOf s p.district = some p := by
  cases held : channelOf s p.district with
  | none =>
    have free := List.find?_eq_none.mp held c (mem_allChannels c)
    simp [own] at free
  | some b =>
    obtain ⟨q, occupied, same⟩ := channelOf_occupied held
    obtain rfl := h.channel b c q p occupied own same
    rw [Machine.probeOf, held, Option.bind_some, own]

theorem not_stallPaused (p : Probe) :
    (match p.pause with | some ⟨.stall, _⟩ => false | _ => true) = !stallPaused p := by
  unfold stallPaused
  rcases p.pause with _ | ⟨_ | _, r⟩ <;> rfl

/-- What the outputs of a probed district drive (R12). -/
theorem RecoverySound.probe_drives (h : RecoverySound s) {c : ChannelId} {p : Probe} (own : s.channel c = some p) :
    switchDrive s p.district = probeSwitch p ∧
      prechargeDrive s p.district = (p.stage == .precharge && !stallPaused p) := by
  have kind := (h.context c p own).2
  have probe := h.probeOf own
  unfold switchDrive prechargeDrive
  rcases st : (s.district p.district).st with _ | _ | _ | _ | _ | _ | _ | ⟨cause, _ | _ | _⟩ <;>
    rw [st] at kind <;> simp [probeKindOf] at kind
  case probing => exact ⟨by simp [probe], by simp only [probe]; exact congrArg (p.stage == .precharge && ·) (not_stallPaused p)⟩
  case locked.inFlight => exact ⟨by simp [probe], by simp only [probe]; exact congrArg (p.stage == .precharge && ·) (not_stallPaused p)⟩

/-- A district that is not LIVE and holds no channel drives nothing (R12). -/
theorem unprobed_drives (st : (s.district d).st ≠ .live) (free : ∀ c p, s.channel c = some p → p.district ≠ d) :
    switchDrive s d = .opened ∧ prechargeDrive s d = false := by
  have none_held : Machine.probeOf s d = none := by
    cases held : channelOf s d with
    | none => rw [Machine.probeOf, held, Option.bind_none]
    | some c =>
      obtain ⟨p, own, same⟩ := channelOf_occupied held
      exact absurd same (free c p own)
  unfold switchDrive prechargeDrive
  rcases st' : (s.district d).st with _ | _ | _ | _ | _ | _ | _ | ⟨cause, _ | _ | _⟩ <;> simp [none_held]
  exact st st'

theorem live_drives (st : (s.district d).st = .live) : switchDrive s d = .closed ∧ prechargeDrive s d = false := by
  unfold switchDrive prechargeDrive
  rw [st]
  exact ⟨rfl, rfl⟩

/-- The switch of a probe that no stall pauses, by its stage (R12). -/
def stageSwitch (p : Probe) : SwitchDrive :=
  match p.stage with
  | .ramp k => .duty k p.profile.rampSteps
  | .confirm _ => .closed
  | .sense => .opened
  | .precharge => .opened

theorem probeSwitch_eq (p : Probe) : probeSwitch p = if stallPaused p then .opened else stageSwitch p := by
  unfold probeSwitch stallPaused stageSwitch
  rcases p.pause with _ | ⟨_ | _, r⟩ <;> rfl

theorem probeSwitch_stalled {p : Probe} (stalled : stallPaused p = true) : probeSwitch p = .opened := by
  rw [probeSwitch_eq, stalled, if_pos rfl]

theorem probeSwitch_runs {p : Probe} (runs : stallPaused p = false) : probeSwitch p = stageSwitch p := by
  simp [probeSwitch_eq, runs]

/-- A probe whose switch or path is closed may power its district (R12). -/
theorem mayPower_of_drives {p : Probe}
    (powers : probeSwitch p ≠ .opened ∨ (p.stage == .precharge && !stallPaused p) = true) : mayPower p = true := by
  have runs : stallPaused p = false := by
    rcases powers with switch | path
    · exact Bool.eq_false_iff.mpr fun stalled => switch (probeSwitch_stalled stalled)
    · simp only [Bool.and_eq_true, Bool.not_eq_true'] at path
      exact path.2
  have notSense : p.stage.isSense = false := by
    rw [probeSwitch_runs runs] at powers
    cases stage : p.stage <;> simp [stageSwitch, stage, Stage.isSense] at powers ⊢
  unfold mayPower
  rw [notSense, Bool.not_false, Bool.true_and]
  exact (not_stallPaused p).trans (by rw [runs]; rfl)

theorem drivesSafe_of_sound (h : RecoverySound s) (isolation : IsolationSound s) : DrivesSafe s := by
  intro d powers
  have runs {x : DistrictState} (st : (s.district d).st = x) (busy : atRest x = false) : s.mode = .run := by
    cases mode : s.mode with
    | run => rfl
    | standby =>
      have rests := (h.standby mode d).1
      rw [st, busy] at rests
      cases rests
  have free {x : DistrictState} (st : (s.district d).st = x) (out : mayBeIsolated x = false) :
      isolationSet s d = false := (View.IsolationOk.free (v := view s d) (isolationSound_iff.mp isolation d) st out)
  by_cases live : (s.district d).st = .live
  · exact ⟨runs live rfl, free live rfl, .inl live⟩
  · by_cases held : ∃ c p, s.channel c = some p ∧ p.district = d
    · obtain ⟨c, p, own, rfl⟩ := held
      obtain ⟨switch, path⟩ := h.probe_drives own
      unfold powered at powers
      rw [switch, path] at powers
      have probed : (s.district p.district).st = .probing ∨
          ∃ cause, (s.district p.district).st = .locked cause .inFlight := by
        have kind := (h.context c p own).2
        cases k : p.kind with
        | full => exact .inl (probeKindOf_eq_full.mp (k ▸ kind))
        | look => exact .inr (probeKindOf_eq_look.mp (k ▸ kind))
      have power := mayPower_of_drives powers
      rcases probed with st | ⟨cause, st⟩
      · exact ⟨runs st rfl, free st rfl, .inr ⟨c, p, own, rfl, power⟩⟩
      · exact ⟨runs st rfl, free st rfl, .inr ⟨c, p, own, rfl, power⟩⟩
    · obtain ⟨switch, path⟩ := unprobed_drives live fun c p own same => held ⟨c, p, own, same⟩
      rcases powers with closed | closed
      · exact absurd switch closed
      · rw [path] at closed
        cases closed

theorem relay_of_polaritySound (h : PolaritySound s) (d : DistrictId) :
    (relayDrive s d = true ↔ (s.district d).polarity = .swapped) ∧
      ((s.dcfg d).reversing = false → relayDrive s d = false) := by
  have normal := h.normal d
  unfold relayDrive
  cases reversing : (s.dcfg d).reversing with
  | true => simp
  | false => simp [normal reversing]

end Sys2Proof.Machine

open Sys2Proof Sys2Proof.Machine
/-- Settles O5: a step is a reset, or a chain of small changes, each of which counts up to its ceiling. -/
theorem countersStayInRange : Obligations.CountersStayInRange := by
  intro s t range stepped
  rcases step_changes stepped with ⟨straps, q, rfl⟩ | changes
  · exact afterReset_countersInRange _ _ _
  · exact changes.countersInRange range

/-- Settles O8: an onset takes a district from every state but OFF, ISOLATED and LOCKED, and an isolated district
enters no other. -/
theorem isolatedDistrictsStayDark : Obligations.IsolatedDistrictsStayDark := by
  intro s t sound isolation stepped
  rcases step_changes stepped with ⟨straps, q, rfl⟩ | changes
  · exact afterReset_isolationSound _ _ _
  · exact changes.isolationSound sound isolation

/-- Settles O9: F rises to the limit only on the way to LOCKED, and falls below it on the way out. -/
theorem failuresStayWithinTheLimit : Obligations.FailuresStayWithinTheLimit := by
  intro s t range sound failures stepped
  have after := configurationStaysInRange s t range stepped
  rcases step_changes stepped with ⟨straps, q, rfl⟩ | changes
  · exact afterReset_failuresSound _ _ _ after
  · exact changes.failuresSound range sound failures

/-- Settles O10: an output of a sound part is closed by LIVE or by a probe that may power it, and neither stands with
an isolation set or in STANDBY. -/
theorem onlyFreeDistrictsArePowered : Obligations.OnlyFreeDistrictsArePowered := by
  refine ⟨fun s t sound isolation stepped => ?_, fun s d sound => ?_, fun s d polarity =>
    relay_of_polaritySound polarity d⟩
  · rcases step_changes stepped with ⟨straps, q, rfl⟩ | changes
    · exact ⟨drivesSafe_of_sound (afterReset_recoverySound _ _ _) (afterReset_isolationSound _ _ _),
        fun _ => afterReset_polaritySound _ _ _⟩
    · exact ⟨drivesSafe_of_sound (changes.recoverySound sound) (changes.isolationSound sound isolation),
        changes.polaritySound sound⟩
  · refine ⟨live_drives, unprobed_drives, fun c p own district => ?_⟩
    subst district
    obtain ⟨switch, path⟩ := sound.probe_drives own
    simp only [switch, path]
    refine ⟨fun stalled => ⟨probeSwitch_stalled stalled, by simp [stalled]⟩, fun runs => ?_⟩
    rw [probeSwitch_runs runs, runs]
    refine ⟨fun stage => ?_, fun stage => ?_, fun k stage => ?_, fun pending stage => ?_⟩ <;> simp [stageSwitch, stage]
end

section
/-! The updates of recovery as a law of the queues, the episodes and the channels sees them: all that they do to these
is to place an entry, to remove one, and to end a probe (R98, R99, R107). -/

namespace Sys2Proof.Machine

variable {P : State → Prop} {s t u : State}

/-- Nothing that a law of queues, episodes and channels reads differs between two states. -/
structure SameLists (s t : State) : Prop where
  queue : ∀ f, t.queue f = s.queue f
  episode : ∀ f, t.episode f = s.episode f
  channel : ∀ c, t.channel c = s.channel c
  feed : ∀ d, (t.dcfg d).feed = (s.dcfg d).feed

theorem SameLists.rfl (s : State) : SameLists s s := ⟨fun _ => .refl _, fun _ => .refl _, fun _ => .refl _, fun _ => .refl _⟩

/-- A law of the queues, the episodes and the channels that the operations of recovery keep. -/
structure ListLaw (P : State → Prop) : Prop where
  same : ∀ {s t}, SameLists s t → P s → P t
  enqueue : ∀ s d k, P s → P (s.setQueue (s.dcfg d).feed (queueWith s d k))
  removeEntry : ∀ s d, P s → P (removeEntry d s)
  endProbe : ∀ s c, P s → P (endProbe c s)

section
variable (hP : ListLaw P) (d : DistrictId)
include hP

/-- An update of the records of districts, monitors, timers, feeds, joints and slots. -/
theorem ListLaw.quiet (h : P s) (same : SameLists s t := by exact ⟨fun _ => rfl, fun _ => rfl, fun _ => rfl, fun _ => rfl⟩) :
    P t := hP.same same h

theorem ListLaw.mark (ks : List Mark) (h : P s) : P (markDistrict ks d s) := by
  obtain ⟨slots, marked⟩ := markDistrict_same ks d s
  rw [marked]
  exact hP.quiet h

theorem ListLaw.markFeed (f : FeedId) (h : P s) : P (markFeed f s) := by
  obtain ⟨slots, marked⟩ := markFeed_same f s
  rw [marked]
  exact hP.quiet h

theorem ListLaw.becomeQueued (h : P s) : P (becomeQueued d s) :=
  hP.enqueue (setSt d .queued s) d .full (hP.quiet h)

theorem ListLaw.enterLocked (cause : LockCause) (h : P s) : P (enterLocked d cause s) := by
  rw [enterLocked_state]
  exact hP.quiet h

theorem ListLaw.setLook (x : LookStatus) (h : P s) : P (setLook d x s) := by
  unfold Machine.setLook
  split
  · exact hP.quiet h
  · exact h

theorem ListLaw.restorePolarity (h : P s) : P (restorePolarity d s) := by
  unfold Machine.restorePolarity
  split
  · exact hP.quiet h
  · exact h

theorem ListLaw.abandonWindow (h : P s) : P (abandonWindow d s) := hP.quiet (hP.restorePolarity d h)

theorem ListLaw.endProbation (h : P s) : P (endProbation d s) := by
  unfold Machine.endProbation
  split
  · exact hP.quiet h
  · exact h

theorem ListLaw.endOwnProbe (h : P s) : P (endOwnProbe d s) := by
  unfold Machine.endOwnProbe
  split
  · exact hP.endProbe _ _ h
  · exact h

theorem ListLaw.dropLook (h : P s) : P (dropLook d s) := by
  unfold Machine.dropLook
  split
  · exact hP.quiet (hP.removeEntry _ d h)
  · exact hP.quiet (hP.endOwnProbe d h)
  · exact h

/-! ### The ends of probes (R120 to R128) -/

theorem ListLaw.failedState (h : P s) : P (failedState d s) := by
  unfold Machine.failedState
  split
  · exact hP.mark d _ (hP.enterLocked d _ h)
  · split
    · exact hP.mark d _ (hP.enterLocked d _ h)
    · split
      · exact hP.mark d _ (hP.quiet h)
      · exact hP.mark d _ (hP.quiet h)

theorem ListLaw.failProbe (c : ChannelId) (p : Probe) (cause : FailCause) (h : P s) : P (failProbe c p cause s) := by
  unfold Machine.failProbe
  split
  · exact hP.failedState _ (hP.quiet (hP.endProbe _ c h))
  · exact hP.mark _ _ (hP.setLook _ _ (hP.quiet (hP.endProbe _ c h)))

theorem ListLaw.succeed (c : ChannelId) (h : P s) : P (succeed c d s) := by
  have ended := hP.endProbe s c h
  exact hP.mark d _ (hP.quiet ended)

theorem ListLaw.passLook (c : ChannelId) (h : P s) : P (passLook c d s) := by
  have ended : P (clearTimer d (setFailures d ((s.dcfg d).lockoutLimit - 1) (Machine.endProbe c s))) :=
    hP.quiet (hP.endProbe s c h)
  unfold Machine.passLook
  dsimp only
  split
  · exact hP.mark d _ (hP.becomeQueued d ended)
  · exact hP.mark d _ (hP.quiet ended)

theorem ListLaw.expireProbe (c : ChannelId) (p : Probe) (h : P s) : P (expireProbe c p s) := by
  have ended : P (writeFail p.district .lifetime (Machine.endProbe c s)) := hP.quiet (hP.endProbe s c h)
  unfold Machine.expireProbe
  dsimp only
  split
  · exact hP.mark _ _ (hP.becomeQueued _ ended)
  · exact hP.mark _ _ (hP.setLook _ _ ended)

/-! ### Trips (R41) -/

theorem ListLaw.trippedState (h : P s) : P (trippedState d s) := by
  unfold Machine.trippedState
  split
  · exact hP.mark d _ (hP.enterLocked d _ h)
  · split
    · exact hP.mark d _ (hP.enterLocked d _ h)
    · exact hP.mark d _ (hP.quiet h)

omit hP in
/-- The feed of a district is such a law. -/
theorem feedLaw (f : FeedId) : ListLaw (fun x => (x.dcfg d).feed = f) where
  same h feed := (h.feed d).trans feed
  enqueue _ _ _ h := h
  removeEntry _ _ h := h
  endProbe x c h := ((endProbe_sameOuter x c).dcfg d ▸ h : _)

omit hP d in
theorem ListLaw.and {Q : State → Prop} (hP : ListLaw P) (hQ : ListLaw Q) : ListLaw (fun x => P x ∧ Q x) where
  same h := And.imp (hP.same h) (hQ.same h)
  enqueue x d k := And.imp (hP.enqueue x d k) (hQ.enqueue x d k)
  removeEntry x d := And.imp (hP.removeEntry x d) (hQ.removeEntry x d)
  endProbe x c := And.imp (hP.endProbe x c) (hQ.endProbe x c)

theorem ListLaw.tripReport (cause : TripCause) (h : P s)
    (arrives : ∀ x, (x.dcfg d).feed = (s.dcfg d).feed → P x → P (arrive (s.dcfg d).feed d x)) :
    P (tripReport d cause s) := by
  have both := hP.and (feedLaw d (s.dcfg d).feed)
  have tripped (x : State) (hx : P x ∧ (x.dcfg d).feed = (s.dcfg d).feed) :
      P (arrive (x.dcfg d).feed d (Machine.trippedState d (clearIntegrator d x))) := by
    obtain ⟨hy, feed⟩ := both.trippedState d (s := clearIntegrator d x) (both.quiet hx)
    rw [hx.2]
    exact arrives _ feed hy
  have counted : P (countTrip d cause s) := hP.quiet h
  rw [tripReport_steps]
  dsimp only
  split
  · exact tripped _ (both.endProbation d (both.quiet (s := countTrip d cause s) ⟨counted, rfl⟩))
  · exact tripped _ ⟨counted, rfl⟩

/-! ### Members of an episode (R54, R55, R136) -/

theorem ListLaw.joinMerging (f : FeedId) (h : P s)
    (joins : ∀ x, (x.dcfg d).feed = (s.dcfg d).feed → P x → P (x.modEpisode f (fun e => e.addMember d))) :
    P (joinMerging f d s) := by
  have joined := joins (setSt d (.cooling .merging) s) rfl (hP.quiet h)
  exact hP.mark d _ (hP.quiet joined)

omit d in
theorem ListLaw.abandonProbe (f : FeedId) (c : ChannelId) (h : P s)
    (joins : ∀ p x, s.channel c = some p → (x.dcfg p.district).feed = (s.dcfg p.district).feed → P x →
      P (x.modEpisode f (fun e => e.addMember p.district))) : P (abandonProbe f c s) := by
  have ended := hP.endProbe s c h
  unfold Machine.abandonProbe
  split
  · next p own =>
    split
    · refine hP.joinMerging p.district f ended fun x feed hx => joins p x own ?_ hx
      rw [feed, (endProbe_sameOuter s c).dcfg p.district]
    · exact hP.setLook _ _ ended
  · exact h

theorem ListLaw.shedDistrict (f : FeedId) (h : P s) (joins : (s.dcfg d).feed = f → ∀ x,
    (x.dcfg d).feed = f → P x → P (x.modEpisode f (fun e => e.addMember d))) : P (shedDistrict f d s) := by
  have both := hP.and (feedLaw d (s.dcfg d).feed)
  unfold Machine.shedDistrict
  split
  · next shed =>
    simp only [Bool.and_eq_true, beq_iff_eq] at shed
    obtain ⟨ended, feed⟩ := both.endProbation d (both.abandonWindow d ⟨h, rfl⟩)
    exact hP.joinMerging d f ended fun x same hx => joins shed.1 x ((same.trans feed).trans shed.1) hx
  · exact h

/-! ### Counts and isolation (R14 to R20, R75) -/

theorem ListLaw.handCount (n : Nat) (h : P s) : P (handCount d n s) := by
  unfold Machine.handCount
  split
  · exact hP.quiet h
  · exact hP.quiet h
  · exact h

theorem ListLaw.onset (h : P s) : P (onset d s) := by
  unfold Machine.onset
  split
  · exact hP.quiet (hP.endProbation d (hP.abandonWindow d h))
  · exact hP.quiet h
  · exact hP.quiet h
  · exact hP.quiet (hP.removeEntry _ d h)
  · exact hP.quiet h
  · exact hP.quiet (hP.endOwnProbe d h)
  · exact hP.dropLook d (hP.quiet h)
  · exact h
  · exact h

theorem ListLaw.releaseDistrict (h : P s) : P (releaseDistrict d s) := by
  unfold Machine.releaseDistrict
  split
  · exact hP.quiet h
  · exact hP.quiet h
  · exact hP.becomeQueued d h
  · exact hP.quiet h
  · split
    · exact hP.quiet h
    · exact h
  · exact h

theorem ListLaw.takeIsolation (before after : State) (h : P s) : P (takeIsolation before after d s) := by
  unfold Machine.takeIsolation
  split
  · refine hP.mark d _ ?_
    split
    · exact hP.onset d h
    · exact hP.releaseDistrict d h
    · exact h
  · exact h

omit d in
theorem ListLaw.isolationChange (overlay : Overlay t u) (h : P t) : P (isolationChange t u) := by
  have same := overlay.same
  refine forDistricts_keeps (fun d _ hx => hP.takeIsolation d t u hx) (hP.same ⟨?_, ?_, ?_, ?_⟩ h) <;> intro i <;>
    rw [same] <;> rfl

/-! ### Clears, entries to RUN and district writes (R23 to R25, R169, R171) -/

theorem ListLaw.wake (h : P s) : P (wake d s) := by
  unfold Machine.wake
  split
  · exact hP.quiet h
  · exact hP.becomeQueued d h

theorem ListLaw.rest (h : P s) : P (rest d s) := hP.quiet (hP.dropLook d h)

theorem ListLaw.clearedState (h : P s) : P (clearedState d s) := by
  unfold Machine.clearedState
  split
  · exact hP.wake d h
  · exact hP.quiet h

theorem ListLaw.enterDistrict (h : P s) : P (enterDistrict d s) := by
  unfold Machine.enterDistrict
  split
  · split
    · exact hP.quiet h
    · exact hP.quiet h
  · split
    · exact h
    · exact hP.wake d h
  · exact h

theorem ListLaw.policyEffect (h : P s) : P (policyEffect d s) := by
  have darkened : P (darken d s) := hP.quiet (hP.rest d h)
  unfold Machine.policyEffect
  split
  · split
    · exact darkened
    · exact darkened
    · exact h
  · split
    · split
      · exact hP.wake d h
      · exact h
    · split
      · exact hP.quiet h
      · exact h
    · exact h

/-- A district write, once the configuration is stored (R22 to R25). -/
theorem ListLaw.writeDistrict (es : List FieldEntry) (k : DistrictConfig) (stored : P (s.setDcfg d k)) :
    P (writeDistrict d es k s) := by
  have named {id : Nat} {effect : State → State} (keeps : ∀ x, P x → P (effect x)) {x : State} (hx : P x) :
      P (whenNamed es id effect x) := by
    unfold whenNamed
    split
    · exact keeps x hx
    · exact hx
  refine hP.mark d _ (named (fun x hx => ?_) (named (fun x hx => hP.policyEffect d hx)
    (named (fun x hx => ?_) (named (fun x hx => ?_) stored))))
  · unfold patrolEffect
    split
    · split
      · split
        · exact hP.quiet hx
        · exact hx
      · exact hP.quiet hx
    · exact hx
  · unfold reversingEffect
    split
    · exact hx
    · exact hP.quiet hx
  · unfold limitEffect
    split <;> exact hP.quiet hx
end

end Sys2Proof.Machine
end

section
/-! Every small change as a law of queues and episodes sees it, and the bands of every queue (R96, R98). -/

namespace Sys2Proof.Machine

variable {P : State → Prop} {s t u : State}

/-- An update of an episode that keeps its members and lets channels leave its waiting probes. -/
structure Trims (g : Episode → Episode) : Prop where
  members : ∀ e, (g e).members = e.members
  waiting : ∀ e (c : ChannelId), (g e).waiting.getLsbD c.val = true → e.waiting.getLsbD c.val = true

/-- A law of queues, episodes and channels that every small change of state `t` keeps. -/
structure ChangeLaw (P : State → Prop) (t : State) : Prop extends ListLaw P where
  arrives : ∀ x d, P x → P (arrive (x.dcfg d).feed d x)
  trims : ∀ f g, Trims g → P t → P (t.modEpisode f g)
  closes : ∀ f, P t → P (t.setEpisode f none)
  moves : ∀ c g, (∀ p, t.channel c = some p → (g p).feed = p.feed) → P t → P (t.modChannel c g)
  grants : ∀ f c e rest p, t.channel c = none → t.queue f = e :: rest → P t → P ((t.setQueue f rest).setChannel c (some p))
  abandons : ∀ f c, waits t f c = true → P t → P (abandonProbe f c t)
  sheds : ∀ f, P t → P (shedFeed f t)
  stores : ∀ d k, k.feed = (t.dcfg d).feed ∨ episodeMember t d = false → P t → P (t.setDcfg d k)
  leaves : P t → P (leaveRun t)

theorem Episode.advance_trims : Trims Episode.advance where
  members e := by unfold Episode.advance; split <;> rfl
  waiting e c := by unfold Episode.advance; split <;> exact id

theorem stalled_trims : Trims (fun e => { e with stallFlag := true, waiting := 0#4 }) where
  members _ := rfl
  waiting e c h := by simp at h

theorem unwaited_trims (c : ChannelId) : Trims (fun e => { e with waiting := removeItem e.waiting c.val }) where
  members _ := rfl
  waiting e b h := by
    simp only [removeItem, BitVec.getLsbD_and, Bool.and_eq_true] at h
    exact h.1

/-- A write that names a new feed is let through only to a district that is a member of no open episode (R21). -/
theorem feed_written {d : DistrictId} {es : List FieldEntry} {k : DistrictConfig}
    (taken : takeDistrict (s.dcfg d) es = some k) (free : districtBusy s d es = false) :
    k.feed = (s.dcfg d).feed ∨ episodeMember s d = false := by
  cases named : names es 1 with
  | false => exact .inl ((takeDistrict_unnamed taken).1 named)
  | true =>
    simp only [districtBusy, named, Bool.true_and, Bool.or_eq_false_iff] at free
    exact .inr free.1.2.1.1

theorem ChangeLaw.keeps (hP : ChangeLaw P t) (change : Change t u) (h : P t) : P u := by
  have law := hP.toListLaw
  cases change with
  | sampled ds => exact law.quiet h
  | advanced f => exact hP.trims f _ Episode.advance_trims h
  | monitor d m => exact law.quiet h
  | record d r => exact law.quiet h
  | restored d => exact law.restorePolarity d h
  | swapped d x => exact law.quiet h
  | probationLoaded d => exact law.quiet h
  | tripped d cause =>
    refine law.tripReport d cause h fun x feed hx => ?_
    rw [← feed]
    exact hP.arrives x d hx
  | probeFails c p q cause => exact law.failProbe c p cause h
  | succeeds c p => exact law.succeed p.district c h
  | looksPass c p => exact law.passLook p.district c h
  | expired c p => exact law.expireProbe c p h
  | abandoned f c waiting => exact hP.abandons f c waiting h
  | onward c g moves => exact hP.moves c g (fun p own => (moves p own).1.feed) h
  | unwaits f c => exact hP.trims f _ (unwaited_trims c) h
  | stalls f => exact hP.trims f _ stalled_trims h
  | counted d n => exact law.handCount d n h
  | closed f x =>
    have closed := hP.closes f h
    exact law.quiet closed
  | slot n x => exact law.quiet h
  | feed f x => exact law.quiet h
  | joint j x => exact law.quiet h
  | shed f => exact hP.sheds f h
  | retried d => exact law.becomeQueued d (s := clearTimer d t) (law.quiet h)
  | awaits d => exact law.quiet h
  | lapsed d => exact law.enterLocked d _ (s := clearTimer d t) (law.quiet h)
  | served d => exact law.quiet h
  | patrols d => exact law.quiet h
  | lookQueued d cause => exact law.enqueue (setSt d (.locked cause .queued) t) d .look (law.quiet h)
  | ticked d => exact law.quiet h
  | clock prescaler quarter => exact law.quiet h
  | granted f c e rest free head =>
    have held := hP.grants f c e rest (startProbe t f e (effectiveWeight t f e)) free head h
    rw [grantChannel]
    unfold grantedState
    split
    · exact law.quiet held
    · have granted : P (((t.setQueue f rest).setChannel c
        (some (startProbe t f e (effectiveWeight t f e)))).setLastGranted f) := law.quiet held
      exact law.setLook _ _ granted
  | isolation v overlay => exact law.isolationChange overlay h
  | cleared d => exact law.clearedState d (law.rest d h)
  | configured d es k taken free => exact law.writeDistrict d es k (hP.stores d k (feed_written taken free) h)
  | feedConfigured f k => exact law.quiet h
  | globals g => exact law.quiet h
  | entered => exact law.quiet h
  | enters d => exact law.enterDistrict d h
  | left => exact hP.leaves h
  | stored image lost writing => exact law.quiet h
  | line l => exact law.quiet h
  | pending q => exact law.quiet h

/-! ### Bands (R96, R98) -/

theorem placed_sorted {q : List Entry} (x : Entry) (h : q.Pairwise (fun a b => a.priority ≤ b.priority)) :
    (placed q x).Pairwise (fun a b => a.priority ≤ b.priority) := by
  rw [placed, List.pairwise_append, List.pairwise_cons]
  refine ⟨h.filter _, ⟨fun b later => ?_, h.filter _⟩, fun a earlier b later => ?_⟩
  · simp only [List.mem_filter, decide_eq_true_eq] at later
    exact le_of_lt later.2
  · simp only [List.mem_filter, decide_eq_true_eq] at earlier
    rcases List.mem_cons.mp later with rfl | later
    · exact earlier.2
    · simp only [List.mem_filter, decide_eq_true_eq] at later
      exact earlier.2.trans (le_of_lt later.2)

theorem bandsSorted_setQueue {f : FeedId} {q : List Entry} (h : BandsSorted s)
    (sorted : q.Pairwise (fun a b => a.priority ≤ b.priority)) : BandsSorted (s.setQueue f q) := by
  intro g
  rw [State.setQueue_queue]
  split
  · exact sorted
  · exact h g

theorem bandsLaw : ListLaw BandsSorted where
  same same h f := by
    rw [same.queue]
    exact h f
  enqueue s d k h := bandsSorted_setQueue h (placed_sorted _ ((h _).filter _))
  removeEntry s d h := bandsSorted_setQueue h ((h _).filter _)
  endProbe s c h f := by
    rw [endProbe_queue]
    exact h f

theorem arrive_queue (s : State) (f g : FeedId) (d : DistrictId) : (arrive f d s).queue g = s.queue g := by
  unfold arrive
  split <;> rfl

theorem bands_dropEmptyEpisode (f : FeedId) (h : BandsSorted s) : BandsSorted (dropEmptyEpisode f s) := by
  unfold dropEmptyEpisode
  split
  · split
    · exact h
    · exact h
  · exact h

theorem bands_shedProbe (f : FeedId) (c : ChannelId) (h : BandsSorted s) : BandsSorted (shedProbe f c s) := by
  unfold shedProbe
  split
  · split
    · exact bandsLaw.abandonProbe f c h fun _ _ _ _ hx => hx
    · exact h
  · exact h

theorem bands_shedFeed (f : FeedId) (h : BandsSorted s) : BandsSorted (shedFeed f s) := by
  have opened : BandsSorted (s.setEpisode f (some (shedEpisode (s.episode f)))) := h
  have shed := forChannels_keeps (g := shedProbe f) (fun c x hx => bands_shedProbe f c hx)
    (forDistricts_keeps (g := shedDistrict f) (fun d x hx => bandsLaw.shedDistrict d f hx fun _ _ _ hy => hy) opened)
  have phased (x : State) (hx : BandsSorted x) : BandsSorted (x.modFeed f (fun y => { y with phase := .shed })) := hx
  exact bandsLaw.markFeed f (phased _ (bands_dropEmptyEpisode f shed))

theorem bands_changeLaw (t : State) : ChangeLaw BandsSorted t where
  toListLaw := bandsLaw
  arrives x d h f := by
    rw [arrive_queue]
    exact h f
  trims _ _ _ h := h
  closes _ h := h
  moves _ _ _ h := h
  grants f c e rest p _ head h := by
    have sorted := h f
    rw [head] at sorted
    exact bandsSorted_setQueue h (List.pairwise_cons.mp sorted).2
  abandons f c _ h := bandsLaw.abandonProbe f c h fun _ _ _ _ hy => hy
  sheds f h := bands_shedFeed f h
  stores _ _ _ h := h
  leaves _ f := by
    rw [leaveRun_eq]
    simp [State.queue]

theorem Changes.bandsSorted (changes : Changes s t) : BandsSorted s → BandsSorted t :=
  changes.keeps fun x _ change h => (bands_changeLaw x).keeps change h

end Sys2Proof.Machine
end

section
/-! The members and the waiting probes of every open episode (R60, R61, R132), and the agreement of states, queues,
channels, episodes and timers (O7). -/

namespace Sys2Proof.Machine

variable {s t u : State} {f : FeedId} {d : DistrictId} {x : Option FeedId}

/-- What an open episode of feed `f` holds: its members, each once, are districts of the feed, and a waiting channel
holds a probe of the feed. -/
structure EpisodeOk (s : State) (f : FeedId) (e : Episode) : Prop where
  distinct : e.members.Nodup
  feed : ∀ d ∈ e.members, (s.dcfg d).feed = f
  waiting : ∀ c : ChannelId, e.waiting.getLsbD c.val = true → ∃ p, s.channel c = some p ∧ p.feed = f

/-- `EpisodesSound`, where the episode of feed `x` may have no member yet (R54, R56). -/
structure EpisodesSoundBut (x : Option FeedId) (s : State) : Prop where
  present : ∀ f e, x ≠ some f → s.episode f = some e → e.members ≠ []
  ok : ∀ f e, s.episode f = some e → EpisodeOk s f e

theorem episodesSound_iff : EpisodesSound s ↔ EpisodesSoundBut none s :=
  ⟨fun h => ⟨fun f e _ => h.present f e, fun f e own => ⟨h.distinct f e own, h.feed f e own, fun c => h.waiting f e c own⟩⟩,
    fun h => ⟨fun f e => h.present f e nofun, fun f e own => (h.ok f e own).distinct, fun f e own => (h.ok f e own).feed,
      fun f e c own => (h.ok f e own).waiting c⟩⟩

/-! ### One episode changes -/

/-- What every episode holds where the feeds of districts stand and no waiting probe is lost. -/
theorem EpisodesSoundBut.mono (h : EpisodesSoundBut x s) (episode : ∀ f, t.episode f = s.episode f)
    (feed : ∀ f e d, s.episode f = some e → d ∈ e.members → (t.dcfg d).feed = (s.dcfg d).feed)
    (channel : ∀ f e c p, s.episode f = some e → e.waiting.getLsbD c.val = true → s.channel c = some p → p.feed = f →
      ∃ q, t.channel c = some q ∧ q.feed = f) : EpisodesSoundBut x t where
  present f e other own := h.present f e other (episode f ▸ own)
  ok f e own := by
    rw [episode] at own
    obtain ⟨distinct, feeds, waiting⟩ := h.ok f e own
    refine ⟨distinct, fun d member => (feed f e d own member).trans (feeds d member), fun c waits => ?_⟩
    obtain ⟨p, held, same⟩ := waiting c waits
    exact channel f e c p own waits held same

theorem EpisodesSoundBut.setEpisode (h : EpisodesSoundBut x s) {y : Option Episode}
    (ok : ∀ e, y = some e → (x ≠ some f → e.members ≠ []) ∧ EpisodeOk s f e) : EpisodesSoundBut x (s.setEpisode f y) where
  present g e other own := by
    rw [State.setEpisode_episode] at own
    split at own
    · next same => exact (ok e own).1 (same ▸ other)
    · exact h.present g e other own
  ok g e own := by
    rw [State.setEpisode_episode] at own
    split at own
    · next same =>
      obtain ⟨distinct, feed, waiting⟩ := (ok e own).2
      exact same ▸ ⟨distinct, feed, waiting⟩
    · obtain ⟨distinct, feed, waiting⟩ := h.ok g e own
      exact ⟨distinct, feed, waiting⟩

theorem EpisodeOk.trims {e : Episode} (h : EpisodeOk s f e) {g : Episode → Episode} (trims : Trims g) :
    EpisodeOk s f (g e) where
  distinct := by rw [trims.members]; exact h.distinct
  feed d member := h.feed d (trims.members e ▸ member)
  waiting c waits := h.waiting c (trims.waiting e c waits)

theorem EpisodesSoundBut.trims (h : EpisodesSoundBut x s) {g : Episode → Episode} (trims : Trims g) (f : FeedId) :
    EpisodesSoundBut x (s.modEpisode f g) := by
  refine h.setEpisode fun e own => ?_
  obtain ⟨e', held, rfl⟩ := Option.map_eq_some_iff.mp own
  exact ⟨fun other => by rw [trims.members]; exact h.present f e' other held, (h.ok f e' held).trims trims⟩

theorem mem_withMember {ms : List DistrictId} {e : DistrictId} : e ∈ withMember ms d ↔ e ∈ ms ∨ e = d := by
  unfold withMember
  split
  · next member => exact ⟨.inl, fun h => h.elim id fun same => same ▸ List.contains_iff_mem.mp member⟩
  · simp

theorem withMember_nodup {ms : List DistrictId} (h : ms.Nodup) : (withMember ms d).Nodup := by
  unfold withMember
  split
  · exact h
  · next absent =>
    simp only [List.contains_iff_mem] at absent
    exact List.nodup_append.mpr ⟨h, by simp, fun a member b own same => absent (by simp_all)⟩

/-- A district of the feed joins its episode (R61). -/
theorem EpisodeOk.addMember {e : Episode} (h : EpisodeOk s f e) (feed : (s.dcfg d).feed = f) :
    EpisodeOk s f (e.addMember d) where
  distinct := withMember_nodup h.distinct
  feed e' member := (mem_withMember.mp member).elim (h.feed e') fun same => same ▸ feed
  waiting := h.waiting

theorem addMember_members_ne (e : Episode) (d : DistrictId) : (e.addMember d).members ≠ [] :=
  List.ne_nil_of_mem (mem_withMember.mpr (.inr rfl))

theorem EpisodesSoundBut.addMember (h : EpisodesSoundBut x s) (feed : (s.dcfg d).feed = f) :
    EpisodesSoundBut x (s.modEpisode f (fun e => e.addMember d)) := by
  refine h.setEpisode fun e own => ?_
  obtain ⟨e', held, rfl⟩ := Option.map_eq_some_iff.mp own
  exact ⟨fun _ => addMember_members_ne e' d, (h.ok f e' held).addMember feed⟩

theorem siblingProbes_feed {c : ChannelId} (reached : (siblingProbes s f).getLsbD c.val = true) :
    ∃ p, s.channel c = some p ∧ p.feed = f := by
  obtain ⟨p, own, feed, -⟩ := (siblingProbes_iff s f c).mp reached
  exact ⟨p, own, feed⟩

/-- A trip report opens the episode of its district's feed, or joins it (R63, R64). -/
theorem EpisodesSoundBut.arrive (h : EpisodesSoundBut x s) (d : DistrictId) :
    EpisodesSoundBut x (arrive (s.dcfg d).feed d s) := by
  unfold Machine.arrive
  split
  · refine h.setEpisode fun e own => ?_
    cases own
    exact ⟨fun _ => by simp, by simp, by simp, fun c => siblingProbes_feed⟩
  · next e held =>
    refine h.setEpisode fun e' own => ?_
    cases own
    obtain ⟨distinct, feed, waiting⟩ := (h.ok _ e held).addMember (d := d) rfl
    refine ⟨fun _ => addMember_members_ne e d, distinct, feed, fun c waits => ?_⟩
    dsimp only at waits
    split at waits
    · rw [BitVec.getLsbD_or, Bool.or_eq_true] at waits
      exact waits.elim (waiting c) siblingProbes_feed
    · exact waiting c waits

/-! ### The operations of recovery (R107) -/

theorem EpisodesSoundBut.endProbe (h : EpisodesSoundBut x s) (c : ChannelId) : EpisodesSoundBut x (endProbe c s) := by
  cases own : s.channel c with
  | none =>
    rw [Machine.endProbe, own]
    exact h
  | some p =>
    have trimmed := h.trims (unwaited_trims c) p.feed
    have stopped : EpisodesSoundBut x (stopWaiting p.feed c (abandonWindow p.district s)) := by
      rw [abandonWindow_eq]
      exact trimmed.mono (fun _ => rfl) (fun _ _ _ _ _ => rfl) fun _ _ _ q _ _ held same => ⟨q, held, same⟩
    rw [endProbe_eq s own]
    refine stopped.mono (fun _ => rfl) (fun _ _ _ _ _ => rfl) fun f e b q held_open waits held same => ⟨q, ?_, same⟩
    rw [State.setChannel_channel, if_neg, held]
    rintro rfl
    have held : s.channel c = some q := by rwa [abandonWindow_eq] at held
    cases own.symm.trans held
    have emptied : ((s.episode p.feed).map (fun y => { y with waiting := removeItem y.waiting c.val })) = some e := by
      subst same
      simpa [stopWaiting, State.modEpisode, abandonWindow_eq] using held_open
    obtain ⟨y, -, rfl⟩ := Option.map_eq_some_iff.mp emptied
    simp [removeItem] at waits

theorem episodesLaw (x : Option FeedId) : ListLaw (EpisodesSoundBut x) where
  same same h := h.mono same.episode (fun _ _ d _ _ => same.feed d)
    fun _ _ c p _ _ held feed => ⟨p, (same.channel c).trans held, feed⟩
  enqueue _ _ _ h := h.mono (fun _ => rfl) (fun _ _ _ _ _ => rfl) fun _ _ _ p _ _ held feed => ⟨p, held, feed⟩
  removeEntry _ _ h := h.mono (fun _ => rfl) (fun _ _ _ _ _ => rfl) fun _ _ _ p _ _ held feed => ⟨p, held, feed⟩
  endProbe _ c h := h.endProbe c

/-! ### Sheds (R54 to R56) -/

/-- The probe in a channel is one of its district's feed (R112). -/
theorem EpisodesSoundBut.shedProbe (h : EpisodesSoundBut x s) (sound : RecoverySound s) (f : FeedId) (c : ChannelId) :
    EpisodesSoundBut x (shedProbe f c s) := by
  unfold Machine.shedProbe
  split
  · next p own =>
    split
    · next reached =>
      refine (episodesLaw x).abandonProbe f c h fun q y held feed hy => hy.addMember ?_
      rw [feed, (sound.context c q held).1]
      cases own.symm.trans held
      exact beq_iff_eq.mp reached
    · exact h
  · exact h

theorem EpisodesSoundBut.dropEmptyEpisode (h : EpisodesSoundBut (some f) s) :
    EpisodesSoundBut none (dropEmptyEpisode f s) := by
  have others {y : Option Episode} (ok : ∀ e, y = some e → e.members ≠ [] ∧ EpisodeOk s f e) :
      EpisodesSoundBut none (s.setEpisode f y) := by
    have but := h.setEpisode (f := f) (y := y) fun e own => ⟨fun _ => (ok e own).1, (ok e own).2⟩
    refine ⟨fun g e _ own => ?_, but.ok⟩
    by_cases same : f = g
    · subst same
      rw [State.setEpisode_episode, if_pos rfl] at own
      exact (ok e own).1
    · exact but.present g e (fun eq => same (Option.some.inj eq)) own
  unfold Machine.dropEmptyEpisode
  split
  · next e held =>
    split
    · exact others nofun
    · next filled =>
      have kept := others (y := some e) fun e' own => by
        cases own
        exact ⟨fun empty => filled (by simp [empty]), h.ok f e held⟩
      rwa [← held, State.setEpisode_own] at kept
  · next held =>
    have kept := others (y := none) nofun
    rwa [← held, State.setEpisode_own] at kept

theorem shedEpisode_ok (h : ∀ e, s.episode f = some e → EpisodeOk s f e) :
    EpisodeOk s f (shedEpisode (s.episode f)) := by
  unfold shedEpisode
  cases held : s.episode f with
  | none => exact ⟨by simp, by simp, fun c waits => by simp at waits⟩
  | some e => exact ⟨(h e held).distinct, (h e held).feed, fun c waits => by simp at waits⟩

theorem EpisodesSoundBut.shedFeed (h : EpisodesSoundBut none s) (sound : RecoverySound s) (f : FeedId) :
    EpisodesSoundBut none (shedFeed f s) := by
  have opened : EpisodesSoundBut (some f) (s.setEpisode f (some (shedEpisode (s.episode f)))) := by
    have but : EpisodesSoundBut (some f) s := ⟨fun g e _ => h.present g e nofun, h.ok⟩
    refine but.setEpisode fun e own => ?_
    cases own
    exact ⟨fun other => absurd rfl other, shedEpisode_ok (h.ok f)⟩
  have soundOpened : RecoverySound (s.setEpisode f (some (shedEpisode (s.episode f)))) := by
    have views := recoverySound_iff.mp sound
    exact recoverySound_iff.mpr views
  have shed := forDistricts_keeps (g := Machine.shedDistrict f)
    (P := fun y => EpisodesSoundBut (some f) y ∧ RecoverySound y)
    (fun d y hy => ⟨(episodesLaw _).shedDistrict d f hy.1 fun _ z feed hz => hz.addMember feed,
      recoverySound_iff.mpr fun e => ((shedDistrict_acts f y d).every e).agrees (recoverySound_iff.mp hy.2 e)⟩)
    ⟨opened, soundOpened⟩
  have walked := forChannels_keeps (g := Machine.shedProbe f)
    (P := fun y => EpisodesSoundBut (some f) y ∧ RecoverySound y)
    (fun c y hy => ⟨hy.1.shedProbe hy.2 f c, recoverySound_iff.mpr fun d =>
      (shedProbe_every f c y d).agrees (recoverySound_iff.mp hy.2 d)⟩) shed
  have phased (y : State) (hy : EpisodesSoundBut none y) :
      EpisodesSoundBut none (y.modFeed f (fun z => { z with phase := .shed })) := (episodesLaw none).quiet hy
  exact (episodesLaw none).markFeed f (phased _ walked.1.dropEmptyEpisode)

/-! ### Every small change -/

theorem episodeMember_of_mem {e : Episode} (held : s.episode f = some e) (member : d ∈ e.members) :
    episodeMember s d = true := by
  refine List.any_eq_true.mpr ⟨f, mem_allFeeds f, ?_⟩
  simp [memberOf, held, member]

theorem episodes_changeLaw (sound : RecoverySound t) : ChangeLaw (EpisodesSoundBut none) t where
  toListLaw := episodesLaw none
  arrives y d h := h.arrive d
  trims f g trims h := h.trims trims f
  closes f h := h.setEpisode nofun
  moves c g moves h := h.mono (fun _ => rfl) (fun _ _ _ _ _ => rfl) fun f e b p _ _ held feed => by
    by_cases own : c = b
    · subst own
      exact ⟨g p, by simp [State.modChannel, held], (moves p held).trans feed⟩
    · exact ⟨p, by simp [State.modChannel, State.setChannel_channel, own, held], feed⟩
  grants f c e rest p free head h := h.mono (fun _ => rfl) (fun _ _ _ _ _ => rfl) fun g _ b q _ _ held feed => by
    have other : c ≠ b := fun own => by rw [← own, free] at held; cases held
    exact ⟨q, by simp [State.setChannel_channel, other, held], feed⟩
  abandons f c waiting h := by
    refine (episodesLaw none).abandonProbe f c h fun p y held feed hy => hy.addMember ?_
    unfold waits at waiting
    split at waiting
    · next e own =>
      obtain ⟨q, probe, same⟩ := (h.ok f e own).waiting c waiting
      cases probe.symm.trans held
      rw [feed, (sound.context c p held).1, same]
    · cases waiting
  sheds f h := h.shedFeed sound f
  stores d k feed h := by
    refine h.mono (fun _ => rfl) (fun g e e' own member => ?_) fun g e c p _ _ held same => ⟨p, held, same⟩
    rw [State.setDcfg_dcfg]
    split
    · next same =>
      subst same
      refine feed.resolve_right fun absent => ?_
      rw [episodeMember_of_mem own member] at absent
      cases absent
    · rfl
  leaves _ := by
    have closed (g : FeedId) : (leaveRun t).episode g = none := by
      rw [leaveRun_eq]
      simp [State.episode]
    exact ⟨fun g e _ own => by simp [closed] at own, fun g e own => by simp [closed] at own⟩

theorem Changes.episodesSound (changes : Changes s t) (sound : RecoverySound s) (h : EpisodesSound s) :
    EpisodesSound t := by
  refine episodesSound_iff.mpr (changes.keeps (P := fun y => RecoverySound y ∧ EpisodesSoundBut none y)
    (fun y z change hy => ⟨?_, (episodes_changeLaw hy.1).keeps change hy.2⟩) ⟨sound, episodesSound_iff.mp h⟩).2
  exact Changes.recoverySound (.single change) hy.1

end Sys2Proof.Machine

open Sys2Proof Sys2Proof.Machine
/-- Settles O7: every small change of a district keeps its state in agreement with its entry, its probe and its timer;
an entry is placed at the tail of its band; and a feed's episode takes districts and probes of the feed alone. -/
theorem queuesAndChannelsFollowStates : Obligations.QueuesAndChannelsFollowStates := by
  intro s t stepped
  rcases step_changes stepped with ⟨straps, q, rfl⟩ | changes
  · exact ⟨fun _ => afterReset_recoverySound _ _ _, fun _ => afterReset_bandsSorted _ _ _,
      fun _ _ => afterReset_episodesSound _ _ _, fun _ _ _ => afterReset_timersSound _ _ _⟩
  · exact ⟨changes.recoverySound, changes.bandsSorted, changes.episodesSound, changes.timersSound⟩
end

section
/-! The isolation overlay as states: what an onset and a release make of a district by its state (R15 to R20, R141), and
a change of the sets of all districts (R153). -/

namespace Sys2Proof.Machine

variable {t before after : State} {d : DistrictId}

/-! ### Onsets (R15 to R18, R141) -/

theorem endOwnProbe_held {c : ChannelId} (held : channelOf t d = some c) : endOwnProbe d t = endProbe c t := by
  rw [endOwnProbe, held]

/-- The end of a probe and the timer of a district do not meet. -/
theorem endProbe_clearTimer (c : ChannelId) : endProbe c (clearTimer d t) = clearTimer d (endProbe c t) := by
  cases own : t.channel c with
  | none => simp only [endProbe, clearTimer, State.setTimer_channel, own]
  | some p =>
    rw [endProbe_channel t own, endProbe_channel (clearTimer d t) (p := p) own]
    rfl

theorem endOwnProbe_clearTimer : endOwnProbe d (clearTimer d t) = clearTimer d (endOwnProbe d t) := by
  have same : channelOf (clearTimer d t) d = channelOf t d := rfl
  unfold endOwnProbe
  rw [same]
  cases channelOf t d with
  | none => rfl
  | some c => exact endProbe_clearTimer c

/-- A LIVE district that opens (R15, R39). -/
def openedLive (t : State) (d : DistrictId) : State :=
  let u := (t.setMonitor d { t.monitor d with window := none, integrator := 0 }).setDistrict d
    { t.district d with st := .isolated .queued, probation := false, polarity := polarityBefore t d }
  if (t.district d).probation then u.setTimer d Timer.empty else u

theorem onset_live (st : (t.district d).st = .live) : onset d t = openedLive t d := by
  have opened : onset d t = setSt d (.isolated .queued) (endProbation d (abandonWindow d t)) := by rw [onset, st]
  have probation : ((abandonWindow d t).district d).probation = (t.district d).probation := by simp [abandonWindow_eq]
  rw [opened, endProbation, probation, abandonWindow_eq, openedLive]
  cases on : (t.district d).probation <;> simp [setSt, State.modDistrict, clearTimer, on]

theorem onset_counting (st : (t.district d).st = .cooling .counting) : onset d t =
    (t.setDistrict d { t.district d with st := .isolated .coolRetained }).setTimer d
      { t.timer d with running := false, boundary := false } := by
  rw [onset, st]
  rfl

theorem onset_merging (st : (t.district d).st = .cooling .merging) : onset d t =
    t.setDistrict d { t.district d with st := .isolated .coolPending } := by
  rw [onset, st]
  rfl

theorem onset_queued (st : (t.district d).st = .queued) : onset d t =
    (t.setDistrict d { t.district d with st := .isolated .queued }).setQueue (t.dcfg d).feed
      ((t.queue (t.dcfg d).feed).filter (fun e => e.district != d)) := by
  rw [onset, st]
  rfl

theorem onset_awaiting (st : (t.district d).st = .awaitingGrant) : onset d t =
    (t.setDistrict d { t.district d with st := .isolated .awaitingGrant }).setTimer d Timer.empty := by
  rw [onset, st]
  rfl

theorem onset_probing (st : (t.district d).st = .probing) : onset d t =
    (endOwnProbe d t).setDistrict d { (endOwnProbe d t).district d with st := .isolated .queued } := by
  rw [onset, st]
  rfl

section
variable {cause : LockCause}

theorem onset_noLook (st : (t.district d).st = .locked cause .noLook) : onset d t = t.setTimer d Timer.empty := by
  have dropped : onset d t = dropLook d (clearTimer d t) := by rw [onset, st]
  rw [dropped, dropLook_noLook (s := clearTimer d t) st]
  rfl

theorem onset_lookQueued (st : (t.district d).st = .locked cause .queued) : onset d t =
    ((t.setDistrict d { t.district d with st := .locked cause .noLook }).setTimer d Timer.empty).setQueue
      (t.dcfg d).feed ((t.queue (t.dcfg d).feed).filter (fun e => e.district != d)) := by
  have dropped : onset d t = dropLook d (clearTimer d t) := by rw [onset, st]
  rw [dropped, dropLook_queued (s := clearTimer d t) st]
  rfl

theorem onset_inFlight (st : (t.district d).st = .locked cause .inFlight) : onset d t =
    ((endOwnProbe d t).setDistrict d
      { (endOwnProbe d t).district d with st := .locked cause .noLook }).setTimer d Timer.empty := by
  have dropped : onset d t = dropLook d (clearTimer d t) := by rw [onset, st]
  have look : dropLook d (clearTimer d t) =
      setSt d (.locked cause .noLook) (endOwnProbe d (clearTimer d t)) := by
    have same : ((clearTimer d t).district d).st = .locked cause .inFlight := st
    rw [dropLook, same]
    rfl
  rw [dropped, look, endOwnProbe_clearTimer]
  rfl
end

theorem onset_standing (st : (t.district d).st = .off ∨ ∃ r, (t.district d).st = .isolated r) : onset d t = t := by
  rcases st with st | ⟨r, st⟩ <;> rw [onset, st]

/-! ### Releases (R20) -/

theorem release_retained (st : (t.district d).st = .isolated .coolRetained) : releaseDistrict d t =
    (t.setDistrict d { t.district d with st := .cooling .counting }).setTimer d (loaded .cool (t.timer d).count) := by
  rw [releaseDistrict, st]
  rfl

theorem release_pending (st : (t.district d).st = .isolated .coolPending) : releaseDistrict d t =
    t.setDistrict d { t.district d with st := .cooling .merging } := by
  rw [releaseDistrict, st]
  rfl

theorem release_queued (st : (t.district d).st = .isolated .queued) : releaseDistrict d t =
    (t.setDistrict d { t.district d with st := .queued }).setQueue (t.dcfg d).feed (queueWith t d .full) := by
  rw [releaseDistrict, st]
  rfl

theorem release_awaiting (st : (t.district d).st = .isolated .awaitingGrant) : releaseDistrict d t =
    (t.setDistrict d { t.district d with st := .awaitingGrant }).setTimer d
      (loaded .grant t.cfg.globals.grantWindow) := by
  rw [releaseDistrict, st]
  rfl

theorem release_locked (st : isLocked (t.district d).st = true) : releaseDistrict d t =
    if (t.dcfg d).patrol = true ∧ t.mode = .run then t.setTimer d (loaded .patrol t.cfg.globals.patrol) else t := by
  obtain ⟨cause, look, st⟩ := isLocked_iff.mp st
  have patrol : loadPatrol d t = t.setTimer d (loaded .patrol t.cfg.globals.patrol) := loadTimer_eq t d _ _
  rw [releaseDistrict, st]
  simp only [patrol, Bool.and_eq_true, beq_iff_eq]

theorem release_other (isolated : ∀ r, (t.district d).st ≠ .isolated r) (locked : isLocked (t.district d).st = false) :
    releaseDistrict d t = t := by
  unfold releaseDistrict
  split
  · next st => exact absurd st (isolated _)
  · next st => exact absurd st (isolated _)
  · next st => exact absurd st (isolated _)
  · next st => exact absurd st (isolated _)
  · next st => rw [st] at locked; cases locked
  · rfl

/-! ### The recompute (R153) -/

theorem isolationSet_iff (s : State) (d : DistrictId) :
    isolationSet s d = true ↔ (s.district d).holders ≠ 0#6 ∨ jointPart s d ≠ 0#8 := by
  simp [isolationSet]

theorem not_isolationDiffers_iff : isolationDiffers before after d = false ↔
    (before.district d).holders = (after.district d).holders ∧ jointPart before d = jointPart after d := by
  simp [isolationDiffers]

/-- What district `d` makes of a change of its set (R14). -/
theorem takeIsolation_eq : takeIsolation before after d t =
    if (before.district d).holders = (after.district d).holders ∧ jointPart before d = jointPart after d then t
    else markDistrict [.isolation] d
      (if isolationSet before d = true then if isolationSet after d = true then t else releaseDistrict d t
        else if isolationSet after d = true then onset d t else t) := by
  unfold takeIsolation
  cases differs : isolationDiffers before after d with
  | false => simp [not_isolationDiffers_iff.mp differs]
  | true =>
    have changed : ¬((before.district d).holders = (after.district d).holders ∧
        jointPart before d = jointPart after d) := fun same =>
      Bool.false_ne_true ((not_isolationDiffers_iff.mpr same).symm.trans differs)
    rw [if_pos rfl, if_neg changed]
    cases isolationSet before d <;> cases isolationSet after d <;> rfl

end Sys2Proof.Machine
end

section
/-! The events of a joint (R148 to R151), and the recompute of isolation over the districts (R153). -/

namespace Sys2Proof.Machine

variable {s before after : State} {j : JointId} {d : DistrictId}

/-! ### Events that change no isolation set -/

theorem isolationChange_same (same : ∀ d, isolationDiffers before after d = false) :
    isolationChange before after = after :=
  forDistricts_keeps (P := fun t => t = after) (fun d t h => by rw [takeIsolation, same d]; exact h) rfl

theorem jointPart_congr {t : State} (jcfg : ∀ i, t.jcfg i = s.jcfg i)
    (st : ∀ i, (t.joint i).st = .coupled ↔ (s.joint i).st = .coupled) (d : DistrictId) :
    jointPart t d = jointPart s d := by
  have isolates (i : JointId) : jointIsolates t i d = jointIsolates s i d := by
    have coupled : ((t.joint i).st != .coupled) = ((s.joint i).st != .coupled) := by
      rw [Bool.eq_iff_iff, bne_iff_ne, bne_iff_ne, ne_eq, ne_eq, st]
    rw [jointIsolates, jointIsolates, jcfg, coupled]
  simp only [jointPart, isolates]

/-- A joint event that neither couples the joint nor uncouples it changes the joint alone (R153). -/
theorem jointEvent_alone {g : Joint → Joint} (st : (g (s.joint j)).st = .coupled ↔ (s.joint j).st = .coupled) :
    jointEvent j g s = markJoint j (s.setJoint j (g (s.joint j))) := by
  have parts (d : DistrictId) : jointPart (markJoint j (s.setJoint j (g (s.joint j)))) d = jointPart s d := by
    refine jointPart_congr (fun i => by simp) (fun i => ?_) d
    rw [markJoint_joint, State.setJoint_joint]
    split
    · next own => rw [← own, st]
    · rfl
  have same : isolationChange s (markJoint j (s.setJoint j (g (s.joint j)))) =
      markJoint j (s.setJoint j (g (s.joint j))) :=
    isolationChange_same fun d => not_isolationDiffers_iff.mpr ⟨by simp, (parts d).symm⟩
  rw [jointEvent, State.modJoint, same]
  exact arbitrate_idle (by simp) (by simp) (by simp) (by simp)

/-! ### The events that are due (R148 to R151) -/

section
variable (full : (s.jcfg j).debounce.samples ≤ (s.joint j).filterRun)
include full

theorem jointDecision_due (undecided : (s.joint j).decided = false) :
    jointDecision j s = jointEvent j Joint.decide s := by
  simp [jointDecision, jointDecisionDue, debounceFull, full, undecided]

theorem inputChange_due (decided : (s.joint j).decided = true) : inputChange j s =
    jointEvent j (Joint.changeInput (s.jcfg j).settle.samples (s.jcfg j).docking.samples) s := by
  simp [inputChange, inputChangeDue, debounceFull, full, decided]
end

section
variable (rest : ¬(s.jcfg j).debounce.samples ≤ (s.joint j).filterRun)
include rest

theorem jointDecision_rest : jointDecision j s = s := by
  simp [jointDecision, jointDecisionDue, debounceFull, rest]

theorem inputChange_rest : inputChange j s = s := by simp [inputChange, inputChangeDue, debounceFull, rest]
end

theorem jointTimerOver_iff {x : Option JointTimer} : jointTimerOver x = true ↔ ∃ w, x = some w ∧ w.ended = true := by
  unfold jointTimerOver
  cases x <;> simp

theorem settleExpiry_due (docking : (s.joint j).st = .docking) (ended : jointTimerOver (s.joint j).settle = true) :
    settleExpiry j s = jointEvent j Joint.couple s := by
  simp [settleExpiry, settleDue, docking, ended]

theorem settleExpiry_rest (runs : ¬jointTimerOver (s.joint j).settle = true) : settleExpiry j s = s := by
  simp [settleExpiry, settleDue, runs]

theorem dockingExpiry_due (st : (s.joint j).st = .opened ∨ (s.joint j).st = .docking)
    (ended : jointTimerOver (s.joint j).docking = true) : dockingExpiry j s =
      jointEvent j (fun x => { x with st := .fault, settle := none, docking := none }) s := by
  simp [dockingExpiry, dockingDue, st, ended]

theorem dockingExpiry_rest (runs : ¬jointTimerOver (s.joint j).docking = true) : dockingExpiry j s = s := by
  simp [dockingExpiry, dockingDue, runs]

end Sys2Proof.Machine

open Sys2Proof Sys2Proof.Machine
/-- Settles O51: an event that leaves the joint uncoupled, or coupled, changes the joint alone, and the recompute is a
walk over the districts, each with its own onset or release. -/
theorem jointEvents : Obligations.JointEvents := by
  refine ⟨fun before after => ?_, fun s j => ?_⟩
  · rw [isolationChange, forDistricts]
    congr 1
    funext t d
    rw [takeIsolation_eq]
    refine if_congr Iff.rfl rfl (congrArg _ (if_congr (isolationSet_iff _ _)
      (if_congr (isolationSet_iff _ _) rfl ?_) (if_congr (isolationSet_iff _ _) ?_ rfl)))
    · rcases st : (t.district d).st with _ | _ | _ | _ | _ | _ | ⟨_ | _ | _ | _⟩ | ⟨cause, look⟩ <;> dsimp only
      case isolated.coolRetained => exact release_retained st
      case isolated.coolPending => exact release_pending st
      case isolated.queued => exact release_queued st
      case isolated.awaitingGrant => exact release_awaiting st
      case locked => exact release_locked (isLocked_iff.mpr ⟨cause, look, st⟩)
      all_goals exact release_other (by simp [st]) (by simp [st, isLocked])
    · rcases st : (t.district d).st with _ | _ | ⟨_ | _⟩ | _ | _ | _ | r | ⟨cause, _ | _ | _⟩ <;> dsimp only
      case off => exact onset_standing (.inl st)
      case live => exact onset_live st
      case cooling.counting => exact onset_counting st
      case cooling.merging => exact onset_merging st
      case awaitingGrant => exact onset_awaiting st
      case queued => exact onset_queued st
      case probing => exact onset_probing st
      case isolated => exact onset_standing (.inr ⟨r, st⟩)
      case locked.noLook => exact onset_noLook st
      case locked.queued => exact onset_lookQueued st
      case locked.inFlight => exact onset_inFlight st
  · have event {op : State → State} {y : Joint} {g : Joint → Joint} (due : op s = jointEvent j g s)
        (own : g (s.joint j) = y) : op s = arbitrate s (isolationChange s (markJoint j (s.setJoint j y))) := by
      rw [due, jointEvent, State.modJoint, own]
    have alone {op : State → State} {y : Joint} {g : Joint → Joint} (due : op s = jointEvent j g s)
        (own : g (s.joint j) = y) (st : y.st = .coupled ↔ (s.joint j).st = .coupled) :
        op s = markJoint j (s.setJoint j y) := by
      subst own
      rw [due, jointEvent_alone st]
    refine ⟨fun undecided full => ⟨fun shown => ?_, fun shown => ?_⟩, fun decided full => ⟨fun st input => ?_,
      fun st input => ?_, fun st input => ?_, fun st => ?_⟩, fun st ended => ?_, fun st ended => ?_, fun rest => ⟨?_, ?_⟩,
      fun runs => ?_, fun runs => ?_⟩ <;> refine congrArg Host.Outcome.next ?_
    · exact event (jointDecision_due full undecided) (by simp [Joint.decide, shown])
    · exact alone (jointDecision_due full undecided) (by simp [Joint.decide, shown]) Iff.rfl
    · exact event (inputChange_due full decided) (by simp [Joint.changeInput, st, input])
    · refine alone (inputChange_due full decided) ?_ (by simp [st])
      cases running : (s.joint j).docking <;> simp [Joint.changeInput, st, input, running]
    · exact alone (inputChange_due full decided) (by simp [Joint.changeInput, st, input]) (by simp [st])
    · exact alone (inputChange_due full decided) (by simp [Joint.changeInput, st]) (by simp)
    · exact event (settleExpiry_due st (jointTimerOver_iff.mpr ended)) rfl
    · refine alone (dockingExpiry_due st (jointTimerOver_iff.mpr ended)) rfl ?_
      rcases st with st | st <;> simp [st]
    · exact jointDecision_rest rest
    · exact inputChange_rest rest
    · exact settleExpiry_rest (jointTimerOver_iff.not.mpr runs)
    · exact dockingExpiry_rest (jointTimerOver_iff.not.mpr runs)
end

section
/-! The holder part of one district: HOLD, RELEASE and BREAK_HOLD (R14, R164 to R166). -/

namespace Sys2Proof.Machine

variable {s t u : State} {d : DistrictId} {n : SlotId} {h : BitVec 6} {src : Byte}

/-! ### One district's holders change (R14) -/

/-- The state with the holder part of district `d` replaced. -/
def holding (s : State) (d : DistrictId) (h : BitVec 6) : State :=
  s.setDistrict d { s.district d with holders := h }

theorem jointPart_setDistrict (s : State) (d e : DistrictId) (r : District) :
    jointPart (s.setDistrict d r) e = jointPart s e := jointPart_congr (fun _ => rfl) (fun _ => Iff.rfl) e

theorem isolationSet_holding : isolationSet (holding s d h) d = (h != 0#6 || jointPart s d != 0#8) := by
  rw [isolationSet, holding, jointPart_setDistrict]
  simp

/-- A change of one district's holders is taken by that district alone. -/
theorem takeHolders_eq (s : State) (d : DistrictId) (h : BitVec 6) : takeHolders d h s =
    if (s.district d).holders = h then holding s d h
    else markDistrict [.isolation] d
      (if isolationSet s d = true then
        if (h != 0#6 || jointPart s d != 0#8) = true then holding s d h else releaseDistrict d (holding s d h)
      else if (h != 0#6 || jointPart s d != 0#8) = true then onset d (holding s d h) else holding s d h) := by
  have others (e : DistrictId) (other : e ≠ d) (t : State) : takeIsolation s (holding s d h) e t = t := by
    have same : isolationDiffers s (holding s d h) e = false := not_isolationDiffers_iff.mpr
      ⟨by simp [holding, State.setDistrict_district, Ne.symm other], (jointPart_setDistrict s d e _).symm⟩
    rw [takeIsolation, same]
    rfl
  have walked : takeHolders d h s = takeIsolation s (holding s d h) d (holding s d h) :=
    forDistricts_read (d := d) (read := id) (I := fun _ => True) (φ := takeIsolation s (holding s d h) d)
      (fun _ _ _ => trivial) (fun _ _ => rfl) (fun e other t _ => others e other t) trivial
  have holders : ((holding s d h).district d).holders = h := by simp [holding]
  have part : jointPart s d = jointPart (holding s d h) d := (jointPart_setDistrict s d d _).symm
  rw [walked, takeIsolation_eq, isolationSet_holding, holders]
  exact if_congr (and_iff_left part) rfl rfl

theorem takeHolders_onset (free : isolationSet s d = false) (some_holder : h ≠ 0#6) :
    takeHolders d h s = markDistrict [.isolation] d (onset d (holding s d h)) := by
  have empty : (s.district d).holders = 0#6 := by
    by_contra held
    rw [(isolationSet_iff s d).mpr (.inl held)] at free
    cases free
  rw [takeHolders_eq, empty, if_neg (Ne.symm some_holder), free]
  simp [some_holder]

theorem takeHolders_inSet (held : isolationSet s d = true) (stays : h ≠ 0#6 ∨ jointPart s d ≠ 0#8)
    (changes : (s.district d).holders ≠ h) : takeHolders d h s = markDistrict [.isolation] d (holding s d h) := by
  have still : (h != 0#6 || jointPart s d != 0#8) = true := by simpa using stays
  rw [takeHolders_eq, if_neg changes, if_pos held, if_pos still]

theorem takeHolders_release (held : (s.district d).holders ≠ 0#6) (part : jointPart s d = 0#8) :
    takeHolders d 0#6 s = markDistrict [.isolation] d (releaseDistrict d (holding s d 0#6)) := by
  rw [takeHolders_eq, if_neg held, (isolationSet_iff s d).mpr (.inl held)]
  simp [part]

/-! ### What the change leaves (R14) -/

/-- State `t` holds what `s` holds apart from the recovery of districts, whose sets are those of `s` but for district
`d`, whose holders are `h`. -/
theorem takeHolders_sameOuter (s : State) (d : DistrictId) (h : BitVec 6) :
    SameOuter (holding s d h) (takeHolders d h s) :=
  isolationChange_keeps (sameOuter_keeps _) s (SameOuter.refl _)

theorem setHolders_sameOuter (s : State) (d : DistrictId) (h : BitVec 6) :
    SameOuter (holding s d h) (setHolders d h s) :=
  arbitrate_keeps (sameOuter_keeps _) s (takeHolders_sameOuter s d h)

theorem SameOuter.jointPart (same : SameOuter s t) (d : DistrictId) : jointPart t d = jointPart s d := by
  simp only [Machine.jointPart, jointIsolates, State.jcfg, State.joint, same.cfg, same.joints]

/-- The reply of HOLD and RELEASE about a district whose holders have become `h` (R186). -/
theorem holdBytes_of_sameOuter (same : SameOuter (holding s d h) t) :
    holdBytes t d = [districtByte0 t d, holdersByte h, jointPart s d] := by
  have holders : (t.district d).holders = h := by rw [same.holders]; simp [holding]
  rw [holdBytes, holders, same.jointPart, holding, jointPart_setDistrict]

/-! ### HOLD (R164) -/

theorem hold_answers (taken : Taken s src []) (joined : slotOf s src = some n)
    (newcomer : (s.district d).holders.getLsbD n.val = false) :
    let u := setHolders d ((s.district d).holders ||| BitVec.twoPow 6 n.val) s
    exec (.hold src [byte d.val]) s = .next (answered s u src 0x20#8 .ok
      [districtByte0 u d, holdersByte ((s.district d).holders ||| BitVec.twoPow 6 n.val), jointPart s d]) := by
  intro u
  have same : SameOuter _ u := setHolders_sameOuter s d ((s.district d).holders ||| BitVec.twoPow 6 n.val)
  rw [← holdBytes_of_sameOuter same]
  refine takeRequest_answers (taken.singleton _) _ ?_ same.line
  rw [bodyHold, oneDistrict_byte, ofSlot_joined s joined]
  simp only [newcomer]
  rfl

theorem holders_empty (free : isolationSet s d = false) : (s.district d).holders = 0#6 ∧ jointPart s d = 0#8 := by
  simpa [isolationSet] using free

theorem twoPow_ne_zero (n : SlotId) : BitVec.twoPow 6 n.val ≠ 0#6 := by
  revert n
  decide

/-- A HOLD that isolates a district: the onset, the Arbiter's look where one is called for, and the reply (R15 to R18,
R105, R164). -/
theorem hold_isolates (taken : Taken s src []) (joined : slotOf s src = some n) (free : isolationSet s d = false)
    (onsets : onset d (holding s d (BitVec.twoPow 6 n.val)) = t) :
    let u := arbitrate s (markDistrict [.isolation] d t)
    exec (.hold src [byte d.val]) s = .next (answered s u src 0x20#8 .ok
      [districtByte0 u d, holdersByte (BitVec.twoPow 6 n.val), 0#8]) := by
  obtain ⟨empty, part⟩ := holders_empty free
  have answers := hold_answers (d := d) taken joined (by simp [empty])
  have isolated : setHolders d (BitVec.twoPow 6 n.val) s = arbitrate s (markDistrict [.isolation] d t) := by
    rw [setHolders, takeHolders_onset free (twoPow_ne_zero n), onsets]
  rwa [empty, BitVec.zero_or, part, isolated] at answers

/-- A HOLD that isolates a district and gives the Arbiter no cause to look (R105). -/
theorem hold_isolates_quietly (taken : Taken s src []) (joined : slotOf s src = some n)
    (free : isolationSet s d = false) (onsets : onset d (holding s d (BitVec.twoPow 6 n.val)) = t)
    (channels : t.channels = s.channels) (queues : t.queues = s.queues) (feeds : t.feeds = s.feeds)
    (mode : t.mode = s.mode) : let u := markDistrict [.isolation] d t
    exec (.hold src [byte d.val]) s = .next (answered s u src 0x20#8 .ok
      [districtByte0 u d, holdersByte (BitVec.twoPow 6 n.val), 0#8]) := by
  have quiet : arbitrate s (markDistrict [.isolation] d t) = markDistrict [.isolation] d t :=
    arbitrate_idle (by simp [State.channel, channels]) (by simpa using queues) (by simpa using feeds) (by simpa using mode)
  have answers := hold_isolates taken joined free onsets
  rwa [quiet] at answers

theorem holding_district : (holding s d h).district d = { s.district d with holders := h } := by simp [holding]

theorem holding_setDistrict (r : District) : (holding s d h).setDistrict d r = s.setDistrict d r := by simp [holding]

/-- The Arbiter's look leaves a district's holders and the joint parts as they were (R14). -/
theorem hold_bytes_after (free : isolationSet s d = false)
    (onsets : onset d (holding s d (BitVec.twoPow 6 n.val)) = t) :
    let u := arbitrate s (markDistrict [.isolation] d t)
    (u.district d).holders = BitVec.twoPow 6 n.val ∧ jointPart u d = 0#8 := by
  have same := setHolders_sameOuter s d (BitVec.twoPow 6 n.val)
  rw [setHolders, takeHolders_onset free (twoPow_ne_zero n), onsets] at same
  exact ⟨by rw [same.holders, holding_district], by
    rw [same.jointPart, holding, jointPart_setDistrict, (holders_empty free).2]⟩

/-- What a HOLD answers whose onset gives the Arbiter cause to look (R105, R164). -/
theorem hold_isolates_looking (taken : Taken s src []) (joined : slotOf s src = some n)
    (free : isolationSet s d = false) (onsets : onset d (holding s d (BitVec.twoPow 6 n.val)) = t) :
    ∃ u, u = arbitrate s (markDistrict [.isolation] d t) ∧
      exec (.hold src [byte d.val]) s = .next (answered s u src 0x20#8 .ok
        [districtByte0 u d, holdersByte (u.district d).holders, jointPart u d]) := by
  obtain ⟨holders, part⟩ := hold_bytes_after free onsets
  refine ⟨_, rfl, ?_⟩
  rw [holders, part]
  exact hold_isolates taken joined free onsets

theorem polarityBefore_holding : polarityBefore (holding s d h) d = polarityBefore s d := by
  have same : (holding s d h).monitor d = s.monitor d := rfl
  unfold polarityBefore
  rw [same, holding_district]

theorem setDistrict_holding (r : District) :
    holding (s.setDistrict d r) d h = s.setDistrict d { r with holders := h } := by simp [holding]

/-- The end of a probe and the holders of a district do not meet (R107). -/
theorem endProbe_holding {c : ChannelId} {p : Probe} (own : s.channel c = some p) (district : p.district = d) :
    endProbe c (holding s d h) = holding (endProbe c s) d h := by
  subst district
  obtain ⟨e, he⟩ : ∃ e, e = (s.setEpisode p.feed ((s.episode p.feed).map (fun x =>
      { x with waiting := x.waiting &&& ~~~(BitVec.twoPow 4 c.val) }))).setMonitor p.district
        { s.monitor p.district with window := none, integrator := 0 } := ⟨_, rfl⟩
  rw [endProbe_channel s own, endProbe_channel (holding s p.district h) (p := p) own, polarityBefore_holding,
    holding_district, ← he]
  have apart : (holding e p.district h).setDistrict p.district
      { s.district p.district with holders := h, polarity := polarityBefore s p.district } =
        holding (e.setDistrict p.district { s.district p.district with polarity := polarityBefore s p.district })
          p.district h := by rw [holding_setDistrict, setDistrict_holding]
  subst he
  exact congrArg (fun t => t.setChannel c none) apart

/-- The onset on a probed district, with the holder that caused it. -/
theorem endOwnProbe_holding {c : ChannelId} (held : channelOf s d = some c) :
    endOwnProbe d (holding s d h) = holding (endProbe c s) d h := by
  obtain ⟨p, own, district⟩ := channelOf_occupied held
  rw [← endProbe_holding own district]
  exact endOwnProbe_held (t := holding s d h) held

end Sys2Proof.Machine

open Sys2Proof Sys2Proof.Machine
/-- Settles O30: the onset on a LIVE district, with the holder that caused it, moves no queue and frees no channel. -/
theorem holdOpensALiveDistrict : Obligations.HoldOpensALiveDistrict := by
  intro s src d n taken joined free live
  obtain ⟨h, hh⟩ : ∃ h, h = BitVec.twoPow 6 n.val := ⟨_, rfl⟩
  obtain ⟨a, ha⟩ : ∃ a, a = (s.setDistrict d { s.district d with
      st := .isolated .queued, probation := false, holders := h, polarity := polarityBefore s d }).setMonitor d
        { s.monitor d with window := none, integrator := 0 } := ⟨_, rfl⟩
  have onsets : onset d (holding s d h) = if (s.district d).probation then a.setTimer d Timer.empty else a := by
    rw [onset_live (by rw [holding_district]; exact live), openedLive, polarityBefore_holding, holding_district, ha,
      ← holding_setDistrict (s := s) (h := h)]
    rfl
  have stands : (if (s.district d).probation then a.setTimer d Timer.empty else a).channels = s.channels ∧
      (if (s.district d).probation then a.setTimer d Timer.empty else a).queues = s.queues ∧
      (if (s.district d).probation then a.setTimer d Timer.empty else a).feeds = s.feeds ∧
      (if (s.district d).probation then a.setTimer d Timer.empty else a).mode = s.mode := by
    rw [ha]
    split <;> exact ⟨rfl, rfl, rfl, rfl⟩
  obtain ⟨channels, queues, feeds, mode⟩ := stands
  subst hh ha
  exact hold_isolates_quietly taken joined free onsets channels queues feeds mode

/-- Settles O31: the onset by the state of the district, with the holder that caused it. -/
theorem holdSuspendsRecovery : Obligations.HoldSuspendsRecovery := by
  intro s src d n taken joined free
  have st {x : DistrictState} (st : (s.district d).st = x) :
      ((holding s d (BitVec.twoPow 6 n.val)).district d).st = x := by rw [holding_district]; exact st
  refine ⟨fun off => ?_, fun merging => ?_, fun counting => ?_, fun awaiting => ?_, fun queued => ?_,
    fun cause locked => ?_, fun cause locked => ?_, fun c held => ⟨fun probing => ?_, fun cause locked => ?_⟩⟩
  · exact hold_isolates_quietly taken joined free (onset_standing (.inl (st off))) rfl rfl rfl rfl
  · refine hold_isolates_quietly taken joined free ?_ rfl rfl rfl rfl
    rw [onset_merging (st merging), holding_district, holding_setDistrict]
  · refine hold_isolates_quietly taken joined free ?_ rfl rfl rfl rfl
    rw [onset_counting (st counting), holding_district, holding_setDistrict]
    rfl
  · refine hold_isolates_quietly taken joined free ?_ rfl rfl rfl rfl
    rw [onset_awaiting (st awaiting), holding_district, holding_setDistrict]
  · refine hold_isolates_looking taken joined free ?_
    rw [onset_queued (st queued), holding_district, holding_setDistrict]
    rfl
  · refine hold_isolates_quietly taken joined free ?_ rfl rfl rfl rfl
    rw [onset_noLook (st locked)]
    rfl
  · refine hold_isolates_looking taken joined free ?_
    rw [onset_lookQueued (st locked), holding_district, holding_setDistrict]
    rfl
  · refine hold_isolates_looking taken joined free ?_
    rw [onset_probing (st probing), endOwnProbe_holding held, holding_district, holding_setDistrict]
  · refine hold_isolates_looking taken joined free ?_
    rw [onset_inFlight (st locked), endOwnProbe_holding held, holding_district, holding_setDistrict]
end

section
/-! Changes within the set, and the release that empties it, by HOLD, RELEASE and BREAK_HOLD (R14, R20, R164 to R166). -/

namespace Sys2Proof.Machine

variable {s t u v w : State} {d : DistrictId} {n : SlotId} {h former : BitVec 6} {src : Byte}

/-! ### The former holders are told (R166) -/

/-- A slot that is told of district `d`. -/
def Slot.told (d : DistrictId) (x : Slot) : Slot :=
  { x with changedDistricts := x.changedDistricts ||| BitVec.twoPow 16 d.val }

theorem markFormer_slot (s : State) (d : DistrictId) (former : BitVec 6) (n : SlotId) :
    (markFormer d former s).slot n = (s.slot n).map (fun x => if former.getLsbD n.val then x.told d else x) :=
  forSlots_read (n := n) (read := fun t => t.slot n) (I := fun _ => True)
    (φ := Option.map (fun x => if former.getLsbD n.val then x.told d else x)) (fun _ _ _ => trivial)
    (fun t _ => by
      cases former.getLsbD n.val
      · simp
      · simp [State.modSlot, Slot.told, addItem])
    (fun e other t _ => by
      split
      · simp [State.modSlot, State.setSlot_slot, other]
      · rfl) trivial

/-- What BREAK_HOLD tells the former holders is all that it changes after the release (R166). -/
theorem markFormer_eq (s : State) (d : DistrictId) (former : BitVec 6) : markFormer d former s =
    { s with slots := Vector.ofFn (fun m => (s.slot m).map (fun x => if former.getLsbD m.val then x.told d else x)) } := by
  have same : ∃ slots, markFormer d former s = { s with slots := slots } :=
    forSlots_keeps (P := fun t => ∃ slots, t = { s with slots := slots }) (fun n t told => by
      obtain ⟨slots, rfl⟩ := told
      split
      · exact ⟨_, rfl⟩
      · exact ⟨slots, rfl⟩) ⟨s.slots, rfl⟩
  obtain ⟨slots, told⟩ := same
  have slot (n : SlotId) := markFormer_slot s d former n
  rw [told] at slot ⊢
  congr 1
  ext1 i hi
  rw [Vector.getElem_ofFn]
  exact slot ⟨i, hi⟩

theorem markFormer_single (s : State) (d : DistrictId) (n : SlotId) : markFormer d (BitVec.twoPow 6 n.val) s =
    s.setSlot n ((s.slot n).map (fun x =>
      { x with changedDistricts := x.changedDistricts ||| BitVec.twoPow 16 d.val })) := by
  rw [markFormer_eq, State.setSlot]
  congr 1
  ext1 i hi
  rw [Vector.getElem_ofFn, Vector.getElem_set]
  by_cases own : n.val = i
  · subst own
    simp [Slot.told]
  · simp [BitVec.getLsbD_twoPow, own, State.slot]

/-- A slot that is marked of district `d` and told of it takes one mark (R162, R166). -/
theorem marked_told (d : DistrictId) (b : Bool) (x : Slot) :
    (if b then (x.marked [.isolation] d).told d else x.marked [.isolation] d) =
      if x.subscription.getLsbD 5 || b then
        { x with changedDistricts := x.changedDistricts ||| BitVec.twoPow 16 d.val } else x := by
  have subscribed : subscribes x [.isolation] = x.subscription.getLsbD 5 := by simp [subscribes, Mark.bit]
  unfold Slot.marked
  rw [subscribed]
  cases x.subscription.getLsbD 5 <;> cases b
  · rfl
  · rfl
  · rfl
  · simp [Slot.told, addItem, BitVec.or_assoc]

/-! ### Replies (R186) -/

theorem districtByte0_congr (st : (t.district d).st = (s.district d).st) (timer : t.timer d = s.timer d) :
    districtByte0 t d = districtByte0 s d := by
  rw [districtByte0, districtByte0, st, timer]

theorem stateCode_lt (x : DistrictState) : stateCode x < 8 := by cases x <;> exact of_decide_eq_true rfl

theorem subStateCode_lt (x : DistrictState) : subStateCode x < 4 := by
  rcases x with _ | _ | ⟨_ | _⟩ | _ | _ | _ | ⟨_ | _ | _ | _⟩ | ⟨_, _ | _ | _⟩ <;> exact of_decide_eq_true rfl

theorem districtByte0_toNat (s : State) (d : DistrictId) : (districtByte0 s d).toNat =
    stateCode (s.district d).st + 8 * subStateCode (s.district d).st + 32 * timerViewCode (s.timer d) := by
  have state := stateCode_lt (s.district d).st
  have sub := subStateCode_lt (s.district d).st
  have timer : timerViewCode (s.timer d) < 6 := by
    unfold timerViewCode
    split
    · decide
    · split <;> decide
    · decide
    · decide
    · decide
  rw [districtByte0, byte, BitVec.toNat_ofNat]
  omega

theorem holdersByte_zero : holdersByte 0#6 = 0#8 := rfl

theorem taken_holders (s : State) (d : DistrictId) (h : BitVec 6) : ((takeHolders d h s).district d).holders = h := by
  rw [(takeHolders_sameOuter s d h).holders, holding_district]

theorem taken_jointPart (s : State) (d : DistrictId) (h : BitVec 6) : jointPart (takeHolders d h s) d = jointPart s d := by
  rw [(takeHolders_sameOuter s d h).jointPart, holding, jointPart_setDistrict]

/-- A change of holders within the set shows in the holders alone (R14). -/
theorem inSet_answers (held : isolationSet s d = true) (stays : h ≠ 0#6 ∨ jointPart s d ≠ 0#8)
    (changes : (s.district d).holders ≠ h) : setHolders d h s = markDistrict [.isolation] d (holding s d h) ∧
      districtByte0 (markDistrict [.isolation] d (holding s d h)) d = districtByte0 s d := by
  rw [setHolders, takeHolders_inSet held stays changes]
  refine ⟨arbitrate_idle (by simp [holding]) (by simp [holding]) (by simp [holding]) (by simp [holding]),
    districtByte0_congr ?_ ?_⟩
  · rw [markDistrict_district, holding_district]
  · rw [markDistrict_timer]
    rfl

/-! ### The three requests (R164 to R166) -/

theorem hold_again (taken : Taken s src []) (joined : slotOf s src = some n)
    (holder : (s.district d).holders.getLsbD n.val = true) : exec (.hold src [byte d.val]) s =
      .next (answered s s src 0x20#8 .ok [districtByte0 s d, holdersByte (s.district d).holders, jointPart s d]) := by
  refine takeRequest_answers (taken.singleton _) _ ?_ rfl
  rw [bodyHold, oneDistrict_byte, ofSlot_joined s joined]
  simp only [holder]
  rfl

theorem release_refused (taken : Taken s src []) (joined : slotOf s src = some n)
    (outsider : (s.district d).holders.getLsbD n.val = false) : exec (.release src [byte d.val]) s =
      .next (answered s s src 0x21#8 .notHolder
        [districtByte0 s d, holdersByte (s.district d).holders, jointPart s d]) := by
  refine takeRequest_answers (taken.singleton _) _ ?_ rfl
  rw [bodyRelease, oneDistrict_byte, ofSlot_joined s joined]
  simp only [outsider]
  rfl

/-- A RELEASE replies before the Arbiter's look (R165). -/
theorem release_answers (taken : Taken s src []) (joined : slotOf s src = some n)
    (holder : (s.district d).holders.getLsbD n.val = true) :
    let h := (s.district d).holders &&& ~~~(BitVec.twoPow 6 n.val)
    exec (.release src [byte d.val]) s = .next (answered s (setHolders d h s) src 0x21#8 .ok
      [districtByte0 (takeHolders d h s) d, holdersByte h, jointPart s d]) := by
  intro h
  rw [← holdBytes_of_sameOuter (takeHolders_sameOuter s d h)]
  refine takeRequest_answers (taken.singleton _) _ ?_ (setHolders_sameOuter s d h).line
  rw [bodyRelease, oneDistrict_byte, ofSlot_joined s joined]
  simp only [holder]
  rfl

theorem breakHold_nothing (taken : Taken s src []) (joined : slotOf s src = some n)
    (empty : (s.district d).holders = 0#6) : exec (.breakHold src [byte d.val]) s =
      .next (answered s s src 0x22#8 .ok [districtByte0 s d, 0#8, jointPart s d, 0#8]) := by
  refine takeRequest_answers (taken.singleton _) _ ?_ rfl
  rw [bodyBreakHold, oneDistrict_byte, ofSlot_joined s joined]
  simp only [empty, if_pos, holdBytes, holdersByte_zero]
  rfl

/-- BREAK_HOLD replies after the Arbiter's look (R166, log entry 10). -/
theorem breakHold_answers (taken : Taken s src []) (joined : slotOf s src = some n)
    (held : (s.district d).holders ≠ 0#6) :
    let u := setHolders d 0#6 s
    exec (.breakHold src [byte d.val]) s = .next (answered s (markFormer d (s.district d).holders u) src 0x22#8 .ok
      [districtByte0 u d, 0#8, jointPart s d, holdersByte (s.district d).holders]) := by
  intro u
  have same : SameOuter (holding s d 0#6) u := setHolders_sameOuter s d 0#6
  have bytes : holdBytes (markFormer d (s.district d).holders u) d = [districtByte0 u d, 0#8, jointPart s d] := by
    rw [← holdersByte_zero, ← holdBytes_of_sameOuter same, markFormer_eq]
    rfl
  refine takeRequest_answers (taken.singleton _) _ ?_ (by rw [markFormer_eq]; exact same.line)
  rw [bodyBreakHold, oneDistrict_byte, ofSlot_joined s joined]
  simp only [if_neg held]
  exact congrArg (fun bs => Answer.mk .ok (bs ++ [holdersByte (s.district d).holders]) _) bytes

theorem removeItem_own (n : SlotId) : BitVec.twoPow 6 n.val &&& ~~~(BitVec.twoPow 6 n.val) = 0#6 := by
  revert n
  decide

theorem getLsbD_twoPow_own (n : SlotId) : (BitVec.twoPow 6 n.val).getLsbD n.val = true := by
  revert n
  decide

/-- What RELEASE and BREAK_HOLD of the last isolator answer: the district's release, and the Arbiter's look (R165,
R166). -/
theorem release_both (taken : Taken s src []) (joined : slotOf s src = some n)
    (single : (s.district d).holders = BitVec.twoPow 6 n.val) (part : jointPart s d = 0#8)
    (leaves : releaseDistrict d (holding s d 0#6) = t) :
    let v := markDistrict [.isolation] d t
    let w := arbitrate s v
    exec (.release src [byte d.val]) s = .next (answered s w src 0x21#8 .ok [districtByte0 v d, 0#8, 0#8]) ∧
    exec (.breakHold src [byte d.val]) s = .next (answered s
      (w.setSlot n ((w.slot n).map (fun x =>
        { x with changedDistricts := x.changedDistricts ||| BitVec.twoPow 16 d.val })))
      src 0x22#8 .ok [districtByte0 w d, 0#8, 0#8, holdersByte (BitVec.twoPow 6 n.val)]) := by
  have held : (s.district d).holders ≠ 0#6 := by rw [single]; exact twoPow_ne_zero n
  have taken_eq : takeHolders d 0#6 s = markDistrict [.isolation] d t := by rw [takeHolders_release held part, leaves]
  have set_eq : setHolders d 0#6 s = arbitrate s (markDistrict [.isolation] d t) := by rw [setHolders, taken_eq]
  have release := release_answers (d := d) taken joined (by rw [single]; exact getLsbD_twoPow_own n)
  have broken := breakHold_answers (d := d) taken joined held
  dsimp only at release broken
  rw [single, removeItem_own, taken_eq, set_eq, part] at release
  rw [single, set_eq, part, markFormer_single] at broken
  exact ⟨release, broken⟩

theorem release_quietly (taken : Taken s src []) (joined : slotOf s src = some n)
    (single : (s.district d).holders = BitVec.twoPow 6 n.val) (part : jointPart s d = 0#8)
    (leaves : releaseDistrict d (holding s d 0#6) = t) (channels : t.channels = s.channels) (queues : t.queues = s.queues)
    (feeds : t.feeds = s.feeds) (mode : t.mode = s.mode) :
    let w := markDistrict [.isolation] d t
    exec (.release src [byte d.val]) s = .next (answered s w src 0x21#8 .ok [districtByte0 w d, 0#8, 0#8]) ∧
    exec (.breakHold src [byte d.val]) s = .next (answered s
      (w.setSlot n ((w.slot n).map (fun x =>
        { x with changedDistricts := x.changedDistricts ||| BitVec.twoPow 16 d.val })))
      src 0x22#8 .ok [districtByte0 w d, 0#8, 0#8, holdersByte (BitVec.twoPow 6 n.val)]) := by
  have still : arbitrate s (markDistrict [.isolation] d t) = markDistrict [.isolation] d t :=
    arbitrate_idle (by simp [State.channel, channels]) (by simpa using queues) (by simpa using feeds) (by simpa using mode)
  have both := release_both taken joined single part leaves
  dsimp only at both
  rwa [still] at both

end Sys2Proof.Machine

open Sys2Proof Sys2Proof.Machine
/-- Settles O32: a change within the set is one of the holders alone, and the release that empties it is the district's
own, before the Arbiter's look and after. -/
theorem holdersChangeWithinTheSet : Obligations.HoldersChangeWithinTheSet := by
  intro s src taken
  refine ⟨districtChecked_of_body taken fun _ => rfl, districtChecked_of_body taken fun _ => rfl,
    districtChecked_of_body taken fun _ => rfl, fun d n joined => ⟨fun newcomer isolated => ?_, hold_again taken joined,
      release_refused taken joined, fun holder stays => ?_, breakHold_nothing taken joined, fun held part => ⟨?_, ?_⟩,
      fun held part => ?_⟩⟩
  · have answers := hold_answers (d := d) taken joined newcomer
    have gains : (s.district d).holders ≠ (s.district d).holders ||| BitVec.twoPow 6 n.val := fun same => by
      rw [same] at newcomer
      simp at newcomer
    have some_holder : (s.district d).holders ||| BitVec.twoPow 6 n.val ≠ 0#6 := fun empty => by
      have bit := congrArg (fun b => b.getLsbD n.val) empty
      simp at bit
    obtain ⟨changed, byte0⟩ := inSet_answers isolated (.inl some_holder) gains
    rw [changed] at answers
    dsimp only at answers
    rwa [byte0] at answers
  · have answers := release_answers (d := d) taken joined holder
    have isolated : isolationSet s d = true := (isolationSet_iff s d).mpr (.inl fun empty => by simp [empty] at holder)
    have loses : (s.district d).holders ≠ (s.district d).holders &&& ~~~(BitVec.twoPow 6 n.val) := fun same => by
      rw [same] at holder
      simp at holder
    obtain ⟨changed, byte0⟩ := inSet_answers isolated stays loses
    dsimp only at answers
    rw [takeHolders_inSet isolated stays loses, byte0, changed] at answers
    exact answers
  · have answers := breakHold_answers (d := d) taken joined held
    dsimp only at answers
    rw [part, markFormer_eq] at answers
    exact answers
  · intro single
    have answers := release_answers (d := d) taken joined (by rw [single]; exact getLsbD_twoPow_own n)
    dsimp only at answers
    rw [single, removeItem_own, part] at answers
    exact answers
  · have answers := breakHold_answers (d := d) taken joined held
    obtain ⟨changed, byte0⟩ := inSet_answers ((isolationSet_iff s d).mpr (.inl held)) (.inr part) held
    dsimp only at answers
    rw [changed, byte0] at answers
    refine ⟨_, answers, fun m => ?_, ?_⟩
    · rw [markFormer_slot, markDistrict_slot, Option.map_map]
      exact congrArg (Option.map · (s.slot m)) (funext fun x => marked_told d _ x)
    · obtain ⟨slots, marked⟩ := markDistrict_same [.isolation] d (holding s d 0#6)
      rw [markFormer_eq, marked]
      rfl

/-- Settles O33: the release by the district's resume-to state, which RELEASE shows before the Arbiter's look. -/
theorem releaseReturnsTheDistrict : Obligations.ReleaseReturnsTheDistrict := by
  intro s src d n taken joined single part
  have held : (s.district d).holders ≠ 0#6 := by rw [single]; exact twoPow_ne_zero n
  have st {x : DistrictState} (st : (s.district d).st = x) : ((holding s d 0#6).district d).st = x := by
    rw [holding_district]
    exact st
  have own {x : DistrictState} (st : (s.district d).st = x) :
      s.setDistrict d { s.district d with st := x, holders := 0#6 } = holding s d 0#6 := by rw [holding, ← st]
  have released {t : State} (leaves : releaseDistrict d (holding s d 0#6) = t) :=
    release_both taken joined single part leaves
  have quiet {t : State} (leaves : releaseDistrict d (holding s d 0#6) = t) (channels : t.channels = s.channels)
      (queues : t.queues = s.queues) (feeds : t.feeds = s.feeds) (mode : t.mode = s.mode) :=
    release_quietly taken joined single part leaves channels queues feeds mode
  refine ⟨fun retained => ?_, fun pending => ?_, fun awaiting => ?_, fun queued => ?_, fun off => ?_,
    fun cause locked => ?_⟩
  · refine quiet ?_ rfl rfl rfl rfl
    rw [release_retained (st retained), holding_district, holding_setDistrict]
    rfl
  · refine quiet ?_ rfl rfl rfl rfl
    rw [release_pending (st pending), holding_district, holding_setDistrict]
  · refine quiet ?_ rfl rfl rfl rfl
    rw [release_awaiting (st awaiting), holding_district, holding_setDistrict]
    rfl
  · refine ⟨released ?_, ?_⟩
    · rw [release_queued (st queued), holding_district, holding_setDistrict]
      rfl
    · rw [districtByte0_toNat]
      simp [stateCode]
      omega
  · refine quiet ?_ rfl rfl rfl rfl
    rw [release_other (by rw [st off]; nofun) (by rw [st off]; rfl)]
    exact (own off).symm
  · dsimp only
    rw [own locked]
    refine quiet (release_locked (t := holding s d 0#6) (isLocked_iff.mpr ⟨cause, .noLook, st locked⟩)) ?_ ?_ ?_ ?_ <;>
      split <;> rfl
end

section
/-! The 14 bytes of DISTRICT_STATUS read back (R5, R9, R14, R182). -/

namespace Sys2Proof.Machine

variable {s : State} {d : DistrictId}

/-! ### Parts of a byte -/

/-- Five flags in one byte, read back. -/
theorem flags_read (a b c d e : Bool) :
    let x := byte (flag a 0 + flag b 1 + flag c 2 + flag d 3 + flag e 4)
    x.getLsbD 0 = a ∧ x.getLsbD 1 = b ∧ x.getLsbD 2 = c ∧ x.getLsbD 3 = d ∧ x.getLsbD 4 = e := by
  revert a b c d e
  decide

/-- Two codes below 4 and a flag in one byte, read back. -/
theorem codes_read (x y : Fin 4) (b : Bool) :
    let z := byte (x.val + 4 * y.val + flag b 4)
    z.toNat % 4 = x.val ∧ z.toNat / 4 % 4 = y.val ∧ z.getLsbD 4 = b := by
  revert x y b
  decide

/-- Two codes below 16 in one byte, read back. -/
theorem nibbles_read {x y : Nat} (hx : x < 16) (hy : y < 16) :
    (byte (x + 16 * y)).toNat % 16 = x ∧ (byte (x + 16 * y)).toNat / 16 = y := by
  rw [byte_toNat (by omega)]
  omega

theorem word_read {n : Nat} (h : n ≤ 65535) : 256 * (byte (n / 256)).toNat + (byte n).toNat = n := by
  simp only [byte, BitVec.toNat_ofNat]
  omega

theorem holdersByte_bit (h : BitVec 6) (n : SlotId) : (holdersByte h).getLsbD n.val = h.getLsbD n.val := by
  have small : n.val < 8 := by omega
  simp [holdersByte, small]

/-! ### Codes (R182) -/

theorem tripCode_lt (x : Option TripCause) : tripCode x < 16 := by
  rcases x with _ | _ | _ | _ <;> exact of_decide_eq_true rfl

theorem failCode_lt (x : Option FailCause) : failCode x < 16 := by
  rcases x with _ | _ | _ | _ | _ | _ | _ <;> exact of_decide_eq_true rfl

theorem lockCode_lt (x : DistrictState) : lockCode x < 4 := by
  rcases x with _ | _ | _ | _ | _ | _ | _ | ⟨_ | _ | _, _⟩ <;> exact of_decide_eq_true rfl

theorem pauseCode_lt (x : Option Pause) : pauseCode x < 4 := by
  rcases x with _ | ⟨_ | _, _⟩ <;> exact of_decide_eq_true rfl

theorem stageCode_lt (x : Stage) : stageCode x < 4 := by cases x <;> exact of_decide_eq_true rfl

/-- Byte 0 read back: state, sub-state and timer view. -/
theorem districtByte0_read (s : State) (d : DistrictId) :
    (districtByte0 s d).toNat % 8 = stateCode (s.district d).st ∧
    (districtByte0 s d).toNat / 8 % 4 = subStateCode (s.district d).st ∧
    (districtByte0 s d).toNat / 32 = timerViewCode (s.timer d) := by
  have state := stateCode_lt (s.district d).st
  have sub := subStateCode_lt (s.district d).st
  rw [districtByte0_toNat]
  omega

/-! ### The sets that the bytes show (R5, R14, R153) -/

theorem episodeMember_iff : episodeMember s d = true ↔ ∃ f e, s.episode f = some e ∧ d ∈ e.members := by
  refine ⟨fun member => ?_, fun ⟨f, e, own, member⟩ => episodeMember_of_mem own member⟩
  obtain ⟨f, -, member⟩ := List.any_eq_true.mp member
  unfold memberOf at member
  split at member
  · next e own => exact ⟨f, e, own, List.contains_iff_mem.mp member⟩
  · cases member

theorem jointPart_bit (s : State) (d : DistrictId) (j : JointId) : (jointPart s d).getLsbD j.val = true ↔
    (s.jcfg j).enabled = true ∧ (s.joint j).st ≠ .coupled ∧ (s.jcfg j).cover.getLsbD d.val = true := by
  have range : j.val < 8 := j.isLt
  rw [jointPart, getLsbD_bitmap]
  simp only [range, decide_true, Bool.true_and, dif_pos, jointIsolates, Bool.and_eq_true, bne_iff_ne, ne_eq, and_assoc]

/-! ### The channel that the bytes show (R182) -/

/-- The channel that the district holds, with its probe (R112). -/
def heldProbe (s : State) (d : DistrictId) : Option (ChannelId × Probe) :=
  (channelOf s d).bind (fun c => (s.channel c).map (fun p => (c, p)))

theorem heldProbe_none (free : channelOf s d = none) : heldProbe s d = none := by rw [heldProbe, free]; rfl

theorem heldProbe_some {c : ChannelId} {p : Probe} (held : channelOf s d = some c) (own : s.channel c = some p) :
    heldProbe s d = some (c, p) := by
  rw [heldProbe, held, Option.bind_some, own]
  rfl

theorem heldProbe_isSome (s : State) (d : DistrictId) : (heldProbe s d).isSome = (channelOf s d).isSome := by
  cases held : channelOf s d with
  | none => rw [heldProbe_none held]; rfl
  | some c =>
    obtain ⟨p, own, -⟩ := channelOf_occupied held
    rw [heldProbe_some held own]
    rfl

/-- Byte 9: the channel, its stage and its RAMP step. -/
def channelByte (x : Option (ChannelId × Probe)) : Byte :=
  match x with
  | some (c, p) => byte (c.val + 4 * stageCode p.stage + 16 * stepCode p.stage)
  | none => 0#8

theorem channelByte_read (c : ChannelId) (p : Probe) :
    (channelByte (some (c, p))).toNat % 4 = c.val ∧ (channelByte (some (c, p))).toNat / 4 % 4 = stageCode p.stage ∧
      (channelByte (some (c, p))).toNat / 16 = stepCode p.stage % 16 := by
  have stage := stageCode_lt p.stage
  rw [channelByte, byte, BitVec.toNat_ofNat]
  omega

/-- The bytes of DISTRICT_STATUS, by their numbers. -/
def districtByte (s : State) (d : DistrictId) : Fin 14 → Byte :=
  ![districtByte0 s d,
    byte (flag (s.district d).probation 0 + flag (episodeMember s d) 1 + flag ((s.district d).polarity == .swapped) 2 +
      flag (s.monitor d).voltage 3 + flag (s.monitor d).window.isSome 4),
    holdersByte (s.district d).holders,
    jointPart s d,
    byte (s.district d).failures,
    byte (tripCode (s.district d).lastTrip + 16 * failCode (s.district d).lastFail),
    byte (lockCode (s.district d).st + 4 * pauseCode ((heldProbe s d).bind (fun v => v.2.pause)) +
      flag (heldProbe s d).isSome 4),
    byte ((if (s.timer d).purpose.isSome then (s.timer d).count else 0) / 256),
    byte (if (s.timer d).purpose.isSome then (s.timer d).count else 0),
    channelByte (heldProbe s d),
    byte ((s.district d).trips / 256),
    byte (s.district d).trips,
    byte (s.district d).swaps,
    byte ((s.monitor d).integrator / 256)]

theorem districtBytes_eq (s : State) (d : DistrictId) : districtBytes s d = List.ofFn (districtByte s d) := rfl

end Sys2Proof.Machine

open Sys2Proof Sys2Proof.Machine
/-- Settles O27: every byte is a sum of codes and flags that stand apart. -/
theorem districtStatusShowsTheRecord : Obligations.DistrictStatusShowsTheRecord := by
  intro s d config counters failures count unloaded
  obtain ⟨state, sub, timer⟩ := districtByte0_read s d
  obtain ⟨probation, member, swapped, voltage, window⟩ := flags_read (s.district d).probation (episodeMember s d)
    ((s.district d).polarity == .swapped) (s.monitor d).voltage (s.monitor d).window.isSome
  obtain ⟨lock, pause, held⟩ := codes_read ⟨lockCode (s.district d).st, lockCode_lt _⟩
    ⟨pauseCode ((heldProbe s d).bind (fun v => v.2.pause)), pauseCode_lt _⟩ (heldProbe s d).isSome
  have limit : (s.dcfg d).lockoutLimit ≤ 15 := (config.cfg.districts d).lockoutLimit.2
  have below := (failures d).1
  refine ⟨districtByte s d, districtBytes_eq s d, state.trans ?_, sub.trans ?_, timer.trans ?_, probation, member,
    episodeMember_iff, swapped, voltage, window, holdersByte_bit _, rfl, jointPart_bit s d, isolationSet_iff s d,
    byte_toNat ?_, ?_, ?_, lock.trans ?_, held.trans (heldProbe_isSome s d), fun free => ⟨pause.trans ?_, ?_⟩,
    fun c p occupied own => ⟨pause.trans ?_, ?_, ?_, ?_⟩, ?_, word_read (counters.trips d),
    byte_toNat (Nat.lt_succ_of_le (counters.swaps d)), byte_toNat ?_⟩
  · cases (s.district d).st <;> rfl
  · rcases (s.district d).st with _ | _ | ⟨_ | _⟩ | _ | _ | _ | ⟨_ | _ | _ | _⟩ | ⟨_, _ | _ | _⟩ <;> rfl
  · unfold timerViewCode
    rcases (s.timer d).purpose with _ | ⟨_ | _ | _ | _⟩ <;> cases (s.timer d).running <;> rfl
  · omega
  · refine (nibbles_read (tripCode_lt _) (failCode_lt _)).1.trans ?_
    rcases (s.district d).lastTrip with _ | ⟨_ | _ | _⟩ <;> rfl
  · refine (nibbles_read (tripCode_lt _) (failCode_lt _)).2.trans ?_
    rcases (s.district d).lastFail with _ | ⟨_ | _ | _ | _ | _ | _⟩ <;> rfl
  · rcases (s.district d).st with _ | _ | _ | _ | _ | _ | _ | ⟨_ | _ | _, _⟩ <;> rfl
  · dsimp only
    rw [heldProbe_none free]
    rfl
  · exact congrArg channelByte (heldProbe_none free)
  · dsimp only
    rw [heldProbe_some occupied own, Option.bind_some]
    rcases p.pause with _ | ⟨_ | _, _⟩ <;> rfl
  · exact (congrArg (fun x => (channelByte x).toNat % 4) (heldProbe_some occupied own)).trans (channelByte_read c p).1
  · refine (congrArg (fun x => (channelByte x).toNat / 4 % 4) (heldProbe_some occupied own)).trans
      ((channelByte_read c p).2.1.trans ?_)
    cases p.stage <;> rfl
  · refine (congrArg (fun x => (channelByte x).toNat / 16) (heldProbe_some occupied own)).trans
      ((channelByte_read c p).2.2.trans ?_)
    cases p.stage <;> rfl
  · have shown : (if (s.timer d).purpose.isSome then (s.timer d).count else 0) = (s.timer d).count := by
      cases purpose : (s.timer d).purpose with
      | none => exact (unloaded purpose).symm
      | some p => rfl
    exact (congrArg (fun n => 256 * (byte (n / 256)).toNat + (byte n).toNat) shown).trans (word_read count)
  · have top := counters.integrator d
    omega
end

section
/-! The values that a district write takes (R21, R22, R187). -/

namespace Sys2Proof.Machine

variable {k c : DistrictConfig} {es : List FieldEntry}

/-! ### Codes (R187) -/

theorem fin4OfCode_none {v : Nat} : fin4OfCode v = none ↔ 4 ≤ v := by simp [fin4OfCode]

theorem fin4Code_ofCode {v : Nat} {x : Fin 4} (h : fin4OfCode v = some x) : x.val = v := by
  unfold fin4OfCode at h
  split at h
  · cases h
    rfl
  · cases h

theorem policyOfCode_none {v : Nat} : policyOfCode v = none ↔ 4 ≤ v := by
  rcases v with _ | _ | _ | _ | v <;> simp [policyOfCode]

theorem policyCode_ofCode {v : Nat} {x : Policy} (h : policyOfCode v = some x) : policyCode x = v := by
  rcases v with _ | _ | _ | _ | v <;> cases h <;> rfl

/-! ### H (R21, R22) -/

/-- The combination of T and H is refused, as R22 compares them. -/
def hardTooLow (k : DistrictConfig) (es : List FieldEntry) (trip : Nat) : Prop :=
  match es.lookup 8, es.lookup 7 with
  | some h, _ => max 20 (min 1000 h) ≤ trip
  | none, some _ => k.hard < trip + 10
  | none, none => False

theorem takeHard_none {trip : Nat} : takeHard k es trip = none ↔ hardTooLow k es trip := by
  unfold takeHard hardTooLow names written
  cases es.lookup 8 with
  | some h =>
    exact ite_eq_left_iff.trans (by simp only [clamp, reduceCtorEq, imp_false, not_not])
  | none => cases es.lookup 7 <;> simp

theorem takeHard_some {trip hard : Nat} (h : takeHard k es trip = some hard) : hard = match es.lookup 8 with
    | some v => max (max 20 (min 1000 v)) (trip + 10)
    | none => k.hard := by
  unfold takeHard written at h
  cases written : es.lookup 8 with
  | some v =>
    simp only [written] at h
    split at h
    · cases h
    · exact (Option.some.inj h).symm
  | none =>
    simp only [written] at h
    split at h
    · cases h
    · exact (Option.some.inj h).symm

/-! ### The whole write (R21, R22) -/

theorem takeDistrict_none : takeDistrict k es = none ↔ takeCode es 1 fin4OfCode k.feed = none ∨
    takeCode es 2 policyOfCode k.policy = none ∨ takeCode es 3 boolOfCode k.reversing = none ∨
    takeCode es 4 boolOfCode k.patrol = none ∨ takeHard k es (take es 7 10 900 k.trip) = none := by
  unfold takeDistrict
  simp only [Option.bind_eq_bind]
  cases takeCode es 1 fin4OfCode k.feed with
  | none => simp
  | some feed =>
    cases takeCode es 2 policyOfCode k.policy with
    | none => simp
    | some policy =>
      cases takeCode es 3 boolOfCode k.reversing with
      | none => simp
      | some reversing =>
        cases takeCode es 4 boolOfCode k.patrol with
        | none => simp
        | some patrol => cases takeHard k es (take es 7 10 900 k.trip) <;> simp

theorem take_eq (es : List FieldEntry) (id lo hi old : Nat) : take es id lo hi old = match es.lookup id with
    | some v => max lo (min hi v)
    | none => old := by
  unfold take written
  cases es.lookup id <;> rfl

theorem takePriority_val (k : DistrictConfig) (es : List FieldEntry) : (takePriority k es).val =
    match es.lookup 5 with
    | some v => max 0 (min 3 v)
    | none => k.priority.val := by
  unfold takePriority written
  cases es.lookup 5 <;> simp

end Sys2Proof.Machine

open Sys2Proof Sys2Proof.Machine
/-- Settles O39: the four codes and H alone can refuse a write, and every other field is clamped or kept. -/
theorem setDistrictTakesClampedValues : Obligations.SetDistrictTakesClampedValues := by
  intro k es
  have number (id lo hi old : Nat) := take_eq es id lo hi old
  refine ⟨?_, fun c taken => ?_⟩
  · rw [takeDistrict_none]
    simp only [takeCode_none, fin4OfCode_none, policyOfCode_none, boolOfCode_none, takeHard_none, number, or_assoc]
    exact Iff.rfl
  · simp only [takeDistrict, Option.bind_eq_bind, Option.bind_eq_some_iff, Option.some.injEq] at taken
    obtain ⟨feed, hf, policy, hp, reversing, hr, patrol, ht, hard, hh, rfl⟩ := taken
    refine ⟨takeCode_some (code := Fin.val) fin4Code_ofCode hf, takeCode_some policyCode_ofCode hp,
      takeCode_some boolCode_ofCode hr, takeCode_some boolCode_ofCode ht, takePriority_val k es, number _ _ _ _,
      number _ _ _ _, takeHard_some hh, number _ _ _ _, number _ _ _ _, number _ _ _ _, number _ _ _ _, number _ _ _ _,
      number _ _ _ _, number _ _ _ _, number _ _ _ _, number _ _ _ _, number _ _ _ _⟩
end

section
/-! SET_DISTRICT (R21, R187): when a payload parses as field entries, and the order of the checks. -/

namespace Sys2Proof.Machine

variable {s : State} {d : DistrictId} {src : Byte} {entries payload : List Byte} {es : List FieldEntry}
  {width : Nat → Option Width}

/-! ### Field entries (R187) -/

/-- The bytes of one entry. -/
def entryImage (width : Nat → Option Width) (e : FieldEntry) : List Byte :=
  if width e.1 = some .two then [byte e.1, byte (e.2 / 256), byte e.2] else [byte e.1, byte e.2]

/-- The entry is of a field of the record, and its value has the field's width. -/
def EntryFits (width : Nat → Option Width) (e : FieldEntry) : Prop :=
  (width e.1 = some .one ∧ e.2 < 256) ∨ (width e.1 = some .two ∧ e.2 < 65536)

theorem splitEntries_one {id v : Byte} {rest : List Byte} (one : width id.toNat = some .one) :
    splitEntries width (id :: v :: rest) = (splitEntries width rest).map (fun es => (id.toNat, v.toNat) :: es) := by
  conv_lhs => unfold splitEntries
  simp only [one]

theorem splitEntries_two {id v w : Byte} {rest : List Byte} (two : width id.toNat = some .two) :
    splitEntries width (id :: v :: w :: rest) =
      (splitEntries width rest).map (fun es => (id.toNat, 256 * v.toNat + w.toNat) :: es) := by
  simp [splitEntries, two]

theorem entryImage_one {id v : Byte} (one : width id.toNat = some .one) :
    entryImage width (id.toNat, v.toNat) = [id, v] := by
  simp [entryImage, one, byte_of_toNat]

theorem byte_wide (v w : Byte) : byte ((256 * v.toNat + w.toNat) / 256) = v ∧ byte (256 * v.toNat + w.toNat) = w := by
  have low := w.isLt
  have high : (256 * v.toNat + w.toNat) / 256 = v.toNat := by omega
  refine ⟨by rw [high, byte_of_toNat], BitVec.eq_of_toNat_eq ?_⟩
  simp only [byte, BitVec.toNat_ofNat]
  omega

theorem entryImage_two {id v w : Byte} (two : width id.toNat = some .two) :
    entryImage width (id.toNat, 256 * v.toNat + w.toNat) = [id, v, w] := by
  obtain ⟨high, low⟩ := byte_wide v w
  simp only [entryImage, two, if_pos, byte_of_toNat, high, low]

/-- What is read is the payload's own entries. -/
theorem splitEntries_sound (read : splitEntries width payload = some es) :
    payload = es.flatMap (entryImage width) ∧ ∀ e ∈ es, EntryFits width e := by
  induction payload using splitEntries.induct width generalizing es with
  | case1 =>
    cases read
    exact ⟨rfl, by simp⟩
  | case2 => cases read
  | case3 id v rest unknown =>
    unfold splitEntries at read
    simp [unknown] at read
  | case4 id v rest one ih =>
    rw [splitEntries_one one, Option.map_eq_some_iff] at read
    obtain ⟨tail, read, rfl⟩ := read
    obtain ⟨bytes, fits⟩ := ih read
    refine ⟨?_, List.forall_mem_cons.mpr ⟨.inl ⟨one, v.isLt⟩, fits⟩⟩
    rw [List.flatMap_cons, entryImage_one one, ← bytes]
    rfl
  | case5 id v two => simp [splitEntries, two] at read
  | case6 id v two w rest ih =>
    rw [splitEntries_two two, Option.map_eq_some_iff] at read
    obtain ⟨tail, read, rfl⟩ := read
    obtain ⟨bytes, fits⟩ := ih read
    have range : 256 * v.toNat + w.toNat < 65536 := by
      have := v.isLt
      have := w.isLt
      omega
    refine ⟨?_, List.forall_mem_cons.mpr ⟨.inr ⟨two, range⟩, fits⟩⟩
    rw [List.flatMap_cons, entryImage_two two, ← bytes]
    rfl

/-- Entries that fit are read back from their bytes. -/
theorem splitEntries_flatMap (ids : ∀ id, width id ≠ none → id < 256) (fits : ∀ e ∈ es, EntryFits width e) :
    splitEntries width (es.flatMap (entryImage width)) = some es := by
  induction es with
  | nil => rfl
  | cons e tail ih =>
    obtain ⟨id, v⟩ := e
    obtain ⟨head, rest⟩ := List.forall_mem_cons.mp fits
    rw [List.flatMap_cons]
    rcases head with ⟨one, range⟩ | ⟨two, range⟩
    · have own : (byte id).toNat = id := byte_toNat (ids id (by simp [one]))
      have value : (byte v).toNat = v := byte_toNat range
      rw [← own, ← value, entryImage_one (own.symm ▸ one), List.cons_append, List.cons_append, List.nil_append,
        splitEntries_one (own.symm ▸ one), ih rest]
      rfl
    · have own : (byte id).toNat = id := byte_toNat (ids id (by simp [two]))
      have value : v = 256 * (byte (v / 256)).toNat + (byte v).toNat := by
        simp only [byte, BitVec.toNat_ofNat]
        omega
      have known : width (byte id).toNat = some .two := own.symm ▸ two
      have image : entryImage width (id, v) = [byte id, byte (v / 256), byte v] := if_pos two
      rw [image, List.cons_append, List.cons_append, List.cons_append, List.nil_append, splitEntries_two known, ih rest,
        ← value, own]
      rfl

theorem distinctIds_iff (es : List FieldEntry) : distinctIds es = true ↔ (es.map Prod.fst).Nodup := by
  induction es with
  | nil => simp [distinctIds]
  | cons e es ih => simp [distinctIds, ih]

theorem parseEntries_some (ids : ∀ id, width id ≠ none → id < 256) : parseEntries width payload = some es ↔
    payload = es.flatMap (entryImage width) ∧ (∀ e ∈ es, EntryFits width e) ∧ (es.map Prod.fst).Nodup := by
  rw [← distinctIds_iff]
  constructor
  · intro parsed
    unfold parseEntries at parsed
    split at parsed
    · next read =>
      split at parsed
      · next distinct =>
        cases parsed
        obtain ⟨bytes, fits⟩ := splitEntries_sound read
        exact ⟨bytes, fits, distinct⟩
      · cases parsed
    · cases parsed
  · rintro ⟨rfl, fits, distinct⟩
    simp [parseEntries, splitEntries_flatMap ids fits, distinct]

theorem width_ids (record : width = districtWidth ∨ width = feedWidth ∨ width = jointWidth ∨ width = globalsWidth)
    {id : Nat} (known : width id ≠ none) : id < 256 := by
  by_contra high
  have out : 18 < id := by omega
  rcases record with rfl | rfl | rfl | rfl <;> refine known (if_pos ?_) <;> simp <;> omega

/-! ### The checks (R21, R177, R179) -/

theorem arbitrate_writeDistrict_line (d : DistrictId) (es : List FieldEntry) (k : DistrictConfig) (s : State) :
    (arbitrate s (writeDistrict d es k s)).line = s.line :=
  (arbitrate_keeps (sameOuter_keeps (s.setDcfg d k)) s
    (writeDistrict_keeps_stored (sameOuter_keeps (s.setDcfg d k)) d es k (SameOuter.refl _))).line

theorem bodySetDistrict_badNumber {b : Byte} (number : 16 ≤ b.toNat) :
    bodySetDistrict src (b :: entries) s = refuse .badArg [] s := by
  simp [bodySetDistrict, oneDistrict_badNumber number]

theorem bodySetDistrict_unparsed (unparsed : parseEntries districtWidth entries = none) :
    bodySetDistrict src (byte d.val :: entries) s = refuse .badArg [] s := by
  simp [bodySetDistrict, oneDistrict_byte, unparsed]

section
variable (parsed : parseEntries districtWidth entries = some es)
include parsed

theorem bodySetDistrict_badValue (refused : takeDistrict (s.dcfg d) es = none) :
    bodySetDistrict src (byte d.val :: entries) s = refuse .badArg [] s := by
  simp [bodySetDistrict, oneDistrict_byte, parsed, refused]

theorem bodySetDistrict_busy {k : DistrictConfig} (taken : takeDistrict (s.dcfg d) es = some k)
    (busy : districtBusy s d es = true) : bodySetDistrict src (byte d.val :: entries) s = refuse .busy [] s := by
  simp [bodySetDistrict, oneDistrict_byte, parsed, taken, busy]

theorem bodySetDistrict_free {k : DistrictConfig} (taken : takeDistrict (s.dcfg d) es = some k)
    (free : ¬districtBusy s d es = true) : bodySetDistrict src (byte d.val :: entries) s = partWide src s
      ⟨.ok, echo districtWidth (districtField k) es, arbitrate s (writeDistrict d es k s)⟩ := by
  simp [bodySetDistrict, oneDistrict_byte, parsed, taken, free]
end

/-- A write that parses is refused for its values, then for the district's state, then by the whole part. -/
theorem setDistrict_parsed (taken : Taken s src (byte d.val :: entries))
    (parsed : parseEntries districtWidth entries = some es) :
    exec (.setDistrict src (byte d.val :: entries)) s =
      match takeDistrict (s.dcfg d) es with
      | none => .next (answered s s src 0x40#8 .badArg [])
      | some k =>
        if districtBusy s d es then .next (answered s s src 0x40#8 .busy [])
        else if slotOf s src = none then .next (answered s s src 0x40#8 .notJoined [])
        else if s.writing.isSome then .next (answered s s src 0x40#8 .busy [])
        else .next (answered s (arbitrate s (writeDistrict d es k s)) src 0x40#8 .ok
          (echo districtWidth (districtField k) es)) := by
  cases values : takeDistrict (s.dcfg d) es with
  | none => exact takeRequest_refuses taken _ (bodySetDistrict_badValue parsed values)
  | some k =>
    dsimp only
    split
    · next busy => exact takeRequest_refuses taken _ (bodySetDistrict_busy parsed values busy)
    · next free =>
      exact takeRequest_partWide taken _ (bodySetDistrict_free parsed values free) (arbitrate_writeDistrict_line d es k s)

/-! ### The district's state (R21) -/

theorem standsStill_false_iff : standsStill s d = false ↔ s.mode = .run ∧ (s.district d).st ≠ .off ∧
    (∀ r, (s.district d).st ≠ .isolated r) ∧ isLocked (s.district d).st = false := by
  unfold standsStill
  cases s.mode <;> cases (s.district d).st <;> simp [isLocked]

theorem lookQueued_iff : lookQueued s d = true ↔ ∃ cause, (s.district d).st = .locked cause .queued := by
  unfold lookQueued
  split <;> simp_all

theorem lookInFlight_iff : lookInFlight s d = true ↔ ∃ cause, (s.district d).st = .locked cause .inFlight := by
  unfold lookInFlight
  split <;> simp_all

theorem names_iff {id : Nat} : names es id = true ↔ ∃ v, es.lookup id = some v := Option.isSome_iff_exists

theorem anyStateField_false_iff {id : Nat} : anyStateField id = false ↔ id ∉ ([7, 8, 9, 10, 18] : List Nat) := by
  simp [anyStateField, and_assoc]

theorem districtBusy_iff : districtBusy s d es = true ↔
    ((∃ e ∈ es, e.1 ∉ ([7, 8, 9, 10, 18] : List Nat)) ∧ standsStill s d = false) ∨
    (names es 1 = true ∧ (episodeMember s d = true ∨ lookQueued s d = true ∨ lookInFlight s d = true)) ∨
    (names es 5 = true ∧ lookQueued s d = true) := by
  simp only [districtBusy, Bool.or_eq_true, Bool.and_eq_true, List.any_eq_true, Bool.not_eq_true', or_assoc,
    anyStateField_false_iff]

end Sys2Proof.Machine

open Sys2Proof Sys2Proof.Machine
/-- Settles O38: an entry list is read exactly from its own bytes, and SET_DISTRICT is its checks one by one, then the
checks of the whole part. -/
theorem setDistrictChecksInOrder : Obligations.SetDistrictChecksInOrder := by
  refine ⟨fun s src taken => takeRequest_refuses taken _ rfl,
    fun width payload es record => parseEntries_some fun id => width_ids record, fun id => ?_,
    fun s src b entries taken => ?_⟩
  · refine ⟨?_, ?_, ?_, ?_⟩
    · simp [districtWidth, apply_ite some, or_assoc]
    · simp [feedWidth, apply_ite some, or_assoc]
    · simp [jointWidth, apply_ite some]
    · simp only [globalsWidth]
      split_ifs <;> simp_all
      omega
  · intro refused
    refine ⟨fun number => takeRequest_refuses taken _ (bodySetDistrict_badNumber number), ?_, fun d es => ?_⟩
    · rintro d rfl
      exact ⟨fun unparsed => takeRequest_refuses taken _ (bodySetDistrict_unparsed unparsed),
        fun es parsed => setDistrict_parsed taken parsed⟩
    · rw [districtBusy_iff, standsStill_false_iff, lookQueued_iff, lookInFlight_iff, names_iff, names_iff]
end

section
/-! The effects of a district write (R22 to R25), and what a write of one field does. -/

namespace Sys2Proof.Machine

variable {s u : State} {d : DistrictId} {src : Byte} {c k : DistrictConfig} {es : List FieldEntry}

/-! ### The effects, by the configuration taken (R23 to R25) -/

/-- A written lockout limit cuts F (R23). -/
def limitWritten (d : DistrictId) (c : DistrictConfig) (u : State) : State :=
  u.setDistrict d { u.district d with
    failures := min (u.district d).failures
      (if isLocked (u.district d).st then c.lockoutLimit else c.lockoutLimit - 1) }

/-- Reversing written off restores the polarity (R25). -/
def reversingWritten (d : DistrictId) (c : DistrictConfig) (u : State) : State :=
  if c.reversing then u else u.setDistrict d { u.district d with polarity := .normal }

/-- DARK takes a standing district out of recovery (R24). -/
def darkWritten (d : DistrictId) (c : DistrictConfig) (u : State) : State :=
  match (u.district d).st with
  | .isolated _ | .locked _ .noLook => unlocked u d .off
  | .locked _ .queued => unlocked (u.setQueue c.feed ((u.queue c.feed).filter (fun e => e.district != d))) d .off
  | .locked _ .inFlight => unlocked (endOwnProbe d u) d .off
  | _ => u

/-- Another policy takes an OFF district into recovery, and AUTO a held grant to the queue (R24). `s` is the state
before the write. -/
def litWritten (s : State) (d : DistrictId) (c : DistrictConfig) (u : State) : State :=
  match (u.district d).st with
  | .off =>
    if s.mode = .standby then u
    else if isolationSet s d = true then u.setDistrict d { u.district d with st := .isolated .queued }
    else (u.setDistrict d { u.district d with st := .queued }).setQueue c.feed (queueWith u d .full)
  | .isolated .awaitingGrant =>
    if c.policy = .auto then u.setDistrict d { u.district d with st := .isolated .queued } else u
  | _ => u

/-- A written policy (R24). -/
def policyWritten (s : State) (d : DistrictId) (c : DistrictConfig) (u : State) : State :=
  if c.policy = .dark then darkWritten d c u else litWritten s d c u

/-- Patrol written starts or empties the PATROL timer of a LOCKED district (R25, R88). -/
def patrolWritten (s : State) (d : DistrictId) (c : DistrictConfig) (u : State) : State :=
  if isLocked (u.district d).st = true then
    if c.patrol = false then u.setTimer d Timer.empty
    else if s.mode = .run ∧ isolationSet s d = false ∧
        ¬((u.timer d).purpose = some .patrol ∧ (u.timer d).running = true) then
      u.setTimer d (loaded .patrol s.cfg.globals.patrol)
    else u
  else u

theorem setDcfg_isolationSet : isolationSet (s.setDcfg d c) d = isolationSet s d := rfl

theorem darken_eq (d : DistrictId) (u : State) : darken d u = unlocked (dropLook d u) d .off := by
  simp [darken, unlocked, setSt, setFailures, State.modDistrict, clearTimer_eq]

theorem darken_locked {cause : LockCause} {look : LookStatus} (st : (u.district d).st = .locked cause look) :
    darken d u = match look with
      | .noLook => unlocked u d .off
      | .queued => unlocked (u.setQueue (u.dcfg d).feed
          ((u.queue (u.dcfg d).feed).filter (fun e => e.district != d))) d .off
      | .inFlight => unlocked (endOwnProbe d u) d .off := by
  rw [darken_eq]
  cases look with
  | noLook => rw [dropLook_noLook st]
  | queued => rw [dropLook_queued st, unlocked_setSt]
  | inFlight =>
    have dropped : dropLook d u = setSt d (.locked cause .noLook) (endOwnProbe d u) := by
      rw [dropLook, st]
      rfl
    rw [dropped, unlocked_setSt]

section
variable (same : SameOuter (s.setDcfg d c) u)
include same

theorem dcfg_of_stored : u.dcfg d = c := (same.dcfg d).trans (by simp)

theorem limitEffect_eq : limitEffect d u = limitWritten d c u := by
  unfold limitEffect limitWritten
  rw [dcfg_of_stored same]
  cases (u.district d).st <;> rfl

theorem reversingEffect_eq : reversingEffect d u = reversingWritten d c u := by
  unfold reversingEffect reversingWritten
  rw [dcfg_of_stored same]
  rfl

theorem policyEffect_dark (dark : c.policy = .dark) : policyEffect d u = darkWritten d c u := by
  have stored := dcfg_of_stored same
  simp only [policyEffect, stored, dark, beq_self_eq_true, if_true]
  unfold darkWritten
  cases st : (u.district d).st with
  | isolated r =>
    have quiet : dropLook d u = u := by rw [dropLook, st]
    exact (darken_eq d u).trans (by rw [quiet])
  | locked cause look =>
    have darkened := darken_locked st
    rw [stored] at darkened
    cases look <;> exact darkened
  | off | live | cooling | queued | awaitingGrant | probing => rfl

theorem policyEffect_lit (lit : c.policy ≠ .dark) : policyEffect d u = litWritten s d c u := by
  have stored := dcfg_of_stored same
  have isolation : isolationSet u d = isolationSet s d := (same.isolationSet d).trans setDcfg_isolationSet
  have mode : u.mode = s.mode := same.mode
  have dark : (c.policy == .dark) = false := by simpa using lit
  simp only [policyEffect, stored, dark, isolation, mode, becomeQueued_eq]
  unfold litWritten
  cases (u.district d).st with
  | off => cases s.mode <;> rfl
  | isolated r => cases r <;> simp [setSt, State.modDistrict]
  | locked | live | cooling | queued | awaitingGrant | probing => rfl

theorem policyEffect_eq : policyEffect d u = policyWritten s d c u := by
  unfold policyWritten
  split
  · next dark => exact policyEffect_dark same dark
  · next lit => exact policyEffect_lit same lit

theorem patrolEffect_eq : patrolEffect d u = patrolWritten s d c u := by
  have isolation : isolationSet u d = isolationSet s d := (same.isolationSet d).trans setDcfg_isolationSet
  have mode : u.mode = s.mode := same.mode
  have globals : u.cfg.globals = s.cfg.globals := by rw [same.cfg]; rfl
  unfold patrolEffect patrolWritten patrolRuns loadPatrol
  rw [dcfg_of_stored same, isolation, mode, globals, loadTimer_eq, clearTimer_eq]
  cases st : (u.district d).st with
  | locked cause look =>
    cases c.patrol with
    | false => rfl
    | true =>
      simp only [isLocked, if_true, Bool.true_and, reduceCtorEq, if_false]
      refine if_congr ?_ rfl rfl
      cases isolationSet s d <;> simp [imp_iff_not_or]
  | off | isolated | live | cooling | queued | awaitingGrant | probing => rfl

end

/-- A district write is its effects in the order of log entry 28. -/
theorem writeDistrict_eq (s : State) (d : DistrictId) (es : List FieldEntry) (c : DistrictConfig) :
    writeDistrict d es c s = markDistrict [.config] d
      (whenNamed es 4 (patrolWritten s d c) (whenNamed es 2 (policyWritten s d c)
        (whenNamed es 3 (reversingWritten d c) (whenNamed es 17 (limitWritten d c) (s.setDcfg d c))))) := by
  have keeps := sameOuter_keeps (s.setDcfg d c)
  have named {id : Nat} {effect becomes : State → State} {t : State} (same : SameOuter (s.setDcfg d c) t)
      (outer : SameOuter (s.setDcfg d c) (effect t)) (eq : effect t = becomes t) :
      whenNamed es id effect t = whenNamed es id becomes t ∧ SameOuter (s.setDcfg d c) (whenNamed es id effect t) := by
    unfold whenNamed
    rw [← eq]
    split
    · exact ⟨rfl, outer⟩
    · exact ⟨rfl, same⟩
  have start := SameOuter.refl (s.setDcfg d c)
  obtain ⟨limit, same⟩ := named (id := 17) start (limitEffect_keeps keeps d start) (limitEffect_eq start)
  obtain ⟨reversing, same⟩ := named (id := 3) same (reversingEffect_keeps keeps d same) (reversingEffect_eq same)
  obtain ⟨policy, same⟩ := named (id := 2) same (policyEffect_keeps keeps d same) (policyEffect_eq same)
  obtain ⟨patrol, -⟩ := named (id := 4) same (patrolEffect_keeps keeps d same) (patrolEffect_eq same)
  rw [writeDistrict, patrol, policy, reversing, limit]

theorem whenNamed_absent {id : Nat} {effect : State → State} (absent : names es id = false) :
    whenNamed es id effect u = u := by
  rw [whenNamed, absent]
  rfl

theorem names_absent {id : Nat} (absent : ∀ e ∈ es, e.1 ≠ id) : names es id = false := by
  unfold names written
  rw [List.lookup_eq_none_iff.mpr fun e member => by simpa using (absent e member).symm]
  rfl

theorem writeDistrict_plain (plain : ∀ e ∈ es, e.1 ∉ ([2, 3, 4, 17] : List Nat)) :
    writeDistrict d es c s = markDistrict [.config] d (s.setDcfg d c) := by
  have absent (id : Nat) (effect : id ∈ ([2, 3, 4, 17] : List Nat)) : names es id = false :=
    names_absent fun e member own => plain e member (own ▸ effect)
  rw [writeDistrict, whenNamed_absent (absent 4 (by decide)), whenNamed_absent (absent 2 (by decide)),
    whenNamed_absent (absent 3 (by decide)), whenNamed_absent (absent 17 (by decide))]

end Sys2Proof.Machine
end

section
/-! Writes of one district field (R22 to R25): the answer, and the effect by the district's state. -/

namespace Sys2Proof.Machine

variable {s u : State} {d : DistrictId} {src : Byte} {c k : DistrictConfig} {es : List FieldEntry}

/-! ### The effects by the district's state (R24, R25) -/

theorem darkWritten_off (st : (u.district d).st = .off) : darkWritten d c u = u := by
  rw [darkWritten, st]

theorem darkWritten_still (st : (∃ r, (u.district d).st = .isolated r) ∨ ∃ cause, (u.district d).st = .locked cause .noLook) :
    darkWritten d c u = unlocked u d .off := by
  rcases st with ⟨r, st⟩ | ⟨cause, st⟩ <;> rw [darkWritten, st]

theorem darkWritten_lookQueued {cause : LockCause} (st : (u.district d).st = .locked cause .queued) :
    darkWritten d c u = unlocked (u.setQueue c.feed ((u.queue c.feed).filter (fun e => e.district != d))) d .off := by
  rw [darkWritten, st]

theorem darkWritten_lookInFlight {cause : LockCause} (st : (u.district d).st = .locked cause .inFlight) {b : ChannelId}
    (held : channelOf u d = some b) : darkWritten d c u = unlocked (endProbe b u) d .off := by
  rw [darkWritten, st, ← endOwnProbe_held held]

theorem litWritten_standby (st : (u.district d).st = .off) (standby : s.mode = .standby) : litWritten s d c u = u := by
  rw [litWritten, st]
  exact if_pos standby

theorem litWritten_isolatedOff (st : (s.district d).st = .off) (run : s.mode = .run)
    (isolated : isolationSet s d = true) : litWritten s d c (s.setDcfg d c) =
      (s.setDcfg d c).setDistrict d { s.district d with st := .isolated .queued } := by
  have stored : ((s.setDcfg d c).district d).st = .off := st
  rw [litWritten, stored]
  exact (if_neg (by simp [run])).trans (if_pos isolated)

/-- A district's new place in its queue does not ask what else its configuration is (R98). -/
theorem queueWith_setDcfg (feed : c.feed = (s.dcfg d).feed) (priority : c.priority = (s.dcfg d).priority)
    (kind : EntryKind) : queueWith (s.setDcfg d c) d kind = queueWith s d kind := by
  simp [queueWith, feed, priority]

theorem litWritten_freeOff (st : (s.district d).st = .off) (run : s.mode = .run) (free : isolationSet s d = false)
    (feed : c.feed = (s.dcfg d).feed) (priority : c.priority = (s.dcfg d).priority) :
    litWritten s d c (s.setDcfg d c) = ((s.setDcfg d c).setDistrict d { s.district d with st := .queued }).setQueue
      (s.dcfg d).feed (queueWith s d .full) := by
  have stored : ((s.setDcfg d c).district d).st = .off := st
  rw [litWritten, stored, ← queueWith_setDcfg feed priority, ← feed]
  exact (if_neg (by simp [run])).trans (if_neg (by simp [free]))

theorem litWritten_awaiting (st : (s.district d).st = .isolated .awaitingGrant) : litWritten s d c (s.setDcfg d c) =
    if c.policy = .auto then (s.setDcfg d c).setDistrict d { s.district d with st := .isolated .queued }
    else s.setDcfg d c := by
  have stored : ((s.setDcfg d c).district d).st = .isolated .awaitingGrant := st
  rw [litWritten, stored]
  rfl

theorem litWritten_isolated {r : ResumeTo} (st : (u.district d).st = .isolated r) (held : r ≠ .awaitingGrant) :
    litWritten s d c u = u := by
  rw [litWritten, st]
  cases r with
  | awaitingGrant => exact absurd rfl held
  | coolRetained | coolPending | queued => rfl

theorem litWritten_locked (locked : isLocked (u.district d).st = true) : litWritten s d c u = u := by
  obtain ⟨cause, look, st⟩ := isLocked_iff.mp locked
  rw [litWritten, st]

theorem reversingWritten_off (off : c.reversing = false) : reversingWritten d c (s.setDcfg d c) =
    (s.setDcfg d c).setDistrict d { s.district d with polarity := .normal } := by
  rw [reversingWritten, off]
  rfl

theorem reversingWritten_on (on : c.reversing = true) : reversingWritten d c u = u := if_pos on

theorem patrolWritten_off (locked : isLocked (s.district d).st = true) (off : c.patrol = false) :
    patrolWritten s d c (s.setDcfg d c) = (s.setDcfg d c).setTimer d Timer.empty :=
  (if_pos locked).trans (if_pos off)

theorem patrolWritten_on (locked : isLocked (s.district d).st = true) (on : c.patrol = true) :
    patrolWritten s d c (s.setDcfg d c) = if s.mode = .run ∧ isolationSet s d = false ∧
        ¬((s.timer d).purpose = some .patrol ∧ (s.timer d).running = true) then
      (s.setDcfg d c).setTimer d (loaded .patrol s.cfg.globals.patrol) else s.setDcfg d c :=
  (if_pos locked).trans (if_neg (by simp [on]))

theorem patrolWritten_unlocked (free : isLocked (s.district d).st = false) :
    patrolWritten s d c (s.setDcfg d c) = s.setDcfg d c := if_neg (Bool.eq_false_iff.mp free)

/-! ### The values and the effect of one entry -/

variable {v : Nat}

theorem takeDistrict_feed {f : FeedId} : takeDistrict k [(1, f.val)] = some { k with feed := f } := by
  have code : takeCode [(1, f.val)] 1 fin4OfCode k.feed = some f := by simp [takeCode, written, fin4OfCode]
  rw [takeDistrict, code]
  rfl

theorem takeDistrict_policy {p : Policy} : takeDistrict k [(2, policyCode p)] = some { k with policy := p } := by
  cases p <;> rfl

theorem takeDistrict_reversing {b : Bool} : takeDistrict k [(3, boolCode b)] = some { k with reversing := b } := by
  cases b <;> rfl

theorem takeDistrict_patrol {b : Bool} : takeDistrict k [(4, boolCode b)] = some { k with patrol := b } := by
  cases b <;> rfl

theorem takeDistrict_limit : takeDistrict k [(17, v)] = some { k with lockoutLimit := max 1 (min 15 v) } := rfl

theorem writeDistrict_policy : writeDistrict d [(2, v)] c s =
    markDistrict [.config] d (policyWritten s d c (s.setDcfg d c)) := writeDistrict_eq s d _ c

theorem writeDistrict_reversing : writeDistrict d [(3, v)] c s =
    markDistrict [.config] d (reversingWritten d c (s.setDcfg d c)) := writeDistrict_eq s d _ c

theorem writeDistrict_patrol : writeDistrict d [(4, v)] c s =
    markDistrict [.config] d (patrolWritten s d c (s.setDcfg d c)) := writeDistrict_eq s d _ c

theorem writeDistrict_limit : writeDistrict d [(17, v)] c s =
    markDistrict [.config] d (limitWritten d c (s.setDcfg d c)) := writeDistrict_eq s d _ c

/-! ### The answer to a write of one field -/

theorem still_free (still : standsStill s d = true) {id : Nat} (feed : id ≠ 1) (priority : id ≠ 5) :
    districtBusy s d [(id, v)] = false := by
  have noFeed : names [(id, v)] 1 = false := names_absent (by simpa using feed)
  have noPriority : names [(id, v)] 5 = false := names_absent (by simpa using priority)
  simp [districtBusy, still, noFeed, noPriority]

theorem feed_free (still : standsStill s d = true) (apart : episodeMember s d = false)
    (noProbe : probeKindOf (s.district d).st = none) (noEntry : entryOf (s.district d).st = none) :
    districtBusy s d [(1, v)] = false := by
  have queued : lookQueued s d = false := by
    rw [Bool.eq_false_iff, ne_eq, lookQueued_iff]
    rintro ⟨cause, st⟩
    simp [st, entryOf] at noEntry
  have inFlight : lookInFlight s d = false := by
    rw [Bool.eq_false_iff, ne_eq, lookInFlight_iff]
    rintro ⟨cause, st⟩
    simp [st, probeKindOf] at noProbe
  simp [districtBusy, still, apart, queued, inFlight]

/-- What the write of value `w` to field `id` answers from state `s`, where it leaves state `u`. -/
def OneFieldWritten (s : State) (src : Byte) (d : DistrictId) (id w : Byte) (u : State) : Prop :=
  exec (.setDistrict src [byte d.val, id, w]) s = .next (answered s u src 0x40#8 .ok
    [id, byte (if id = 17#8 then max 1 (min 15 w.toNat) else w.toNat)])

/-- A write of one field is received, from a node with a slot, with no profile write in flight. -/
structure OneFieldTaken (s : State) (src : Byte) : Prop where
  taken : Taken s src []
  joined : slotOf s src ≠ none
  idle : s.writing = none

theorem boolCode_byte (b : Bool) : (byte (boolCode b)).toNat = boolCode b := by cases b <;> rfl

theorem oneField_parsed {id w : Byte} (width : districtWidth id.toNat = some .one) :
    parseEntries districtWidth [id, w] = some [(id.toNat, w.toNat)] := by
  rw [parseEntries, splitEntries_one width]
  rfl

/-- `i` is the number of the field and `x` the value written. -/
theorem oneField_answers (ready : OneFieldTaken s src) {id w : Byte} (i : Nat) {x : Nat} (number : id.toNat = i)
    (value : w.toNat = x) (width : districtWidth i = some .one) (values : takeDistrict (s.dcfg d) [(i, x)] = some k)
    (free : districtBusy s d [(i, x)] = false)
    (field : (if id = 17#8 then max 1 (min 15 x) else x) = districtField k i)
    (effect : arbitrate s (writeDistrict d [(i, x)] k s) = u) : OneFieldWritten s src d id w u := by
  subst number value
  obtain ⟨⟨receiving, low, high, -⟩, joined, idle⟩ := ready
  have taken : Taken s src (byte d.val :: [id, w]) := ⟨receiving, low, high, by simp⟩
  have answer := setDistrict_parsed taken (oneField_parsed width)
  have echoed : echo districtWidth (districtField k) [(id.toNat, w.toNat)] =
      [id, byte (if id = 17#8 then max 1 (min 15 w.toNat) else w.toNat)] := by
    simp [echo, entryBytes, width, byte_of_toNat, field]
  rw [values] at answer
  simp only [free, joined, idle, echoed, effect, Bool.false_eq_true, if_false, Option.isSome_none] at answer
  exact answer

/-- The look after a write that moves no queue, frees no channel and ends no stall. -/
theorem arbitrate_marked (channels : u.channels = s.channels) (queues : u.queues = s.queues) (feeds : u.feeds = s.feeds)
    (mode : u.mode = s.mode) : arbitrate s (markDistrict [.config] d u) = markDistrict [.config] d u :=
  arbitrate_idle (fun c => by simp [State.channel, channels]) (by simp [queues]) (by simp [feeds]) (by simp [mode])

section
variable (ready : OneFieldTaken s src) (still : standsStill s d = true)
include ready still

theorem limit_answers (w : Byte) {k : DistrictConfig}
    (stored : { s.dcfg d with lockoutLimit := max 1 (min 15 w.toNat) } = k)
    (effect : limitWritten d k (s.setDcfg d k) = u) :
    OneFieldWritten s src d 17#8 w (markDistrict [.config] d u) := by
  subst stored effect
  refine oneField_answers ready 17 rfl rfl rfl takeDistrict_limit (still_free still (by decide) (by decide)) rfl ?_
  rw [writeDistrict_limit]
  exact arbitrate_marked rfl rfl rfl rfl

theorem feed_answers (f : FeedId) (apart : episodeMember s d = false)
    (noProbe : probeKindOf (s.district d).st = none) (noEntry : entryOf (s.district d).st = none) :
    OneFieldWritten s src d 1#8 (byte f.val) (markDistrict [.config] d (s.setDcfg d { s.dcfg d with feed := f })) := by
  refine oneField_answers ready 1 rfl (byte_toNat (by omega)) rfl takeDistrict_feed
    (feed_free still apart noProbe noEntry) rfl ?_
  rw [writeDistrict_plain (by simp)]
  exact arbitrate_marked rfl rfl rfl rfl

theorem reversing_answers (b : Bool) {k : DistrictConfig} (stored : { s.dcfg d with reversing := b } = k)
    (effect : reversingWritten d k (s.setDcfg d k) = u) :
    OneFieldWritten s src d 3#8 (byte (boolCode b)) (markDistrict [.config] d u) := by
  subst stored effect
  refine oneField_answers ready 3 rfl (boolCode_byte b) rfl takeDistrict_reversing
    (still_free still (by decide) (by decide)) rfl ?_
  rw [writeDistrict_reversing]
  cases b <;> exact arbitrate_marked rfl rfl rfl rfl

theorem policy_answers (p : Policy) {k : DistrictConfig} (stored : { s.dcfg d with policy := p } = k)
    (effect : policyWritten s d k (s.setDcfg d k) = u) :
    OneFieldWritten s src d 2#8 (byte (policyCode p)) (arbitrate s (markDistrict [.config] d u)) := by
  subst stored effect
  have value : (byte (policyCode p)).toNat = policyCode p := by cases p <;> rfl
  refine oneField_answers ready 2 rfl value rfl takeDistrict_policy (still_free still (by decide) (by decide)) rfl ?_
  rw [writeDistrict_policy]

theorem policy_answers_quietly (p : Policy) {k : DistrictConfig} (stored : { s.dcfg d with policy := p } = k)
    (effect : policyWritten s d k (s.setDcfg d k) = u) (channels : u.channels = s.channels)
    (queues : u.queues = s.queues) (feeds : u.feeds = s.feeds) (mode : u.mode = s.mode) :
    OneFieldWritten s src d 2#8 (byte (policyCode p)) (markDistrict [.config] d u) := by
  have answer := policy_answers ready still p stored effect
  rwa [arbitrate_marked channels queues feeds mode] at answer

theorem patrol_answers (b : Bool) {k : DistrictConfig} (stored : { s.dcfg d with patrol := b } = k)
    (effect : patrolWritten s d k (s.setDcfg d k) = u) (channels : u.channels = s.channels)
    (queues : u.queues = s.queues) (feeds : u.feeds = s.feeds) (mode : u.mode = s.mode) :
    OneFieldWritten s src d 4#8 (byte (boolCode b)) (markDistrict [.config] d u) := by
  subst stored effect
  refine oneField_answers ready 4 rfl (boolCode_byte b) rfl takeDistrict_patrol (still_free still (by decide) (by decide))
    rfl ?_
  rw [writeDistrict_patrol]
  exact arbitrate_marked channels queues feeds mode
end

end Sys2Proof.Machine
end

section
open Sys2Proof Sys2Proof.Machine
/-- Settles O40: a district write is four effects, each of them spelled by the district's state; a write of one field
takes its own, and the Arbiter looks only where a look ends or the district is queued. -/
theorem setDistrictEffects : Obligations.SetDistrictEffects := by
  refine ⟨fun s d es c => ?_, fun s src v d n taken joined idle still => ?_⟩
  · intro named limit reversing policy patrol
    have limitIs (u : State) : whenNamed es 17 (limitWritten d c) u = limit u := rfl
    have reversingIs (u : State) : whenNamed es 3 (reversingWritten d c) u = reversing u := by
      show (if names es 3 = true then if c.reversing then u else _ else u) =
        if names es 3 = true ∧ c.reversing = false then _ else u
      cases names es 3 <;> cases c.reversing <;> rfl
    have policyIs (u : State) : whenNamed es 2 (policyWritten s d c) u = policy u := by
      show (if names es 2 = true then policyWritten s d c u else u) =
        if names es 2 = false then u else policyWritten s d c u
      cases names es 2 <;> rfl
    have patrolIs (u : State) : whenNamed es 4 (patrolWritten s d c) u = patrol u := by
      show (if names es 4 = true then if isLocked (u.district d).st = true then _ else u else u) =
        if names es 4 = true ∧ isLocked (u.district d).st = true then _ else u
      exact (ite_and ..).symm
    refine ⟨?_, writeDistrict_plain⟩
    rw [writeDistrict_eq, limitIs, reversingIs, policyIs, patrolIs]
  intro k r written mark
  have ready : OneFieldTaken s src := ⟨taken, by simp [joined], idle⟩
  refine ⟨?_, fun f => feed_answers ready still f, ?_, ?_, ?_, fun p lit => ?_, fun locked => ?_, fun free => ?_⟩
  · intro limit
    have effect : limitWritten d { k with lockoutLimit := limit } (s.setDcfg d { k with lockoutLimit := limit }) =
        (s.setDcfg d { k with lockoutLimit := limit }).setDistrict d { r with
          failures := if isLocked r.st then min r.failures limit else min r.failures (limit - 1) } := by
      rw [← apply_ite (min r.failures)]
      rfl
    exact limit_answers ready still v rfl effect
  · exact reversing_answers ready still false rfl (reversingWritten_off rfl)
  · exact reversing_answers ready still true rfl (reversingWritten_on rfl)
  · intro dark off
    have policy : policyWritten s d { k with policy := .dark } dark = darkWritten d { k with policy := .dark } dark := rfl
    refine ⟨fun st => ?_, fun st => ?_, fun cause st => ?_, fun cause c st held => ?_⟩
    · exact policy_answers_quietly ready still .dark rfl (policy.trans (darkWritten_off st)) rfl rfl rfl rfl
    · exact policy_answers_quietly ready still .dark rfl (policy.trans (darkWritten_still st)) rfl rfl rfl rfl
    · exact policy_answers ready still .dark rfl (policy.trans (darkWritten_lookQueued st))
    · exact policy_answers ready still .dark rfl (policy.trans (darkWritten_lookInFlight (u := dark) st held))
  · intro u w
    have policy : policyWritten s d { k with policy := p } u = litWritten s d { k with policy := p } u := if_neg lit
    refine ⟨fun st standby => ?_, fun st run isolated => ?_, fun st run free => ?_, fun st => ?_, fun x st held => ?_,
      fun locked => ?_⟩
    · exact policy_answers_quietly ready still p rfl (policy.trans (litWritten_standby st standby)) rfl rfl rfl rfl
    · exact policy_answers_quietly ready still p rfl (policy.trans (litWritten_isolatedOff st run isolated))
        rfl rfl rfl rfl
    · exact policy_answers ready still p rfl (policy.trans (litWritten_freeOff st run free rfl rfl))
    · refine policy_answers_quietly ready still p rfl (policy.trans (litWritten_awaiting st)) ?_ ?_ ?_ ?_ <;> split <;> rfl
    · exact policy_answers_quietly ready still p rfl (policy.trans (litWritten_isolated st held)) rfl rfl rfl rfl
    · exact policy_answers_quietly ready still p rfl (policy.trans (litWritten_locked locked)) rfl rfl rfl rfl
  · refine ⟨patrol_answers ready still false rfl (patrolWritten_off locked rfl) rfl rfl rfl rfl, ?_⟩
    intro u
    refine patrol_answers ready still true rfl (patrolWritten_on locked rfl) ?_ ?_ ?_ ?_ <;> split <;> rfl
  · exact ⟨patrol_answers ready still true rfl (patrolWritten_unlocked free) rfl rfl rfl rfl,
      patrol_answers ready still false rfl (patrolWritten_unlocked free) rfl rfl rfl rfl⟩
end
